-- ==== Sys2Proof/Word.lean ====
section
/-!
DEFINITION. The word types of the CPS-412: what the manual itself treats as bits. Currents, voltages, angles, duties, counts
and durations are whole numbers with exact arithmetic (Conventions, Table 0-6) and are `Nat` throughout the model.
-/
namespace Sys2Proof

/-- One byte of a frame, of a local-port exchange or of the configuration record; also a number 0–255 that wraps
(a STATE sequence, a gap serial, an alarm number). -/
abbrev Byte := BitVec 8

/-- Station time: a count of milliseconds, 32 bits wide, which wraps (Conventions, Time). -/
abbrev StationTime := BitVec 32

/-- A station number, 0–7. -/
abbrev Station := Fin 8

end Sys2Proof
end

