-- ==== Sys2Proof/Config.lean ====
section
/-!
DEFINITION. What the model fixes because the manual leaves it to something outside the part. The manual leaves no result of a
command undefined, so there is no free value here (assumption log 30).
-/
namespace Sys2Proof

/-- The station number the straps give at the power-on reset that `State.reset` stands after. DESIGN CHOICE (assumption log 4,
unsafe): the straps are an input and the manual gives them no value. Every later reset takes the straps from its command. -/
def Config.strapsAtReset : Station := 0

end Sys2Proof
end

