-- ==== Sys2Proof/Syntax.lean ====
section
/-!
DEFINITION. The commands of the CPS-412: one constructor of `Instr` per row of spec/opcode_table.json.

Every command but the four that begin or end a reset carries `dt`, the microseconds elapsed since the command before it
(assumption log 1). The other operands are what the event brings with it: the edges of an input, the bytes on the line or in a
request frame, the levels of the strap pins.
-/
namespace Sys2Proof

/-- The two poles (Pole Watch). -/
inductive PoleId where
  | p | n
  deriving DecidableEq, Repr

/-- One edge of an angle input (R23), rising or falling, `after` nanoseconds from the edge of that input before it; for the first one
since listen entry, from listen entry. -/
structure AngleEdge where
  rising : Bool
  after : Nat
  deriving DecidableEq, Repr

/-- What the inputs brought since the last window completion: how many rising edges on V/f (R1), and the edges of the two angle
inputs in their order (R23). -/
structure WindowInput where
  edges : Nat
  angleP : List AngleEdge
  angleN : List AngleEdge
  deriving DecidableEq, Repr

/-- A chip-select frame that ends (R138): the time since the command before, and how many bits the processor had read in it when a
reset abandoned it, 0 for a frame that no reset abandoned. -/
structure PortFrame where
  dt : Nat
  cut : Nat
  deriving DecidableEq, Repr

/-- The level of the I2C data line at the five instants of a read attempt that can fail it (R154), true for high: at the start
condition, at the ninth clock of the address with the write direction and of the word address, at the repeated start, and at the
ninth clock of the address with the read direction. -/
structure BusLevels where
  atStart : Bool
  atWriteAddress : Bool
  atWordAddress : Bool
  atRestart : Bool
  atReadAddress : Bool
  deriving DecidableEq, Repr

/-- A read attempt that fails: the time since the command before, and the levels of the data line. -/
structure FailedAttempt where
  dt : Nat
  levels : BusLevels
  deriving DecidableEq, Repr

/-- The deadline of the read: the time since the command before, and how many of its steps an attempt in progress has made. -/
structure ReadDeadline where
  dt : Nat
  done : Nat
  deriving DecidableEq, Repr

/-- The commands. -/
inductive Instr where
  /-- POWER_ON_RESET: the supply reaches its operating level; the straps and chip select as they then stand. -/
  | powerOnReset (straps : BitVec 3) (csAsserted : Bool)
  /-- RESET_PIN: the reset pin is released. -/
  | resetPin (straps : BitVec 3) (csAsserted : Bool)
  /-- CONFIG_ATTEMPT_FAILED: a read attempt fails on these levels of the data line. -/
  | configAttemptFailed (failed : FailedAttempt)
  /-- CONFIG_READ_RETRY: a new attempt begins 1 ms after a failure. -/
  | configReadRetry (dt : Nat)
  /-- CONFIG_READ_COMPLETE: the attempt has read these bytes and completed its stop condition. -/
  | configReadComplete (dt : Nat) (bytes : List Byte)
  /-- CONFIG_READ_DEADLINE: 20 ms after CONFIGURING began. -/
  | configReadDeadline (deadline : ReadDeadline)
  /-- POST_DEMAND: a request frame with this argument ends. -/
  | postDemand (frame : PortFrame) (amperes : BitVec 16)
  /-- POST_SOURCE. -/
  | postSource (frame : PortFrame) (amperes : BitVec 16)
  /-- CAP_CEILING. -/
  | capCeiling (frame : PortFrame) (amperes : BitVec 16)
  /-- ACK_ALARM. -/
  | ackAlarm (frame : PortFrame)
  /-- RELEASE_RETRIEVE: the pole argument byte. -/
  | releaseRetrieve (frame : PortFrame) (pole : Byte)
  /-- READ_STATUS. -/
  | readStatus (frame : PortFrame)
  /-- READ_PEER: the station argument byte. -/
  | readPeer (frame : PortFrame) (station : Byte)
  /-- READ_ALARMS. -/
  | readAlarms (frame : PortFrame)
  /-- READ_HISTORY: the index argument byte. -/
  | readHistory (frame : PortFrame) (index : Byte)
  /-- CLEAR_ATTENTION: the cause argument byte. -/
  | clearAttention (frame : PortFrame) (cause : Byte)
  /-- CLEAR_COUNTERS. -/
  | clearCounters (frame : PortFrame)
  /-- MODULE_RESET: the reset reads the straps as they then stand. -/
  | moduleReset (frame : PortFrame) (straps : BitVec 3)
  /-- UNKNOWN_REQUEST: the complete bytes of a frame that fails the length or request-known check, and the bits of an
  incomplete last byte. -/
  | unknownRequest (frame : PortFrame) (bytes : List Byte) (strayBits : Nat)
  /-- WINDOW_COMPLETION: a 10 ms voltage window ends. -/
  | windowCompletion (dt : Nat) (input : WindowInput)
  /-- REWIRE_CONFIRM: the window completion whose evaluation takes this RAISING pole to ON_WIRE. -/
  | rewireConfirm (dt : Nat) (input : WindowInput) (pole : PoleId)
  /-- SUSPICION_CONFIRM: the window completion whose evaluation ends this pole's suspicion in DEWIRED. -/
  | suspicionConfirm (dt : Nat) (input : WindowInput) (pole : PoleId)
  /-- RETRIEVE_TIMEOUT: the window completion whose evaluation times this DEWIRED pole out. -/
  | retrieveTimeout (dt : Nat) (input : WindowInput) (pole : PoleId)
  /-- HEAD_WINDOW_COMPLETION: a head window of this pole ends, with the edges counted in it. -/
  | headWindowCompletion (dt : Nat) (pole : PoleId) (edges : Nat)
  /-- CALIBRATION_INTERVAL_END. -/
  | calibrationIntervalEnd (dt : Nat)
  /-- GAP_LIMIT_EXPIRY. -/
  | gapLimitExpiry (dt : Nat)
  /-- RESTORE_DELAY_EXPIRY. -/
  | restoreDelayExpiry (dt : Nat)
  /-- PERIOD_BOUNDARY. -/
  | periodBoundary (dt : Nat)
  /-- LISTEN_PHASE_END: the boundary at which the listen phase ends. -/
  | listenPhaseEnd (dt : Nat)
  /-- PEER_STALE: the boundary at which this station's entry becomes STALE. -/
  | peerStale (dt : Nat) (station : Station)
  /-- PEER_LOST: the boundary at which this station's entry is removed. -/
  | peerLost (dt : Nat) (station : Station)
  /-- DEMAND_TIMEOUT: the boundary at which the demand silence count reaches the timeout. -/
  | demandTimeout (dt : Nat)
  /-- SOURCE_TIMEOUT: the boundary at which the source silence count reaches the timeout. -/
  | sourceTimeout (dt : Nat)
  /-- ACK_PENDING_LAPSE: the boundary at which the ack pending of this alarm lapses. -/
  | ackPendingLapse (dt : Nat) (origin : Station) (number : Byte)
  /-- STATE_FRAME: further idle bit times of the line, then these bytes. -/
  | stateFrame (dt : Nat) (idle : Nat) (bytes : List Byte)
  /-- ALARM_FRAME. -/
  | alarmFrame (dt : Nat) (idle : Nat) (bytes : List Byte)
  /-- ACK_FRAME. -/
  | ackFrame (dt : Nat) (idle : Nat) (bytes : List Byte)
  /-- GAP_START_FRAME. -/
  | gapStartFrame (dt : Nat) (idle : Nat) (bytes : List Byte)
  /-- GAP_END_FRAME. -/
  | gapEndFrame (dt : Nat) (idle : Nat) (bytes : List Byte)
  /-- CLASH_FRAME. -/
  | clashFrame (dt : Nat) (idle : Nat) (bytes : List Byte)
  /-- RECEIVE_FAULT: as a frame; `framing` says that the stop bit of the last byte read 0. -/
  | receiveFault (dt : Nat) (idle : Nat) (bytes : List Byte) (framing : Bool)
  /-- FRAME_TRUNCATION: as a frame, then `gap` idle bit times inside it. -/
  | frameTruncation (dt : Nat) (idle : Nat) (bytes : List Byte) (gap : Nat)
  /-- DEFERRAL_REACHED: the line has stood idle for `idle` further bit times. -/
  | deferralReached (dt : Nat) (idle : Nat)
  /-- COLLISION_ABORT: the bit of the frame being sent (0 is the first start bit) at which RXD differs. -/
  | collisionAbort (dt : Nat) (bit : Nat)
  /-- TRANSMIT_SUCCESS. -/
  | transmitSuccess (dt : Nat)
  /-- SUSPENSION_EXPIRY. -/
  | suspensionExpiry (dt : Nat)
  /-- ACK_BUTTON_PRESS: the input has stood at the pressed level for `stood` ms. -/
  | ackButtonPress (dt : Nat) (stood : Nat)
  /-- ACK_BUTTON_RELEASE: the input has stood at the released level for `stood` ms. -/
  | ackButtonRelease (dt : Nat) (stood : Nat)
  /-- FLASH_CLOCK_TOGGLE. -/
  | flashClockToggle (dt : Nat)
  /-- SOUNDING_TIMER_EXPIRY. -/
  | soundingTimerExpiry (dt : Nat)
  /-- REMINDER_TIMER_EXPIRY. -/
  | reminderTimerExpiry (dt : Nat)
  /-- RESET_PIN_ASSERTED. -/
  | resetPinAsserted
  /-- SUPPLY_BELOW_OPERATING_LEVEL. -/
  | supplyBelowOperatingLevel
  /-- LIMIT_PERIOD_OPENS. -/
  | limitPeriodOpens (dt : Nat)
  /-- LIMIT_DUTY_REACHED. -/
  | limitDutyReached (dt : Nat)
  deriving DecidableEq, Repr

end Sys2Proof
end

