-- ==== Sys2Proof/Machine/State.lean ====
section
/-!
DEFINITION. The state of one CPS-412, block by block as Table 0-5 lists the blocks, and the machine right after a power-on
reset. Everything here is plain data.
-/
namespace Sys2Proof.Machine

/-! ### Names the blocks share -/

/-- Roles (Table 0-2). -/
inductive Role where
  | col | trc | aux | hva | bat | dsk | gen
  deriving DecidableEq, Repr

/-- States of the supply view (R11). -/
inductive View where
  | gap | offLine | restoring | onLine
  deriving DecidableEq, Repr

/-- Alarm kinds (R117). -/
inductive AlarmKind where
  | dewire | lineDead | retrieveFail
  deriving DecidableEq, Repr

/-- The poles of an alarm; `none` is "absent", for LINE_DEAD. -/
inductive PoleSet where
  | none | p | n | both
  deriving DecidableEq, Repr

/-- The phase of an open alarm (R117). -/
inductive Phase where
  | activeUnack | activeAcked | clearedUnack
  deriving DecidableEq, Repr

/-- The phase an ALARM notice carries (R65): that of an open alarm, or CLOSED with the reason NORMAL or FORCED. -/
inductive NoticePhase where
  | opened (p : Phase)
  | closed (forced : Bool)
  deriving DecidableEq, Repr

/-- Close reasons (Table 7-6). -/
inductive CloseReason where
  | normal | forced | originRestarted
  deriving DecidableEq, Repr

/-- One item of an alarm summary (R59). -/
structure SummaryItem where
  number : Byte
  kind : AlarmKind
  poles : PoleSet
  phase : Phase
  deriving DecidableEq, Repr

/-- The fields of a STATE frame (R58). The voltage-present and discharge-present flags are that the field is there (R71). -/
structure StateFields where
  boot : Bool
  timedOut : Bool
  role : Role
  cls : Nat
  weight : Nat
  seq : Byte
  view : View
  demand : Nat
  floor : Nat
  ceiling : Nat
  grant : Nat
  voltage : Option Nat
  discharge : Option Nat
  summary : List SummaryItem
  deriving DecidableEq, Repr

/-- The content of an ALARM notice (R65). -/
structure AlarmContent where
  number : Byte
  kind : AlarmKind
  poles : PoleSet
  phase : NoticePhase
  raiseTime : StationTime
  deriving DecidableEq, Repr

/-- The content of an ACK notice (R65). -/
structure AckContent where
  origin : Station
  number : Byte
  deriving DecidableEq, Repr

/-- The content of a GAP notice (R65): START or END, and the gap serial. -/
structure GapContent where
  start : Bool
  serial : Byte
  deriving DecidableEq, Repr

/-- The payload of a frame, by kind (R47). -/
inductive Body where
  | state (f : StateFields)
  | alarm (a : AlarmContent)
  | ack (a : AckContent)
  | gap (g : GapContent)
  deriving DecidableEq, Repr

/-- A frame that has passed every receive check: its source and its payload. -/
structure Frame where
  source : Station
  body : Body
  deriving DecidableEq, Repr

/-! ### Configuration Loader (Start-up and Configuration) -/

/-- The 39 fields of the configuration record as decoded (Table 9-2); `role` is `none` for a code that names no role. -/
structure Record where
  version : Nat
  role : Option Role
  cls : Nat
  weight : Nat
  voltageInput : Bool
  ackButton : Bool
  lampEnabled : Bool
  buzzerEnabled : Bool
  cfgFloor : Nat
  onLineCeiling : Nat
  offWireCeiling : Nat
  period : Nat
  rampStep : Nat
  staleCount : Nat
  lostCount : Nat
  demandTimeout : Nat
  slotLength : Nat
  fzero : Nat
  kv : Nat
  vGap : Nat
  vReturn : Nat
  returnConfirm : Nat
  lmax : Nat
  vknee : Nat
  vfloor : Nat
  gapLimit : Nat
  amin : Nat
  amax : Nat
  adown : Nat
  rateLimit : Nat
  headWindow : Nat
  sensitivity : Nat
  calInterval : Nat
  rewireConfirm : Nat
  suspicionConfirm : Nat
  retrieveTimeout : Nat
  buzzDuration : Nat
  /-- in seconds -/
  reminder : Nat
  /-- the levels of causes 0 and 2–11, in that order -/
  levels : List Nat
  deriving DecidableEq, Repr

/-- Run states (Table 9-1). -/
inductive RunState where
  | configuring | listen | running | configFault | txSuspended | clash
  deriving DecidableEq, Repr

/-- Reset causes (R153). -/
inductive ResetCause where
  | powerOn | resetPin | request
  deriving DecidableEq, Repr

/-- The configuration fault field (R153, R155). -/
inductive ConfigFault where
  | none | noAnswer | crcFault | field (n : Nat)
  deriving DecidableEq, Repr

/-- The read attempt (R154). -/
inductive ReadAttempt where
  | idle
  | inProgress
  | failed (since : StationTime)
  deriving DecidableEq, Repr

/-- The reset pin (R153): released, asserted and holding a module reset, or asserted as part of a power-on reset. -/
inductive PinHold where
  | released | holding | absorbed
  deriving DecidableEq, Repr

/-- One step of a read of the configuration memory on the I2C bus (R154). -/
inductive BusStep where
  /-- a start condition -/
  | start
  /-- an address and its direction, which is read or write -/
  | address (device : BitVec 7) (reads : Bool)
  /-- a word address -/
  | word (byte : Byte)
  /-- a byte read from the memory, answered with an acknowledge or without one -/
  | read (acknowledged : Bool)
  /-- a stop condition -/
  | stop
  deriving DecidableEq, Repr

structure Loader where
  station : Station
  run : RunState
  /-- a power-on reset is held -/
  supplyLow : Bool
  pin : PinHold
  /-- the start of CONFIGURING, from which the read deadline counts -/
  readStart : StationTime
  attempt : ReadAttempt
  /-- the steps that the last attempt to end put on the bus (assumption log 28) -/
  bus : List BusStep
  received : List Byte
  locked : Option Record
  fault : ConfigFault
  cause : ResetCause
  deriving DecidableEq, Repr

/-! ### Supply Watch -/

/-- An outstanding GAP_START record (R12). -/
structure GapRecord where
  source : Station
  serial : Byte
  deriving DecidableEq, Repr

structure Supply where
  /-- edges so far in the window in progress -/
  count : Nat
  windowStart : Option StationTime
  /-- the last four window voltages, oldest first -/
  volts : List Nat
  run : Nat
  voltageOk : Bool
  hadPulses : Bool
  view : View
  gapStart : Option StationTime
  records : List GapRecord
  deriving DecidableEq, Repr

/-! ### Pole Watch -/

/-- Pole states (Table 2-4), and NOT_EVALUATED before the first evaluation. -/
inductive PoleState where
  | notEvaluated | stowed | raising | onWire | suspect | dewired | lowered | unwatched
  deriving DecidableEq, Repr

/-- Head verdicts (R26). -/
inductive Verdict where
  | noEvidence | low | present
  deriving DecidableEq, Repr

/-- One complete period of an angle input in whole microseconds (R23): its high time and its length. -/
structure AnglePeriod where
  high : Nat
  period : Nat
  deriving DecidableEq, Repr

/-- A period of an angle input that is open (R23): the nanoseconds from its opening rising edge to the last edge taken, and to its
falling edge once that has come. -/
structure OpenPeriod where
  elapsed : Nat
  high : Option Nat
  deriving DecidableEq, Repr

structure Pole where
  /-- the period that the last rising edge opened; none until the first one after listen entry -/
  opened : Option OpenPeriod
  /-- the last complete period of the evaluation span, until its evaluation has used it -/
  capture : Option AnglePeriod
  prevAngle : Option Nat
  /-- the previous evaluation gave `prevAngle` (R25) -/
  prevUsable : Bool
  anglePresent : Bool
  headCount : Nat
  headStart : Option StationTime
  verdict : Verdict
  baseline : Nat
  calSum : Nat
  calTally : Nat
  state : PoleState
  firstMark : Bool
  carried : Bool
  runStart : Option StationTime
  suspicionStart : Option StationTime
  dewiredAt : Option StationTime
  timedOut : Bool
  retrieve : Bool
  deriving DecidableEq, Repr

/-- An active-alarm record that is not empty (R39); the reached marks are RETRIEVE_FAIL's. -/
structure ActiveAlarm where
  number : Byte
  poles : PoleSet
  reachedP : Bool
  reachedN : Bool
  deriving DecidableEq, Repr

structure PoleWatch where
  p : Pole
  n : Pole
  dewire : Option ActiveAlarm
  retrieveFail : Option ActiveAlarm
  lineDead : Option ActiveAlarm
  openGap : Option Byte
  gapSerial : Byte
  calStart : Option StationTime
  deriving DecidableEq, Repr

/-! ### Station Line Controller -/

/-- The receiver (R49). -/
inductive Receiver where
  | hunting
  | inFrame (bytes : List Byte)
  deriving DecidableEq, Repr

/-- What a frame on the wire was taken from (R54); a STATE remembers whether it was built with the boot flag (R58). -/
inductive Sending where
  | gap | alarm | ack
  | state (boot : Bool)
  deriving DecidableEq, Repr

/-- The attempt in progress and its bytes, which are fixed when it starts (R54). What its start bit changed in the receiver is kept:
the receiver ignores a start bit that reads 1 (R46; assumption log 9). -/
structure Attempt where
  what : Sending
  bytes : List Byte
  /-- the receiver before the start bit -/
  rxBefore : Receiver
  /-- the line idle time before the start bit -/
  idleBefore : Nat
  /-- REC before the start bit -/
  recvBefore : Nat
  deriving DecidableEq, Repr

/-- A notice of the queue (R60): its content, its attempt count, whether the attempt in progress is its own, and
whether it was renewed during that attempt (R61). -/
structure Notice (α : Type) where
  content : α
  attempts : Nat
  onWire : Bool
  renewed : Bool
  deriving DecidableEq, Repr

structure Line where
  rx : Receiver
  idle : Nat
  attempt : Option Attempt
  /-- the microsecond since reset of the last success, after which the last stop bit is still to be sent (R56) -/
  sentAt : Option Nat
  stateWaiting : Bool
  gapPart : Option (Notice GapContent)
  /-- the GAP notice is a GAP_END that pairs with the GAP_START on the wire (R62) -/
  gapPairing : Bool
  alarmPart : List (Notice AlarmContent)
  ackPart : List (Notice AckContent)
  tec : Nat
  recv : Nat
  seq : Byte
  statesSent : Nat
  suspendedAt : Option StationTime
  /-- the next frame is the first STATE after a suspension (R67) -/
  stateFirst : Bool
  deriving DecidableEq, Repr

/-! ### Peer Table -/

/-- Freshness of an entry, with the claim of a STALE one (R71). -/
inductive Freshness where
  | fresh
  | stale (claim : Nat)
  deriving DecidableEq, Repr

/-- A Peer Table entry (Table 4-2). -/
structure Peer where
  station : Station
  fields : StateFields
  heard : StationTime
  age : Nat
  freshness : Freshness
  deriving DecidableEq, Repr

/-! ### Share Engine and Shed Sequencer -/

structure Share where
  /-- the station time of listen entry or of the last boundary -/
  boundaryAt : Option StationTime
  /-- k: the boundaries since listen entry -/
  boundaries : Nat
  grant : Nat
  pendingGrant : Option Nat
  target : Nat
  budget : Nat
  demand : Nat
  discharge : Nat
  cap : Nat
  ceiling : Nat
  floor : Nat
  limitHigh : Bool
  /-- microseconds since the PWM period opened -/
  limitElapsed : Option Nat
  deriving DecidableEq, Repr

/-- A running restore delay (R109, R110). -/
structure RestoreDelay where
  start : StationTime
  rank : Nat
  delay : Nat
  deriving DecidableEq, Repr

structure Shed where
  restore : Option RestoreDelay
  demandSilence : Nat
  demandTimedOut : Bool
  sourceSilence : Nat
  sourceTimedOut : Bool
  /-- a POST_DEMAND has been taken since the last boundary -/
  demandTaken : Bool
  /-- a POST_SOURCE has been taken since the last boundary -/
  sourceTaken : Bool
  deriving DecidableEq, Repr

/-! ### Alarm Table and Annunciator -/

/-- Ack pending (R117, R132). -/
inductive AckPending where
  | absent | queued
  | sent (count : Nat)
  deriving DecidableEq, Repr

/-- An alarm entry (Table 7-2). -/
structure AlarmEntry where
  origin : Station
  number : Byte
  kind : AlarmKind
  poles : PoleSet
  phase : Phase
  raiseTime : Option StationTime
  heard : StationTime
  ack : AckPending
  orphaned : Bool
  deriving DecidableEq, Repr

/-- A history record (R136). -/
structure HistoryRecord where
  origin : Station
  number : Byte
  kind : AlarmKind
  poles : PoleSet
  raiseTime : Option StationTime
  closeTime : StationTime
  acknowledged : Bool
  reason : CloseReason
  deriving DecidableEq, Repr

/-- Lamp states (R133). -/
inductive Lamp where
  | off | flashing | steady
  deriving DecidableEq, Repr

structure Alarms where
  table : List AlarmEntry
  nextNumber : Byte
  buttonArmed : Bool
  /-- the millisecond since reset from which the present debounce can run (R130) -/
  debounceStart : Nat
  lamp : Lamp
  lampLit : Bool
  flashStart : Option StationTime
  buzzer : Bool
  soundStart : Option StationTime
  reminderStart : Option StationTime
  history : List HistoryRecord
  deriving DecidableEq, Repr

/-! ### Local Port -/

/-- Status codes (Table 8-2). -/
inductive Status where
  | noResponse | ok | unknownRequest | badLength | notRunning | wrongRole | wrongState | notAllowed | noTarget | queueFull
  deriving DecidableEq, Repr

/-- The held response (R139). -/
structure Response where
  status : Status
  echo : Byte
  payload : List Byte
  deriving DecidableEq, Repr

/-- Sources of SENSOR_FAULT (R149). -/
inductive SensorSource where
  | voltage | angleP | angleN
  deriving DecidableEq, Repr

structure Port where
  /-- a frame abandoned by a reset has not ended yet (R138) -/
  abandoned : Bool
  /-- the bytes of the request frame -/
  request : List Byte
  held : Response
  /-- the response that stood held when the last reset began (assumption log 28) -/
  lost : Response
  /-- the bits that the data output presented during the last frame, in the order presented -/
  shifted : List Bool
  postedDemand : Nat
  postedSource : Nat
  postedCap : Nat
  /-- bit n is set while cause n is pending -/
  attention : BitVec 12
  sensorSource : Option SensorSource
  deriving DecidableEq, Repr

/-! ### The whole station -/

/-- Station time, the microseconds passed within its present millisecond, and the milliseconds since reset as a count that does not
wrap (assumption log 28). -/
structure Clock where
  ms : StationTime
  us : Nat
  up : Nat
  deriving DecidableEq, Repr

/-- The state of the station and the commands that wait. -/
structure State where
  clock : Clock
  loader : Loader
  supply : Supply
  poles : PoleWatch
  line : Line
  peers : List Peer
  share : Share
  shed : Shed
  alarms : Alarms
  port : Port
  /-- the commands that wait, first in first out -/
  pending : List Instr
  deriving DecidableEq, Repr

/-- The manual gives no condition that stops the controller: everything it calls a fault is state (R50, R149, R156). -/
inductive Fault where
  /-- Raised by no command and by no step; it stands for "the controller stopped", which the manual never describes. Safe:
  nothing can be concluded from a fault that no command raises. -/
  | stopped
  deriving DecidableEq, Repr

/-- Reasons for refusing a command. -/
inductive Refusal where
  /-- The command has no meaning in this model yet (raised by `exec`'s arm only). Safe: the model stops where the
  hardware goes on. -/
  | notModelled (mnemonic : String)
  deriving DecidableEq, Repr

/-! ### Updating one block -/

/-- `s` with this clock block. -/
def State.withClock (s : State) (x : Clock) : State := { s with clock := x }

/-- `s` with this loader block. -/
def State.withLoader (s : State) (x : Loader) : State := { s with loader := x }

/-- `s` with this supply block. -/
def State.withSupply (s : State) (x : Supply) : State := { s with supply := x }

/-- `s` with this poles block. -/
def State.withPoles (s : State) (x : PoleWatch) : State := { s with poles := x }

/-- `s` with this line block. -/
def State.withLine (s : State) (x : Line) : State := { s with line := x }

/-- `s` with this peers block. -/
def State.withPeers (s : State) (x : List Peer) : State := { s with peers := x }

/-- `s` with this share block. -/
def State.withShare (s : State) (x : Share) : State := { s with share := x }

/-- `s` with this shed block. -/
def State.withShed (s : State) (x : Shed) : State := { s with shed := x }

/-- `s` with this alarms block. -/
def State.withAlarms (s : State) (x : Alarms) : State := { s with alarms := x }

/-- `s` with this port block. -/
def State.withPort (s : State) (x : Port) : State := { s with port := x }

/-! ### Reset values -/

/-- A pole after a power-on reset (R45). -/
def Pole.afterReset : Pole where
  opened := none
  capture := none
  prevAngle := none
  prevUsable := false
  anglePresent := true
  headCount := 0
  headStart := none
  verdict := .noEvidence
  baseline := 0
  calSum := 0
  calTally := 0
  state := .notEvaluated
  firstMark := true
  carried := false
  runStart := none
  suspicionStart := none
  dewiredAt := none
  timedOut := false
  retrieve := false

/-- Pole Watch after a power-on reset (R45). -/
def PoleWatch.afterReset : PoleWatch where
  p := Pole.afterReset
  n := Pole.afterReset
  dewire := none
  retrieveFail := none
  lineDead := none
  openGap := none
  gapSerial := 0
  calStart := none

/-- Supply Watch after either reset (R21). -/
def Supply.afterReset : Supply where
  count := 0
  windowStart := none
  volts := []
  run := 0
  voltageOk := false
  hadPulses := true
  view := .gap
  gapStart := none
  records := []

/-- The Station Line Controller after either reset (R69). R69 and R49 give the line idle time no value from a reset until listen entry;
here it is 0 (DESIGN CHOICE, assumption log 36: unsafe). -/
def Line.afterReset : Line where
  rx := .hunting
  idle := 0
  attempt := none
  sentAt := none
  stateWaiting := false
  gapPart := none
  gapPairing := false
  alarmPart := []
  ackPart := []
  tec := 0
  recv := 0
  seq := 0
  statesSent := 0
  suspendedAt := none
  stateFirst := false

/-- The Share Engine after either reset (R102). -/
def Share.afterReset : Share where
  boundaryAt := none
  boundaries := 0
  grant := 0
  pendingGrant := none
  target := 0
  budget := 0
  demand := 0
  discharge := 0
  cap := 1023
  ceiling := 0
  floor := 0
  limitHigh := false
  limitElapsed := none

/-- The Shed Sequencer after either reset (R116). -/
def Shed.afterReset : Shed where
  restore := none
  demandSilence := 0
  demandTimedOut := false
  sourceSilence := 0
  sourceTimedOut := false
  demandTaken := false
  sourceTaken := false

/-- The Alarm Table and Annunciator after a reset that leaves this history (R137). -/
def Alarms.afterReset (history : List HistoryRecord) : Alarms where
  table := []
  nextNumber := 0
  buttonArmed := false
  debounceStart := 0
  lamp := .off
  lampLit := false
  flashStart := none
  buzzer := false
  soundStart := none
  reminderStart := none
  history := history

/-- The response held after either reset (R139, R152). -/
def Response.afterReset : Response := ⟨.noResponse, 0, []⟩

/-- The Local Port after either reset (R152); `abandoned` says that a frame is in progress, and `lost` is the response that was
held when the reset began. -/
def Port.afterReset (abandoned : Bool) (lost : Response) : Port where
  abandoned := abandoned
  request := []
  held := Response.afterReset
  lost := lost
  shifted := []
  postedDemand := 0
  postedSource := 0
  postedCap := 1023
  attention := 1#12
  sensorSource := none

/-- The Configuration Loader at the end of a reset (R153): the read of the record begins at once (R154). -/
def Loader.afterReset (station : Station) (cause : ResetCause) (pin : PinHold) : Loader where
  station := station
  run := .configuring
  supplyLow := false
  pin := pin
  readStart := 0
  attempt := .inProgress
  bus := []
  received := []
  locked := none
  fault := .none
  cause := cause

/-- The machine right after a power-on reset, with nothing in its queue. The station number is an input, the straps' reading;
here it is `Config.strapsAtReset` (DESIGN CHOICE, assumption log 4: unsafe). Chip select is an input too; here it is deasserted, so
that no abandoned frame is still to end (DESIGN CHOICE, assumption log 33: unsafe). So is the RESET pin, to which the manual gives
no level here; it is released, so that no reset is held (DESIGN CHOICE, assumption log 35: unsafe). -/
def State.reset : State where
  clock := ⟨0, 0, 0⟩
  loader := Loader.afterReset Config.strapsAtReset .powerOn .released
  supply := Supply.afterReset
  poles := PoleWatch.afterReset
  line := Line.afterReset
  peers := []
  share := Share.afterReset
  shed := Shed.afterReset
  alarms := Alarms.afterReset []
  port := Port.afterReset false Response.afterReset
  pending := []

end Sys2Proof.Machine
end

