-- ==== Sys2Proof/Machine/Operands.lean ====
section
/-!
DEFINITION. The formats of chapter 10: what the bytes of a frame, of a request, of a response and of the configuration record
say, in both directions, and the CRC of R48.
-/
namespace Sys2Proof.Machine

/-! ### Numbers in bytes (most significant byte first) -/

def byteOf (n : Nat) : Byte := BitVec.ofNat 8 n

def bytes16 (n : Nat) : List Byte := [byteOf (n / 256), byteOf n]

def bytes32 (t : StationTime) : List Byte :=
  [t.extractLsb' 24 8, t.extractLsb' 16 8, t.extractLsb' 8 8, t.extractLsb' 0 8]

def nat16 (a b : Byte) : Nat := a.toNat * 256 + b.toNat

def time32 (a b c d : Byte) : StationTime := a ++ b ++ c ++ d

/-! ### CRC (R48) -/

/-- One data bit: shift left, and combine with 1021h when the bit shifted out differs from the data bit. -/
def crcBit (r : BitVec 16) (b : Bool) : BitVec 16 :=
  if r.msb != b then (r <<< 1) ^^^ 0x1021#16 else r <<< 1

/-- One byte, from its most significant bit to its least. -/
def crcByte (r : BitVec 16) (x : Byte) : BitVec 16 :=
  [7, 6, 5, 4, 3, 2, 1, 0].foldl (fun r i => crcBit r (x.getLsbD i)) r

def crc16 (bytes : List Byte) : BitVec 16 := bytes.foldl crcByte 0xFFFF#16

/-- The two CRC bytes, most significant first. -/
def crcBytes (bytes : List Byte) : List Byte := bytes16 (crc16 bytes).toNat

/-! ### Codes (Table 10-2) -/

def roleCode : Role → Nat
  | .col => 1 | .trc => 2 | .aux => 3 | .hva => 4 | .bat => 5 | .dsk => 6 | .gen => 7

def roleOf : Nat → Option Role
  | 1 => some .col | 2 => some .trc | 3 => some .aux | 4 => some .hva | 5 => some .bat | 6 => some .dsk | 7 => some .gen
  | _ => none

def viewCode : View → Nat
  | .gap => 0 | .offLine => 1 | .restoring => 2 | .onLine => 3

def viewOf : Nat → Option View
  | 0 => some .gap | 1 => some .offLine | 2 => some .restoring | 3 => some .onLine
  | _ => none

def kindCode : AlarmKind → Nat
  | .dewire => 1 | .lineDead => 2 | .retrieveFail => 3

def kindOf : Nat → Option AlarmKind
  | 1 => some .dewire | 2 => some .lineDead | 3 => some .retrieveFail
  | _ => none

def polesCode : PoleSet → Nat
  | .none => 0 | .p => 1 | .n => 2 | .both => 3

def polesOf : Nat → PoleSet
  | 1 => .p | 2 => .n | 3 => .both
  | _ => .none

def phaseCode : Phase → Nat
  | .activeUnack => 1 | .activeAcked => 2 | .clearedUnack => 3

def phaseOf : Nat → Option Phase
  | 1 => some .activeUnack | 2 => some .activeAcked | 3 => some .clearedUnack
  | _ => none

/-- Poles are absent exactly for LINE_DEAD (R117, R159). -/
def polesFit (k : AlarmKind) (ps : PoleSet) : Bool :=
  match k with
  | .lineDead => ps == .none
  | _ => ps != .none

/-- The kind byte: bits 7–4 the kind, bits 1–0 the poles. -/
def kindByte (k : AlarmKind) (ps : PoleSet) : Byte := byteOf (kindCode k * 16 + polesCode ps)

/-- Reads a kind byte; bits 3–2 are not examined (R159). -/
def readKind (b : Byte) : Option (AlarmKind × PoleSet) :=
  match kindOf (b.toNat / 16) with
  | none => none
  | some k =>
    let ps := polesOf (b.toNat % 4)
    if polesFit k ps then some (k, ps) else none

/-! ### Frame payloads (Tables 10-3 and 10-4) -/

def itemBytes (i : SummaryItem) : List Byte := [i.number, kindByte i.kind i.poles, byteOf (phaseCode i.phase)]

def optBytes : Option Nat → List Byte
  | none => []
  | some n => bytes16 n

/-- The flags byte: boot, voltage present, discharge present, demand timed out. -/
def flagsByte (f : StateFields) : Byte :=
  byteOf (f.boot.toNat + 2 * f.voltage.isSome.toNat + 4 * f.discharge.isSome.toNat + 8 * f.timedOut.toNat)

def statePayload (f : StateFields) : List Byte :=
  [flagsByte f, byteOf (roleCode f.role), byteOf f.cls, byteOf f.weight, f.seq, byteOf (viewCode f.view)]
    ++ bytes16 f.demand ++ bytes16 f.floor ++ bytes16 f.ceiling ++ bytes16 f.grant
    ++ optBytes f.voltage ++ optBytes f.discharge
    ++ [byteOf f.summary.length] ++ f.summary.flatMap itemBytes

/-- The phase byte of an ALARM frame: bits 2–0 the phase, bit 4 the close reason (R159). -/
def noticePhaseByte : NoticePhase → Byte
  | .opened p => byteOf (phaseCode p)
  | .closed forced => byteOf (4 + 16 * forced.toNat)

def alarmPayload (a : AlarmContent) : List Byte :=
  [a.number, kindByte a.kind a.poles, noticePhaseByte a.phase] ++ bytes32 a.raiseTime

def payloadOf : Body → List Byte
  | .state f => statePayload f
  | .alarm a => alarmPayload a
  | .ack a => [byteOf a.origin.val, a.number]
  | .gap g => [if g.start then 1 else 2, g.serial]

/-- Kind codes (Table 3-2). -/
def bodyCode : Body → Nat
  | .state _ => 1 | .alarm _ => 2 | .ack _ => 3 | .gap _ => 4

/-- The bytes of a frame: SYNC, HDR, LEN, payload, CRC (R47, Table 10-1). -/
def frameBytes (f : Frame) : List Byte :=
  let body := [byteOf (bodyCode f.body * 8 + f.source.val), byteOf (payloadOf f.body).length] ++ payloadOf f.body
  0xAA#8 :: body ++ crcBytes body

/-- The bits of a frame as TXD presents them: per byte a start bit 0, the data bits least significant first, a stop bit 1
(R46). -/
def lineBits (bytes : List Byte) : List Bool :=
  bytes.flatMap fun b => false :: (List.range 8).map b.getLsbD ++ [true]

/-! ### What the receiver makes of the bytes of a frame (R49, R50) -/

/-- Receive faults (Table 3-3). -/
inductive RxFault where
  | sync | framing | lengthRange | truncation | crc | lengthKind | kind
  deriving DecidableEq, Repr

/-- The bytes so far are the beginning of a frame, or they hold a fault, or they are a whole good frame. -/
inductive Reception where
  | incomplete
  | fault (f : RxFault)
  | good (f : Frame)
  deriving DecidableEq, Repr

/-- Reads summary items; `none` for a kind, poles or phase without a meaning (R159). -/
def readItems : List Byte → Option (List SummaryItem)
  | n :: k :: ph :: rest =>
    match readKind k, phaseOf ph.toNat, readItems rest with
    | some (kind, ps), some phase, some items => some (⟨n, kind, ps, phase⟩ :: items)
    | _, _, _ => none
  | _ => some []

/-- An optional field of two bytes: `none` when the bytes run out. -/
def readOpt (present : Bool) (bytes : List Byte) : Option (Option Nat × List Byte) :=
  if present then
    match bytes with
    | a :: b :: rest => some (some (nat16 a b), rest)
    | _ => none
  else some (none, bytes)

/-- A value within its largest, when it is there. -/
def optWithin (largest : Nat) : Option Nat → Bool
  | none => true
  | some n => n ≤ largest

/-- The STATE payload of a frame from `src`: the length fault of the kind is found before the field values (R159). -/
def readState (src : Station) (payload : List Byte) : Reception :=
  match payload with
  | fl :: ro :: cl :: w :: sq :: vw :: d1 :: d0 :: f1 :: f0 :: c1 :: c0 :: g1 :: g0 :: rest =>
    match readOpt (fl.getLsbD 1) rest with
    | none => .fault .lengthKind
    | some (v, rest) =>
      match readOpt (fl.getLsbD 2) rest with
      | none => .fault .lengthKind
      | some (d, rest) =>
        match rest with
        | [] => .fault .lengthKind
        | count :: items =>
          if count.toNat > 4 || items.length != 3 * count.toNat then .fault .lengthKind
          else
            match roleOf ro.toNat, viewOf vw.toNat, readItems items with
            | some role, some view, some summary =>
              if cl.toNat ≤ 2 && 1 ≤ w.toNat && w.toNat ≤ 15
                  && nat16 d1 d0 ≤ 1023 && nat16 f1 f0 ≤ 1023 && nat16 c1 c0 ≤ 1023 && nat16 g1 g0 ≤ 1023
                  && optWithin 1200 v && optWithin 1023 d && !(role == .col && decide (1 < src.val)) then
                .good ⟨src, .state
                  { boot := fl.getLsbD 0, timedOut := fl.getLsbD 3, role := role, cls := cl.toNat, weight := w.toNat
                    seq := sq, view := view, demand := nat16 d1 d0, floor := nat16 f1 f0, ceiling := nat16 c1 c0
                    grant := nat16 g1 g0, voltage := v, discharge := d, summary := summary }⟩
              else .fault .kind
            | _, _, _ => .fault .kind
  | _ => .fault .lengthKind

/-- The phase byte of an ALARM frame: `none` for a phase outside 1–4, or a close reason without CLOSED (R159). -/
def readNoticePhase (b : Byte) : Option NoticePhase :=
  let code := b.toNat % 8
  let forced := b.getLsbD 4
  if code = 4 then some (.closed forced)
  else if forced then none
  else (phaseOf code).map .opened

def readAlarm (src : Station) : List Byte → Reception
  | [n, k, ph, t3, t2, t1, t0] =>
    match readKind k, readNoticePhase ph with
    | some (kind, ps), some phase => .good ⟨src, .alarm ⟨n, kind, ps, phase, time32 t3 t2 t1 t0⟩⟩
    | _, _ => .fault .kind
  | _ => .fault .lengthKind

def readAck (src : Station) : List Byte → Reception
  | [o, n] => if h : o.toNat < 8 then .good ⟨src, .ack ⟨⟨o.toNat, h⟩, n⟩⟩ else .fault .kind
  | _ => .fault .lengthKind

def readGap (src : Station) : List Byte → Reception
  | [ph, n] =>
    if ph = 1#8 then .good ⟨src, .gap ⟨true, n⟩⟩
    else if ph = 2#8 then .good ⟨src, .gap ⟨false, n⟩⟩
    else .fault .kind
  | _ => .fault .lengthKind

/-- The source number in HDR. -/
def sourceOf (hdr : Byte) : Station := ⟨hdr.toNat % 8, Nat.mod_lt _ (by decide)⟩

/-- The payload by the kind in HDR (R47, R50). -/
def readBody (hdr : Byte) (payload : List Byte) : Reception :=
  match hdr.toNat / 8 with
  | 1 => readState (sourceOf hdr) payload
  | 2 => readAlarm (sourceOf hdr) payload
  | 3 => readAck (sourceOf hdr) payload
  | 4 => readGap (sourceOf hdr) payload
  | _ => .fault .kind

/-- The checks of R50 over the bytes of a frame from its first byte; bytes after its second CRC byte play no part. -/
def examine : List Byte → Reception
  | [] => .incomplete
  | sync :: rest =>
    if sync ≠ 0xAA#8 then .fault .sync
    else
      match rest with
      | hdr :: len :: more =>
        if len.toNat > 31 then .fault .lengthRange
        else if more.length < len.toNat + 2 then .incomplete
        else if (more.drop len.toNat).take 2 ≠ crcBytes (hdr :: len :: more.take len.toNat) then .fault .crc
        else readBody hdr (more.take len.toNat)
      | _ => .incomplete

/-- As `examine`, when the stop bit of the last byte read 0: a framing fault, unless the frame had ended before that byte. -/
def examineFraming (bytes : List Byte) : Reception :=
  match examine bytes.dropLast with
  | .incomplete => .fault .framing
  | r => r

/-! ### Requests (R140, R160, Table 10-6) -/

/-- The twelve requests with their arguments. -/
inductive Request where
  | postDemand (amperes : BitVec 16)
  | postSource (amperes : BitVec 16)
  | capCeiling (amperes : BitVec 16)
  | ackAlarm
  | releaseRetrieve (pole : Byte)
  | readStatus
  | readPeer (station : Byte)
  | readAlarms
  | readHistory (index : Byte)
  | clearAttention (cause : Byte)
  | clearCounters
  | moduleReset
  deriving DecidableEq, Repr

/-- The bytes of a request frame. -/
def requestBytes : Request → List Byte
  | .postDemand a => 0x06#8 :: bytes16 a.toNat
  | .postSource a => 0x0A#8 :: bytes16 a.toNat
  | .capCeiling a => 0x0E#8 :: bytes16 a.toNat
  | .ackAlarm => [0x10#8]
  | .releaseRetrieve x => [0x15#8, x]
  | .readStatus => [0x18#8]
  | .readPeer x => [0x1D#8, x]
  | .readAlarms => [0x20#8]
  | .readHistory x => [0x25#8, x]
  | .clearAttention x => [0x29#8, x]
  | .clearCounters => [0x2C#8]
  | .moduleReset => [0x30#8]

/-- The request a frame's code and bytes name (the frame's length is the declared one). -/
def requestOf (code : Nat) (bytes : List Byte) : Option Request :=
  match code, bytes with
  | 1, [_, a, b] => some (.postDemand (a ++ b))
  | 2, [_, a, b] => some (.postSource (a ++ b))
  | 3, [_, a, b] => some (.capCeiling (a ++ b))
  | 4, [_] => some .ackAlarm
  | 5, [_, x] => some (.releaseRetrieve x)
  | 6, [_] => some .readStatus
  | 7, [_, x] => some (.readPeer x)
  | 8, [_] => some .readAlarms
  | 9, [_, x] => some (.readHistory x)
  | 10, [_, x] => some (.clearAttention x)
  | 11, [_] => some .clearCounters
  | 12, [_] => some .moduleReset
  | _, _ => none

/-- The length and request-known checks of R140: the request, or the status of the check that fails. -/
def decodeRequest (bytes : List Byte) (strayBits : Nat) : Except Status Request :=
  match bytes with
  | [] => .error .badLength
  | first :: _ =>
    if strayBits ≠ 0 ∨ bytes.length ≠ first.toNat % 4 + 1 then .error .badLength
    else
      match requestOf (first.toNat / 4) bytes with
      | some r => .ok r
      | none => .error .unknownRequest

/-- Status codes (Table 10-7). -/
def statusCode : Status → Nat
  | .noResponse => 0 | .ok => 1 | .unknownRequest => 2 | .badLength => 3 | .notRunning => 4 | .wrongRole => 5
  | .wrongState => 6 | .notAllowed => 7 | .noTarget => 8 | .queueFull => 9

/-- A response as it is shifted out: status, echo, payload (R139). -/
def responseBytes (r : Response) : List Byte := byteOf (statusCode r.status) :: r.echo :: r.payload

/-- The bits of a byte, most significant first. -/
def byteBits (b : Byte) : List Bool := [7, 6, 5, 4, 3, 2, 1, 0].map b.getLsbD

/-- The first `n` bits shifted out, each byte most significant bit first; beyond the response they read 0 (R138, R139). -/
def shiftOut (r : Response) (n : Nat) : List Bool := ((responseBytes r).flatMap byteBits ++ List.replicate n false).take n

/-- The clock edges of a frame: the bits of its complete bytes, and those of an incomplete last one (R138). -/
def frameLength (bytes : List Byte) (strayBits : Nat) : Nat := 8 * bytes.length + strayBits

/-! ### Response payloads (Tables 10-8 and 10-9) -/

/-- READ_PEER. -/
def peerPayload (e : Peer) : List Byte :=
  [if e.freshness = .fresh then 1 else 2, byteOf e.age] ++ bytes32 e.heard
    ++ bytes16 (match e.freshness with | .fresh => 0xFFFF | .stale c => c)
    ++ statePayload e.fields

/-- The ack-pending bits 4–3 and 1–0 of a READ_ALARMS entry. -/
def ackBits : AckPending → Nat
  | .absent => 0
  | .queued => 8
  | .sent c => 16 + c % 4

/-- One entry of READ_ALARMS, 7 bytes. -/
def alarmEntryBytes (e : AlarmEntry) : List Byte :=
  [byteOf (128 * (e.origin.val % 2) + 64 * e.raiseTime.isSome.toNat + 32 * e.orphaned.toNat + ackBits e.ack)
  , e.number
  , byteOf (kindCode e.kind * 16 + phaseCode e.phase * 4 + polesCode e.poles)] ++ bytes32 (e.raiseTime.getD 0)

/-- READ_ALARMS. -/
def alarmsPayload (table : List AlarmEntry) : List Byte := byteOf table.length :: table.flatMap alarmEntryBytes

def reasonCode : CloseReason → Nat
  | .normal => 0 | .forced => 1 | .originRestarted => 2

/-- READ_HISTORY. -/
def historyPayload (h : HistoryRecord) : List Byte :=
  [byteOf h.origin.val, h.number, kindByte h.kind h.poles
  , byteOf (128 * h.raiseTime.isSome.toNat + 64 * h.acknowledged.toNat + reasonCode h.reason)]
    ++ bytes32 (h.raiseTime.getD 0) ++ bytes32 h.closeTime

def runCode : RunState → Nat
  | .configuring => 0 | .listen => 1 | .running => 2 | .configFault => 3 | .txSuspended => 4 | .clash => 5

def poleCode : PoleState → Nat
  | .notEvaluated => 0 | .stowed => 1 | .raising => 2 | .onWire => 3 | .suspect => 4 | .dewired => 5 | .lowered => 6
  | .unwatched => 7

def causeCode : ResetCause → Nat
  | .powerOn => 1 | .resetPin => 2 | .request => 3

def faultCode : ConfigFault → Nat
  | .none => 0 | .field n => n | .crcFault => 0xFE | .noAnswer => 0xFF

def sensorCode : Option SensorSource → Nat
  | none => 0 | some .voltage => 1 | some .angleP => 2 | some .angleN => 3

/-! ### The configuration record (R155, R161, Tables 9-2, 9-3 and 10-10) -/

/-- The field of `width` bits whose least significant bit is bit `low` of the number `n`. -/
def bitField (n low width : Nat) : Nat := n / 2 ^ low % 2 ^ width

/-- A big-endian number. -/
def beNumber (bytes : List Byte) : Nat := bytes.foldl (fun n b => n * 256 + b.toNat) 0

/-- Decodes bytes 0–51 of the record. -/
def decodeRecord (bytes : List Byte) : Record :=
  let b (i : Nat) : Nat := (bytes.getD i 0).toNat
  let w (i : Nat) : Nat := b i * 256 + b (i + 1)
  let currents := beNumber ((bytes.drop 4).take 5)
  let levels := beNumber ((bytes.drop 49).take 3)
  { version := b 0
    role := roleOf (b 1 / 16)
    cls := b 1 % 4
    weight := b 2 / 16
    sensitivity := b 2 % 16
    voltageInput := bitField (b 3) 7 1 = 1
    ackButton := bitField (b 3) 6 1 = 1
    lampEnabled := bitField (b 3) 5 1 = 1
    buzzerEnabled := bitField (b 3) 4 1 = 1
    staleCount := b 3 % 16
    cfgFloor := bitField currents 30 10
    onLineCeiling := bitField currents 20 10
    offWireCeiling := bitField currents 10 10
    rampStep := bitField currents 0 10
    period := b 9
    lostCount := b 10
    demandTimeout := b 11
    slotLength := b 12
    fzero := w 13
    kv := w 15
    vGap := w 17
    vReturn := w 19
    returnConfirm := w 21
    lmax := w 23
    vknee := w 25
    vfloor := w 27
    gapLimit := w 29
    amin := w 31
    amax := w 33
    adown := b 35
    rateLimit := b 36
    headWindow := b 37
    calInterval := w 38
    rewireConfirm := w 40
    suspicionConfirm := w 42
    retrieveTimeout := w 44
    buzzDuration := w 46
    reminder := b 48
    levels := [22, 20, 18, 16, 14, 12, 10, 8, 6, 4, 2].map fun low => bitField levels low 2 }

/-- A value within a range. -/
def within (low n high : Nat) : Bool := low ≤ n && n ≤ high

/-- Every field with whether it is good: the range check of Table 9-2 and the rules of Table 9-3 that make it bad. -/
def fieldChecks (r : Record) (station : Station) : List (Nat × Bool) :=
  [ (1, r.version == 1)
  , (2, r.role.isSome && !(r.role == some .col && decide (1 < station.val)))
  , (3, within 0 r.cls 2)
  , (4, within 1 r.weight 15)
  , (5, !(r.role == some .col && !r.voltageInput))
  , (9, within 0 r.cfgFloor 1023)
  , (10, within 0 r.onLineCeiling 1023 && r.cfgFloor ≤ r.onLineCeiling)
  , (11, within 0 r.offWireCeiling 1023 && r.cfgFloor ≤ r.offWireCeiling)
  , (12, within 20 r.period 100 && r.period % 10 == 0)
  , (13, within 1 r.rampStep 1023)
  , (14, within 2 r.staleCount 10)
  , (15, within 3 r.lostCount 50 && r.staleCount < r.lostCount)
  , (16, within 2 r.demandTimeout 50)
  , (17, within 10 r.slotLength 200)
  , (18, within 0 r.fzero 50000)
  , (19, within 10 r.kv 1000)
  , (20, within 100 r.vGap 800)
  , (21, within 150 r.vReturn 900 && r.vGap + 50 ≤ r.vReturn)
  , (22, within 10 r.returnConfirm 500)
  , (23, within 0 r.lmax 1023)
  , (24, within 1 r.vknee 1200)
  , (25, within 0 r.vfloor 1199 && r.vfloor < r.vknee)
  , (26, within 200 r.gapLimit 10000)
  , (27, within 0 r.amin 899)
  , (28, within 1 r.amax 900 && r.amin < r.amax)
  , (29, within 0 r.adown 100)
  , (30, within 5 r.rateLimit 200)
  , (31, within 2 r.headWindow 20)
  , (32, within 4 r.sensitivity 14)
  , (33, within 200 r.calInterval 10000)
  , (34, within 100 r.rewireConfirm 5000)
  , (35, within 20 r.suspicionConfirm 500)
  , (36, within 300 r.retrieveTimeout 5000)
  , (37, within 100 r.buzzDuration 2000)
  , (38, r.reminder == 0 || within 5 r.reminder 60) ]

/-- The lowest-numbered bad field, if any (R155); fields 6, 7, 8 and 39 have no bad value. -/
def firstBadField (r : Record) (station : Station) : Option Nat :=
  ((fieldChecks r station).find? fun c => !c.2).map (·.1)

/-- The check of R155 over the 54 bytes read. -/
def checkRecord (bytes : List Byte) (station : Station) : Except ConfigFault Record :=
  if bytes.drop 52 ≠ crcBytes (bytes.take 52) then .error .crcFault
  else
    match firstBadField (decodeRecord bytes) station with
    | some n => .error (.field n)
    | none => .ok (decodeRecord bytes)

end Sys2Proof.Machine
end

