-- ==== Sys2Proof/WellFormed.lean ====
section
/-!
DEFINITION. Which commands are well formed: operands that the event can bring. `exec` gives an ill-formed command a meaning all the
same (most often none of its effects); nothing but the tests and the statements uses this check.
-/
namespace Sys2Proof

open Sys2Proof.Machine in
/-- The bytes on the line are what the row says: a good frame of this kind from another station. -/
def Instr.heardAs (isKind : Body → Bool) (bytes : List Byte) : Bool :=
  match examine bytes with
  | .good f => isKind f.body && bytes.length == (bytes.getD 2 0).toNat + 5
  | .incomplete | .fault _ => false

/-- The edges of one input rise and fall in turn. -/
def edgesAlternate : List AngleEdge → Bool
  | a :: b :: rest => a.rising != b.rising && edgesAlternate (b :: rest)
  | [_] | [] => true

/-- What a window brings: edges that an input can make. -/
def WindowInput.wf (i : WindowInput) : Bool := edgesAlternate i.angleP && edgesAlternate i.angleN

open Sys2Proof.Machine in
/-- The bits of a frame that were read before a reset abandoned it are bits of that frame. -/
def PortFrame.wf (frame : PortFrame) (bytes : List Byte) (strayBits : Nat) : Bool := frame.cut ≤ frameLength bytes strayBits

open Sys2Proof.Machine in
/-- A STATE payload. -/
def isStateBody : Body → Bool
  | .state _ => true
  | .alarm _ | .ack _ | .gap _ => false

open Sys2Proof.Machine in
/-- An ALARM payload. -/
def isAlarmBody : Body → Bool
  | .alarm _ => true
  | .state _ | .ack _ | .gap _ => false

open Sys2Proof.Machine in
/-- An ACK payload. -/
def isAckBody : Body → Bool
  | .ack _ => true
  | .state _ | .alarm _ | .gap _ => false

open Sys2Proof.Machine in
/-- A GAP payload of the phase. -/
def isGapBody (start : Bool) : Body → Bool
  | .gap g => g.start == start
  | .state _ | .alarm _ | .ack _ => false

open Sys2Proof.Machine in
/-- A request frame of these bytes fails the length or the request-known check (R140). -/
def failsRequest (bytes : List Byte) (strayBits : Nat) : Bool :=
  match decodeRequest bytes strayBits with
  | .error _ => true
  | .ok _ => false

open Sys2Proof.Machine in
/-- Well-formed commands. -/
def Instr.wf : Instr → Bool
  | .powerOnReset _ _ | .resetPin _ _ | .resetPinAsserted | .supplyBelowOperatingLevel => true
  | .configAttemptFailed failed =>
    let l := failed.levels
    !l.atStart || l.atWriteAddress || l.atWordAddress || !l.atRestart || l.atReadAddress
  | .configReadRetry _ => true
  | .configReadDeadline deadline => deadline.done < 60
  | .configReadComplete _ bytes => bytes.length == 54
  | .postDemand f a => f.wf (requestBytes (.postDemand a)) 0
  | .postSource f a => f.wf (requestBytes (.postSource a)) 0
  | .capCeiling f a => f.wf (requestBytes (.capCeiling a)) 0
  | .ackAlarm f => f.wf (requestBytes .ackAlarm) 0
  | .releaseRetrieve f x => f.wf (requestBytes (.releaseRetrieve x)) 0
  | .readStatus f => f.wf (requestBytes .readStatus) 0
  | .readPeer f x => f.wf (requestBytes (.readPeer x)) 0
  | .readAlarms f => f.wf (requestBytes .readAlarms) 0
  | .readHistory f x => f.wf (requestBytes (.readHistory x)) 0
  | .clearAttention f x => f.wf (requestBytes (.clearAttention x)) 0
  | .clearCounters f => f.wf (requestBytes .clearCounters) 0
  | .moduleReset f _ => f.wf (requestBytes .moduleReset) 0
  | .unknownRequest f bytes strayBits => f.wf bytes strayBits && strayBits < 8 && failsRequest bytes strayBits
  | .windowCompletion _ i | .rewireConfirm _ i _ | .suspicionConfirm _ i _ | .retrieveTimeout _ i _ => i.wf
  | .headWindowCompletion _ _ _ | .calibrationIntervalEnd _ | .gapLimitExpiry _ | .restoreDelayExpiry _ => true
  | .periodBoundary _ | .listenPhaseEnd _ | .peerStale _ _ | .peerLost _ _ | .demandTimeout _ | .sourceTimeout _ => true
  | .ackPendingLapse _ origin _ => origin.val ≤ 1
  | .stateFrame _ _ bytes => Instr.heardAs isStateBody bytes
  | .alarmFrame _ _ bytes => Instr.heardAs isAlarmBody bytes
  | .ackFrame _ _ bytes => Instr.heardAs isAckBody bytes
  | .gapStartFrame _ _ bytes => Instr.heardAs (isGapBody true) bytes
  | .gapEndFrame _ _ bytes => Instr.heardAs (isGapBody false) bytes
  | .clashFrame _ _ bytes => Instr.heardAs (fun _ => true) bytes
  | .receiveFault _ _ bytes _ => !bytes.isEmpty
  | .frameTruncation _ _ bytes gap => !bytes.isEmpty && 20 < gap
  | .deferralReached _ _ => true
  | .collisionAbort _ bit => bit < 360
  | .transmitSuccess _ | .suspensionExpiry _ => true
  | .ackButtonPress _ stood | .ackButtonRelease _ stood => 20 ≤ stood
  | .flashClockToggle _ | .soundingTimerExpiry _ | .reminderTimerExpiry _ => true
  | .limitPeriodOpens _ | .limitDutyReached _ => true

end Sys2Proof
end

