-- ==== Sys2Proof/Decode.lean ====
section
/-!
DEFINITION. The decoder of command words. The opcode table gives its rows no bits, so no word spells a command. What the bytes of a
request frame or of a frame on the line say is decoded in Machine/Operands.lean.
-/
namespace Sys2Proof

/-- The command a word of `nbits` bits spells: none, since no row of the table has bits (assumption log 25). -/
def decodeTableWord (nbits w : Nat) : Option Instr :=
  match nbits, w with
  | _, _ => none

end Sys2Proof
end

