-- ==== Sys2Proof/Machine/Flags.lean ====
section
/-!
DEFINITION. The attention causes (section 8.5): their marks, their levels, the attention line and the selected cause.
-/
namespace Sys2Proof.Machine

/-- The twelve causes (Table 8-4). -/
inductive Cause where
  | restarted | configFault | stationClash | txSuspended | txResumed | peerJoined | peerLost | supplyViewChanged
  | alarmTableChanged | grantShort | demandTimeout | sensorFault
  deriving DecidableEq, Repr

/-- Their numbers. -/
def causeNumber : Cause → Nat
  | .restarted => 0 | .configFault => 1 | .stationClash => 2 | .txSuspended => 3 | .txResumed => 4 | .peerJoined => 5
  | .peerLost => 6 | .supplyViewChanged => 7 | .alarmTableChanged => 8 | .grantShort => 9 | .demandTimeout => 10
  | .sensorFault => 11

/-- The causes in number order. -/
def allCauses : List Cause :=
  [.restarted, .configFault, .stationClash, .txSuspended, .txResumed, .peerJoined, .peerLost, .supplyViewChanged,
    .alarmTableChanged, .grantShort, .demandTimeout, .sensorFault]

/-- The mark of one cause in the attention set. -/
def causeBit (c : Cause) : BitVec 12 := 1#12 <<< causeNumber c

/-- Whether a cause is pending. -/
def isPending (p : Port) (c : Cause) : Bool := p.attention.getLsbD (causeNumber c)

/-- A raise makes a cause pending; a pending cause stays pending as one cause (R149). -/
def raiseIn (p : Port) (c : Cause) : Port := { p with attention := p.attention ||| causeBit c }

/-- A raise of SENSOR_FAULT records its source only when it makes the cause pending (R149). -/
def raiseSensorIn (p : Port) (src : SensorSource) : Port :=
  if isPending p .sensorFault then p else { raiseIn p .sensorFault with sensorSource := some src }

/-- A clear makes a cause not pending, with the source of SENSOR_FAULT (R151). -/
def clearIn (p : Port) (c : Cause) : Port :=
  { p with
    attention := p.attention &&& ~~~causeBit c
    sensorSource := if c = .sensorFault then none else p.sensorSource }

/-- The cause a CLEAR_ATTENTION names by number, if there is one. -/
def causeOf (n : Nat) : Option Cause := allCauses[n]?

/-- The level of a cause: 0 while no record is locked, and always 0 for CONFIG_FAULT; else the record's (R150). -/
def levelOf (locked : Option Record) (c : Cause) : Nat :=
  match locked, c with
  | none, _ => 0
  | some _, .configFault => 0
  | some r, .restarted => r.levels.getD 0 0
  | some r, c => r.levels.getD (causeNumber c - 1) 0

/-- The attention line: asserted while a pending cause has a level below 3 (R150). -/
def attentionLine (s : State) : Bool :=
  allCauses.any fun c => isPending s.port c && levelOf s.loader.locked c < 3

/-- The better of the selection so far and the next cause in number order: a lower level wins, a tie keeps the lower number. -/
def preferCause (locked : Option Record) (best : Option Cause) (c : Cause) : Option Cause :=
  match best with
  | none => some c
  | some b => if levelOf locked c < levelOf locked b then some c else some b

/-- The selected cause: the pending cause of the lowest level and, in that level, of the lowest number (R150). -/
def selectedCause (s : State) : Option Cause :=
  (allCauses.filter (isPending s.port)).foldl (preferCause s.loader.locked) none

/-- A raise, as a change of the station. -/
def raise (c : Cause) (s : State) : State := s.withPort (raiseIn s.port c)

/-- A raise of SENSOR_FAULT. -/
def raiseSensor (src : SensorSource) (s : State) : State := s.withPort (raiseSensorIn s.port src)

end Sys2Proof.Machine
end

