-- ==== Sys2Proof/Machine/Ops.lean ====
section
/-!
DEFINITION. The operations the commands share: station time, the locked record, the own entry and the grant in force, the notice
queue, the immediate sheds and the changes of the supply view.
-/
namespace Sys2Proof.Machine

/-! ### Time -/

/-- Milliseconds from a stored station time to now, across a wrap (Conventions, Time). -/
def since (now t : StationTime) : Nat := (now - t).toNat

/-- "A station time now is at least a duration d after a stored station time t". -/
def reached (now t : StationTime) (d : Nat) : Bool := d ≤ since now t

/-- A timer that runs and has reached its duration. -/
def expired (now : StationTime) (start : Option StationTime) (d : Nat) : Bool :=
  match start with
  | none => false
  | some t => reached now t d

/-- A stored station time moved on by whole milliseconds. -/
def later (t : StationTime) (ms : Nat) : StationTime := t + BitVec.ofNat 32 ms

/-- The present station time. -/
def now (s : State) : StationTime := s.clock.ms

/-- The clock `dt` microseconds later. -/
def tickClock (c : Clock) (dt : Nat) : Clock :=
  ⟨later c.ms ((c.us + dt) / 1000), (c.us + dt) % 1000, c.up + (c.us + dt) / 1000⟩

/-- The microseconds since reset. -/
def micros (c : Clock) : Nat := c.up * 1000 + c.us

/-- `dt` microseconds pass: station time and the time since the PWM period opened move on. -/
def advance (dt : Nat) (s : State) : State :=
  (s.withClock (tickClock s.clock dt)).withShare { s.share with limitElapsed := s.share.limitElapsed.map (· + dt) }

/-! ### Run state and record -/

/-- A reset is held (R153). -/
def inReset (s : State) : Bool := s.loader.supplyLow || s.loader.pin == .holding

/-- The shape of a command: nothing happens while a reset is held; else time passes and the event takes effect. -/
def perform (dt : Nat) (effect : State → State) (s : State) : Host.Outcome State Fault Refusal :=
  .next (if inReset s then s else effect (advance dt s))

/-- What stands for the record's fields while no record is locked; nothing that needs them runs then (assumption log 18). -/
def blankRecord : Record where
  version := 0
  role := none
  cls := 0
  weight := 0
  voltageInput := false
  ackButton := false
  lampEnabled := false
  buzzerEnabled := false
  cfgFloor := 0
  onLineCeiling := 0
  offWireCeiling := 0
  period := 0
  rampStep := 0
  staleCount := 0
  lostCount := 0
  demandTimeout := 0
  slotLength := 0
  fzero := 0
  kv := 0
  vGap := 0
  vReturn := 0
  returnConfirm := 0
  lmax := 0
  vknee := 0
  vfloor := 0
  gapLimit := 0
  amin := 0
  amax := 0
  adown := 0
  rateLimit := 0
  headWindow := 0
  sensitivity := 0
  calInterval := 0
  rewireConfirm := 0
  suspicionConfirm := 0
  retrieveTimeout := 0
  buzzDuration := 0
  reminder := 0
  levels := []

/-- The locked record (R157). -/
def record (s : State) : Record := s.loader.locked.getD blankRecord

def isCol (s : State) : Bool := (record s).role == some .col

def isBat (s : State) : Bool := (record s).role == some .bat

/-- The listen phase, RUNNING, TX_SUSPENDED and CLASH: the run states in which the blocks work. -/
def isLive (s : State) : Bool :=
  match s.loader.run with
  | .listen | .running | .txSuspended | .clash => true
  | .configuring | .configFault => false

/-- TX_SUSPENDED and CLASH: the grant is held to the effective floor (R112). -/
def isSilenced (s : State) : Bool := s.loader.run == .txSuspended || s.loader.run == .clash

/-! ### Peer Table access -/

/-- The entry of a station number, if it is present (R70). -/
def peerOf (s : State) (n : Station) : Option Peer := s.peers.find? fun e => e.station == n

/-- The own entry (R78). -/
def ownEntry (s : State) : Option Peer := peerOf s s.loader.station

/-- Places an entry in the table, which is kept by ascending station number with one entry per number (R70). -/
def putPeer (e : Peer) (peers : List Peer) : List Peer :=
  peers.filter (fun x => x.station < e.station) ++ e :: peers.filter (fun x => e.station < x.station)

/-- Changes fields of one station's entry. -/
def mapPeer (n : Station) (f : StateFields → StateFields) (peers : List Peer) : List Peer :=
  peers.map fun e => if e.station = n then { e with fields := f e.fields } else e

/-- The own entry's fields that follow the station between boundaries (R79). -/
def mapOwn (f : StateFields → StateFields) (s : State) : State := s.withPeers (mapPeer s.loader.station f s.peers)

/-! ### The grant in force and the limit output -/

/-- The duty of the limit output in thousandths (R101). -/
def limitDuty (sh : Share) : Nat := if sh.ceiling = 0 then 0 else sh.grant * 1000 / sh.ceiling

/-- Whether a PWM period that opened high is still high at the time elapsed in it (R101). -/
def dutyNotReached (sh : Share) : Bool :=
  match sh.limitElapsed with
  | none => false
  | some us => 1000 ≤ limitDuty sh || us < limitDuty sh

/-- After a change of duty the output goes low at once if the new duty has already passed; it never rises within a
period (R101). -/
def settleLimit (sh : Share) : Share := { sh with limitHigh := sh.limitHigh && dutyNotReached sh }

/-- A new grant in force: the limit output and the own entry follow at once (R79, R87, R101). -/
def setGrant (g : Nat) (s : State) : State :=
  mapOwn (fun f => { f with grant := g }) (s.withShare (settleLimit { s.share with grant := g }))

/-- A lowering of G between boundaries: the pending grant becomes none, whether or not G was lowered (R87, R105). -/
def lowerGrant (bound : Nat) (s : State) : State :=
  setGrant (min s.share.grant bound) (s.withShare { s.share with pendingGrant := none })

/-- Entry to TX_SUSPENDED or CLASH (R112). -/
def floorHold (s : State) : State := lowerGrant s.share.floor s

/-- The GAP shed (R105). -/
def gapShed (s : State) : State := lowerGrant (if (record s).cls = 0 then s.share.floor else 0) s

/-- The effective ceiling and floor from a view ceiling and the cap in force (R89). -/
def setCeilings (viewCeiling : Nat) (sh : Share) (cfgFloor : Nat) : Share :=
  let ceiling := min viewCeiling sh.cap
  settleLimit { sh with ceiling := ceiling, floor := min cfgFloor ceiling }

/-- The OFF_LINE shed (R106): the off-wire figures, then G to the new floor, then the pending grant. R102 keeps the effective
ceiling and floor at 0 until the first stage 2; an entry to OFF_LINE before that stage sets them all the same, as R106 says
(DEDUCED, assumption log 32: unsafe). -/
def offLineShed (s : State) : State :=
  let sh := setCeilings (record s).offWireCeiling s.share (record s).cfgFloor
  lowerGrant sh.floor (mapOwn (fun f => { f with floor := sh.floor, ceiling := sh.ceiling }) (s.withShare sh))

/-! ### The notice queue (section 3.5) -/

/-- Hand-offs are taken in the listen phase and in RUNNING, and refused in TX_SUSPENDED and CLASH (R60). -/
def acceptsNotices (s : State) : Bool := s.loader.run == .listen || s.loader.run == .running

def isClosedNotice (n : Notice AlarmContent) : Bool :=
  match n.content.phase with
  | .closed _ => true
  | .opened _ => false

/-- Removes the first element that satisfies `p`. -/
def dropFirst {α : Type} (p : α → Bool) : List α → List α
  | [] => []
  | x :: xs => if p x then xs else x :: dropFirst p xs

/-- The ALARM part makes room for a fifth notice by dropping its oldest CLOSED one (R61). The manual shows that there is one;
were there none, the oldest goes (assumption log 18). -/
def makeAlarmRoom (part : List (Notice AlarmContent)) : List (Notice AlarmContent) :=
  if part.length < 4 then part
  else if part.any isClosedNotice then dropFirst isClosedNotice part
  else part.drop 1

/-- The ALARM part at a hand-off: one notice per alarm, renewed in place (R61). -/
def joinAlarm (c : AlarmContent) (part : List (Notice AlarmContent)) : List (Notice AlarmContent) :=
  if part.any (fun n => n.content.number == c.number) then
    part.map fun n =>
      if n.content.number = c.number then { n with content := c, attempts := 0, renewed := n.onWire } else n
  else makeAlarmRoom part ++ [⟨c, 0, false, false⟩]

/-- Hands an ALARM notice (R60, R61, R123). -/
def handAlarm (c : AlarmContent) (s : State) : State :=
  if acceptsNotices s then s.withLine { s.line with alarmPart := joinAlarm c s.line.alarmPart } else s

/-- The GAP part at a hand-off (R62). -/
def joinGap (c : GapContent) (l : Line) : Line :=
  match l.gapPart with
  | none => { l with gapPart := some ⟨c, 0, false, false⟩, gapPairing := false }
  | some n =>
    if c.start = false ∧ n.content = ⟨true, c.serial⟩ then
      if n.onWire ∧ ¬ n.renewed then
        { l with gapPart := some { n with content := c, attempts := 0 }, gapPairing := true }
      else { l with gapPart := none, gapPairing := false }
    else { l with gapPart := some { n with content := c, attempts := 0, renewed := n.onWire }, gapPairing := false }

/-- Hands a GAP notice (R60, R62). -/
def handGap (c : GapContent) (s : State) : State :=
  if acceptsNotices s then s.withLine (joinGap c s.line) else s

/-- Whether an ACK hand-off is accepted: not with 3 notices in the part, and not in TX_SUSPENDED or CLASH (R63). -/
def ackAccepted (s : State) : Bool := acceptsNotices s && s.line.ackPart.length < 3

/-- Joins an accepted ACK notice (R63). -/
def joinAck (c : AckContent) (s : State) : State :=
  s.withLine { s.line with ackPart := s.line.ackPart ++ [⟨c, 0, false, false⟩] }

/-! ### Supply view (section 1.7) -/

/-- DEWIRE or LINE_DEAD in an active phase (R17). -/
def isSupplyAlarm (e : AlarmEntry) : Bool := e.kind != .retrieveFail && e.phase != .clearedUnack

def holdsSupplyAlarm (table : List AlarmEntry) : Bool := table.any isSupplyAlarm

/-- A change of the view: the cause is raised and the own entry follows (R11, R79). -/
def setView (v : View) (s : State) : State :=
  mapOwn (fun f => { f with view := v }) (raise .supplyViewChanged (s.withSupply { s.supply with view := v }))

/-- Stops the restore delay, without an expiry (R110). -/
def stopRestore (s : State) : State := s.withShed { s.shed with restore := none }

/-- Entry to GAP (R14): the gap timer starts, a restore delay is cancelled, the GAP shed is made. -/
def enterGap (s : State) : State :=
  gapShed (stopRestore (setView .gap (s.withSupply { s.supply with gapStart := some (now s) })))

/-- Entry to OFF_LINE (R17): every record is released, the timers stop, an open gap record closes (R44), the OFF_LINE shed is
made. -/
def enterOffLine (s : State) : State :=
  let s := setView .offLine (s.withSupply { s.supply with gapStart := none, records := [] })
  offLineShed (stopRestore (s.withPoles { s.poles with openGap := none }))

/-- Whether an entry sorts ahead of this station in the restore order (R109). -/
def sortsAhead (s : State) (e : Peer) : Bool :=
  e.station != s.loader.station
    && (e.fields.cls < (record s).cls || (e.fields.cls == (record s).cls && e.station < s.loader.station))

/-- The restore rank (R109). -/
def restoreRank (s : State) : Nat := (s.peers.filter (sortsAhead s)).length

/-- Entry to RESTORING (R15, R18, R19, R110): with a delay of 0 the view goes on to ON_LINE in the same event. -/
def enterRestoring (s : State) : State :=
  let rank := restoreRank s
  let delay := rank * (record s).slotLength
  let s := setView .restoring (s.withSupply { s.supply with gapStart := none })
  if delay = 0 then setView .onLine (stopRestore s)
  else s.withShed { s.shed with restore := some ⟨now s, rank, delay⟩ }

/-- The exit conditions of GAP and OFF_LINE (R15, R18). -/
def exitHolds (s : State) : Bool :=
  s.supply.voltageOk && s.supply.records.isEmpty && !holdsSupplyAlarm s.alarms.table

/-- Examines the exit conditions where the view is GAP or OFF_LINE. -/
def examineExit (s : State) : State :=
  if (s.supply.view = .gap ∨ s.supply.view = .offLine) ∧ exitHolds s then enterRestoring s else s

/-- Releases the records that satisfy `p`; if that empties the set, the exit conditions are examined (R13). -/
def releaseRecords (p : GapRecord → Bool) (s : State) : State :=
  if s.supply.records.any p then
    let s := s.withSupply { s.supply with records := s.supply.records.filter fun x => !p x }
    if s.supply.records.isEmpty then examineExit s else s
  else s

/-- The smoothed voltage: the mean of the list, rounded down, 0 while it is empty (R4). -/
def smoothed (s : State) : Nat := s.supply.volts.sum / s.supply.volts.length

/-! ### The transmitter (R52, R53, R64) -/

/-- What a frame that waits is taken from. -/
inductive Waiting where
  | gap | alarm | ack | state
  deriving DecidableEq, Repr

/-- The first frame in send order (R64), or the STATE alone while the first frame after a suspension is awaited (R67). -/
def firstWaiting (l : Line) : Option Waiting :=
  if l.stateFirst then if l.stateWaiting then some .state else none
  else if l.gapPart.isSome then some .gap
  else if !l.alarmPart.isEmpty then some .alarm
  else if !l.ackPart.isEmpty then some .ack
  else if l.stateWaiting then some .state
  else none

/-- Class bases (Table 3-2). -/
def classBase : Waiting → Nat
  | .gap => 0 | .alarm => 0 | .ack => 8 | .state => 16

/-- The deferral in bit times (R53). -/
def deferral (w : Waiting) (station : Station) : Nat := 12 + classBase w + station.val

/-- States of the transmitter (R52). -/
inductive Transmitter where
  | off | empty | deferring | sending
  deriving DecidableEq, Repr

/-- The transmitter's state (R52, Table 3-4). -/
def transmitter (s : State) : Transmitter :=
  if s.loader.run ≠ .running then .off
  else if s.line.attempt.isSome then .sending
  else if (firstWaiting s.line).isSome then .deferring
  else .empty

/-! ### Pins (R162) -/

/-- The pins of Table 10-11 that a condition drives to a level. -/
inductive PinName where
  | retrP | retrN | lamp | buzz | attn | txen | reset | ackIn | cs
  deriving DecidableEq, Repr

/-- Whether a pin is high when asserted, active, pressed or in a frame (R162). The manual gives TXEN no level; here it is high when
asserted (DESIGN CHOICE, assumption log 34: unsafe). -/
def activeHigh : PinName → Bool
  | .retrP | .retrN | .lamp | .buzz | .txen => true
  | .attn | .reset | .ackIn | .cs => false

/-- The level of a pin, true for high, from whether its condition holds. -/
def pinLevel (p : PinName) (holds : Bool) : Bool := holds == activeHigh p

/-- One bit time on the station line in microseconds (Table 3-1). -/
def bitTime : Nat := 2

/-- The last stop bit of a frame sent with success is still on the line (R46, R56). -/
def stopBitOut (s : State) : Bool :=
  match s.line.sentAt with
  | none => false
  | some t => micros s.clock < t + bitTime

/-- TXEN is asserted from the first start bit of an attempt to its last stop bit, and in RUNNING only (R46, R52, R55). -/
def txenAsserted (s : State) : Bool := s.line.attempt.isSome || (s.loader.run == .running && stopBitOut s)

/-- The bit that SDO presents at bit `k` of a frame, counted from 0 (R138): that of the held response, and 0 in a reset that is held
and in a frame that a reset has abandoned. -/
def sdoBit (s : State) (k : Nat) : Bool :=
  !(inReset s || s.port.abandoned) && (shiftOut s.port.held (k + 1)).getD k false

/-- The levels of the pins that the state determines, with the input CS: true is high. SDO is driven in a frame only (R138). The bits
of a whole frame, once it has ended, are `Port.shifted`. -/
structure Pins where
  retrP : Bool
  retrN : Bool
  lamp : Bool
  buzz : Bool
  attn : Bool
  limit : Bool
  txen : Bool
  reset : Bool
  cs : Bool
  sdo : Option Bool
  deriving DecidableEq, Repr

/-- The pins (R162). `frame` is the bit at which the frame in progress stands, `none` while chip select is deasserted. -/
def pins (frame : Option Nat) (s : State) : Pins where
  retrP := pinLevel .retrP s.poles.p.retrieve
  retrN := pinLevel .retrN s.poles.n.retrieve
  lamp := pinLevel .lamp s.alarms.lampLit
  buzz := pinLevel .buzz s.alarms.buzzer
  attn := pinLevel .attn (attentionLine s)
  limit := s.share.limitHigh
  txen := pinLevel .txen (txenAsserted s)
  reset := pinLevel .reset (s.loader.pin != .released)
  cs := pinLevel .cs frame.isSome
  sdo := frame.map (sdoBit s)

/-- The levels at which the input pins stand when a command comes about: RESET, ACK_IN and CS are low when asserted, pressed or in a
frame (R162), and every request frame ends with CS deasserted (R138). -/
def inputLevels : Instr → List (PinName × Bool)
  | .powerOnReset _ csAsserted => [(.cs, pinLevel .cs csAsserted)]
  | .resetPin _ csAsserted => [(.reset, pinLevel .reset false), (.cs, pinLevel .cs csAsserted)]
  | .resetPinAsserted => [(.reset, pinLevel .reset true)]
  | .ackButtonPress _ _ => [(.ackIn, pinLevel .ackIn true)]
  | .ackButtonRelease _ _ => [(.ackIn, pinLevel .ackIn false)]
  | .postDemand _ _ | .postSource _ _ | .capCeiling _ _ | .ackAlarm _ | .releaseRetrieve _ _ | .readStatus _ | .readPeer _ _
  | .readAlarms _ | .readHistory _ _ | .clearAttention _ _ | .clearCounters _ | .moduleReset _ _ | .unknownRequest _ _ _ =>
    [(.cs, pinLevel .cs false)]
  | _ => []

end Sys2Proof.Machine
end

