-- ==== Sys2Proof/Machine/Alarm.lean ====
section
/-!
DEFINITION. Alarm Table and Annunciator (chapter 7): the table at the origin and at a listener, acknowledgement, history,
lamp and buzzer, and the commands ACK_BUTTON_PRESS, ACK_BUTTON_RELEASE, FLASH_CLOCK_TOGGLE, SOUNDING_TIMER_EXPIRY and
REMINDER_TIMER_EXPIRY.
-/
namespace Sys2Proof.Machine

/-! ### Entries -/

def isEntry (o : Station) (n : Byte) (e : AlarmEntry) : Bool := e.origin == o && e.number == n

def findAlarm (s : State) (o : Station) (n : Byte) : Option AlarmEntry := s.alarms.table.find? (isEntry o n)

/-- Changes the entry of one origin and number in its place. -/
def mapAlarm (o : Station) (n : Byte) (f : AlarmEntry → AlarmEntry) (s : State) : State :=
  s.withAlarms { s.alarms with table := s.alarms.table.map fun e => if isEntry o n e then f e else e }

def ofOrigin (o : Station) (table : List AlarmEntry) : List AlarmEntry := table.filter fun e => e.origin == o

def isUnack (e : AlarmEntry) : Bool := e.phase == .activeUnack

def isCleared (e : AlarmEntry) : Bool := e.phase == .clearedUnack

/-- The station's own open alarms, oldest first (R59). -/
def ownAlarms (s : State) : List AlarmEntry := ofOrigin s.loader.station s.alarms.table

/-- The alarm summary of this station (R59): its own open alarms at a COL station, at most four; none at any other role. -/
def ownSummary (s : State) : List SummaryItem :=
  if isCol s then ((ownAlarms s).take 4).map fun e => ⟨e.number, e.kind, e.poles, e.phase⟩ else []

/-! ### History (R135, R136) -/

/-- Whether a closed alarm is recorded as acknowledged (R136). -/
def wasAcknowledged (p : Phase) (r : CloseReason) : Bool :=
  match p with
  | .activeAcked => true
  | .clearedUnack => r == .normal
  | .activeUnack => false

def historyOf (e : AlarmEntry) (r : CloseReason) (t : StationTime) : HistoryRecord where
  origin := e.origin
  number := e.number
  kind := e.kind
  poles := e.poles
  raiseTime := e.raiseTime
  closeTime := t
  acknowledged := wasAcknowledged e.phase r
  reason := r

/-- An alarm leaves the table and enters the history list in the same event (R135). -/
def closeEntry (e : AlarmEntry) (r : CloseReason) (s : State) : State :=
  s.withAlarms { s.alarms with
    table := s.alarms.table.filter fun x => !isEntry e.origin e.number x
    history := (historyOf e r (now s) :: s.alarms.history).take 16 }

/-! ### Lamp and buzzer (R133, R134) -/

/-- A sounding starts: the buzzer with its timer and, unless the interval is 0, the reminder timer afresh (R134). -/
def soundBuzzer (s : State) : State :=
  if (record s).buzzerEnabled then
    s.withAlarms { s.alarms with
      buzzer := true
      soundStart := some (now s)
      reminderStart := if (record s).reminder = 0 then s.alarms.reminderStart else some (now s) }
  else s

/-- The lamp by the contents of the table (Table 7-5). -/
def lampFor (table : List AlarmEntry) : Lamp :=
  if table.isEmpty then .off
  else if table.any (fun e => e.phase != .activeAcked) then .flashing
  else .steady

/-- The lamp at the end of an event (R133): entering a state sets the output; staying in it does not restart the clock. -/
def settleLamp (s : State) : State :=
  if (record s).lampEnabled = true ∧ s.alarms.lamp ≠ lampFor s.alarms.table then
    let lamp := lampFor s.alarms.table
    s.withAlarms { s.alarms with
      lamp := lamp
      lampLit := lamp != .off
      flashStart := if lamp = .flashing then some (now s) else none }
  else s

/-- The buzzer at the end of an event (R134): silent when no entry is ACTIVE_UNACK; the reminder starts when the table comes to
hold one. -/
def settleBuzzer (before : List AlarmEntry) (s : State) : State :=
  if (record s).buzzerEnabled then
    if !s.alarms.table.any isUnack then
      s.withAlarms { s.alarms with buzzer := false, soundStart := none, reminderStart := none }
    else if !before.any isUnack && (record s).reminder != 0 then
      s.withAlarms { s.alarms with reminderStart := some (now s) }
    else s
  else s

/-! ### The end of an event (R118) -/

/-- Supply Watch is told once whether the table now holds a supply alarm (R17, R18). -/
def tellSupply (before : List AlarmEntry) (s : State) : State :=
  if holdsSupplyAlarm s.alarms.table then
    if s.supply.view = .offLine then s else enterOffLine s
  else if holdsSupplyAlarm before ∧ s.supply.view = .offLine then examineExit s
  else s

/-- The end of an event that began with the table `before`: if the table changed, the cause is raised, and the lamp, the buzzer
and Supply Watch act on the table as it now stands (R118). -/
def endAlarmEvent (before : List AlarmEntry) (s : State) : State :=
  if s.alarms.table = before then s
  else tellSupply before (settleBuzzer before (settleLamp (raise .alarmTableChanged s)))

/-- An event of the Alarm Table. -/
def alarmEvent (f : State → State) (s : State) : State := endAlarmEvent s.alarms.table (f s)

/-- A history record of this entry. -/
def isRecordOf (e : AlarmEntry) (h : HistoryRecord) : Bool := h.origin == e.origin && h.number == e.number

/-- The records `fresh` of the alarms that an event removed, which found the table `before`: the newest entry of that table first, and
ahead of them any alarm raised in the event itself (R135). -/
def tableOrder (before : List AlarmEntry) (fresh : List HistoryRecord) : List HistoryRecord :=
  (fresh.filter fun h => !before.any fun e => isRecordOf e h) ++ before.reverse.flatMap fun e => fresh.filter (isRecordOf e)

/-- Changes that may remove several alarms; their records enter the history list in table order (R135). -/
def closingInOrder (f : State → State) (s : State) : State :=
  let t := f (s.withAlarms { s.alarms with history := [] })
  t.withAlarms { t.alarms with history := (tableOrder s.alarms.table t.alarms.history ++ s.alarms.history).take 16 }

/-! ### Adding entries and the limit of four per origin -/

/-- A new entry joins at the end; one in ACTIVE_UNACK sounds the buzzer (R118, R134). -/
def addEntry (e : AlarmEntry) (s : State) : State :=
  let s := s.withAlarms { s.alarms with table := s.alarms.table ++ [e] }
  if isUnack e then soundBuzzer s else s

/-- The entry of an origin that gives way to a fifth: its oldest in CLEARED_UNACK, or else its oldest (R120, R126). -/
def givesWay (o : Station) (table : List AlarmEntry) : Option AlarmEntry :=
  match (ofOrigin o table).find? isCleared with
  | some e => some e
  | none => (ofOrigin o table).head?

/-- An entry is added at a listener; an origin that has four gives one up first, with reason FORCED (R126). -/
def addHeard (e : AlarmEntry) (s : State) : State :=
  if (ofOrigin e.origin s.alarms.table).length < 4 then addEntry e s
  else
    match givesWay e.origin s.alarms.table with
    | some old => addEntry e (closeEntry old .forced s)
    | none => addEntry e s

/-! ### The origin (section 7.2) -/

/-- Hands an ALARM notice for an own alarm (R123). -/
def noticeFor (e : AlarmEntry) (p : NoticePhase) (s : State) : State :=
  handAlarm ⟨e.number, e.kind, e.poles, p, e.raiseTime.getD 0⟩ s

/-- A close at the origin, with its CLOSED notice (R123). -/
def closeOwn (e : AlarmEntry) (r : CloseReason) (s : State) : State :=
  noticeFor e (.closed (r == .forced)) (closeEntry e r s)

/-- An own alarm takes a new phase and set of poles, and its notice is handed (R121, R122, R123). -/
def changeOwn (e : AlarmEntry) (p : Phase) (ps : PoleSet) (s : State) : State :=
  noticeFor { e with poles := ps } (.opened p)
    (mapAlarm e.origin e.number (fun x => { x with phase := p, poles := ps }) s)

/-- The first number, from the counter on, that no own open alarm holds; `fuel` is how many can be in the way (R119). -/
def freeNumber (used : List Byte) : Nat → Byte → Byte
  | 0, c => c
  | fuel + 1, c => if used.contains c then freeNumber used fuel (c + 1) else c

/-- The number the next raise gives (R119). -/
def raiseNumber (s : State) : Byte :=
  let used := (ownAlarms s).map (·.number)
  freeNumber used used.length s.alarms.nextNumber

/-- Makes room at the origin: with four own alarms open one is closed with reason FORCED (R120). -/
def makeOwnRoom (s : State) : State :=
  if (ownAlarms s).length < 4 then s
  else
    match givesWay s.loader.station s.alarms.table with
    | some old => closeOwn old .forced s
    | none => s

/-- A raise (R120): the new entry in ACTIVE_UNACK under the number of R119, and its notice. -/
def raiseOwn (k : AlarmKind) (ps : PoleSet) (s : State) : State :=
  let s := makeOwnRoom s
  let number := raiseNumber s
  let e : AlarmEntry := ⟨s.loader.station, number, k, ps, .activeUnack, some (now s), now s, .absent, false⟩
  noticeFor e (.opened .activeUnack) (addEntry e (s.withAlarms { s.alarms with nextNumber := number + 1 }))

/-- A widening (R121): poles both, phase kept. -/
def widenOwn (n : Byte) (s : State) : State :=
  match findAlarm s s.loader.station n with
  | some e => changeOwn e e.phase .both s
  | none => s

/-- A clear (R121, Table 7-3). -/
def clearOwn (n : Byte) (s : State) : State :=
  match findAlarm s s.loader.station n with
  | none => s
  | some e =>
    match e.phase with
    | .activeUnack => changeOwn e .clearedUnack e.poles s
    | .activeAcked => closeOwn e .normal s
    | .clearedUnack => s

/-- An ACK for an own alarm (R122, Table 7-3). -/
def ackOwn (n : Byte) (s : State) : State :=
  match findAlarm s s.loader.station n with
  | none => s
  | some e =>
    match e.phase with
    | .activeUnack => changeOwn e .activeAcked e.poles s
    | .activeAcked => s
    | .clearedUnack => closeOwn e .normal s

/-! ### Listening (section 7.3) -/

/-- A phase taken from a notice or a summary; ACTIVE_ACKED ends ack pending (R132). -/
def takePhase (p : Phase) (ps : PoleSet) (e : AlarmEntry) : AlarmEntry :=
  { e with phase := p, poles := ps, ack := if p = .activeAcked then .absent else e.ack }

/-- A new entry at a listener. -/
def heardEntry (s : State) (o : Station) (n : Byte) (k : AlarmKind) (ps : PoleSet) (p : Phase) (raised : Option StationTime)
    (orphaned : Bool) : AlarmEntry :=
  ⟨o, n, k, ps, p, raised, now s, .absent, orphaned⟩

/-- Whether an entry of the notice's origin and number is the same alarm (R124). -/
def sameAlarm (c : AlarmContent) (e : AlarmEntry) : Bool :=
  e.kind == c.kind && (e.raiseTime == none || e.raiseTime == some c.raiseTime)

def forcedReason (forced : Bool) : CloseReason := if forced then .forced else .normal

/-- A notice of an alarm not in the table (R124). -/
def newNotice (src : Station) (c : AlarmContent) (s : State) : State :=
  match c.phase with
  | .closed _ => s
  | .opened p => addHeard (heardEntry s src c.number c.kind c.poles p (some c.raiseTime) (peerOf s src).isNone) s

/-- An ALARM notice taken from `src` (Table 7-4). -/
def takeNotice (src : Station) (c : AlarmContent) (s : State) : State :=
  match findAlarm s src c.number with
  | none => newNotice src c s
  | some e =>
    if sameAlarm c e then
      match c.phase with
      | .opened p =>
        mapAlarm src c.number
          (fun x => { takePhase p c.poles x with raiseTime := some (x.raiseTime.getD c.raiseTime) }) s
      | .closed forced => closeEntry e (forcedReason forced) s
    else newNotice src c (closeEntry e .normal s)

/-- An ALARM frame is acted on from station 0 or 1 with no entry or an entry of role COL (R124). -/
def noticeSource (s : State) (src : Station) : Bool :=
  src.val ≤ 1 &&
    match peerOf s src with
    | none => true
    | some e => e.fields.role == .col

/-- An ALARM frame (R124). -/
def alarmHeard (src : Station) (c : AlarmContent) (s : State) : State :=
  if noticeSource s src then alarmEvent (takeNotice src c) s else s

/-- The items of a summary, the first of each number (R127); `seen` are the numbers that stand before. -/
def firstItems (seen : List Byte) : List SummaryItem → List SummaryItem
  | [] => []
  | i :: rest => if seen.contains i.number then firstItems seen rest else i :: firstItems (i.number :: seen) rest

/-- An item and an entry match on number and kind (R127). -/
def matchesItem (e : AlarmEntry) (i : SummaryItem) : Bool := e.number == i.number && e.kind == i.kind

/-- Step 1 of R127: the entries of the origin that match no item are closed, oldest first. -/
def closeMissing (o : Station) (items : List SummaryItem) (r : CloseReason) (s : State) : State :=
  ((ofOrigin o s.alarms.table).filter fun e => !items.any (matchesItem e)).foldl (fun s e => closeEntry e r s) s

/-- Step 2 of R127. -/
def takeItem (items : List SummaryItem) (e : AlarmEntry) : AlarmEntry :=
  match items.find? (matchesItem e) with
  | some i => takePhase i.phase i.poles e
  | none => e

/-- Step 3 of R127, for one item. -/
def addItem (o : Station) (s : State) (i : SummaryItem) : State :=
  if (ofOrigin o s.alarms.table).any (fun e => matchesItem e i) then s
  else addHeard (heardEntry s o i.number i.kind i.poles i.phase none false) s

/-- The reconciliation of a summary of origin `o` (R127, R128). -/
def reconcile (o : Station) (summary : List SummaryItem) (rejoin : Bool) (s : State) : State :=
  let items := firstItems [] summary
  let s := closeMissing o items (if rejoin then .originRestarted else .normal) s
  let s := s.withAlarms { s.alarms with
    table := s.alarms.table.map fun e => if e.origin = o then takeItem items e else e }
  let s := items.foldl (addItem o) s
  s.withAlarms { s.alarms with
    table := s.alarms.table.map fun e => if e.origin = o then { e with orphaned := false } else e }

/-- A summary handed by the Peer Table (R127). -/
def summaryHeard (o : Station) (summary : List SummaryItem) (rejoin : Bool) (s : State) : State :=
  alarmEvent (reconcile o summary rejoin) s

/-- The origins marked orphaned (R129). -/
def orphan (gone : Station → Bool) (s : State) : State :=
  s.withAlarms { s.alarms with
    table := s.alarms.table.map fun e => if gone e.origin then { e with orphaned := true } else e }

/-! ### Acknowledge (section 7.4) -/

/-- Entries that a press or a request can select (R131). -/
def isEligible (e : AlarmEntry) : Bool := e.phase != .activeAcked && e.ack == .absent

/-- The outcome of an acknowledge: the new state, and the status a request is answered with (R131). -/
def acknowledge (s : State) : State × Status :=
  match s.alarms.table.find? isEligible with
  | none => (s, .noTarget)
  | some e =>
    if isCol s = true ∧ e.origin = s.loader.station then (alarmEvent (ackOwn e.number) s, .ok)
    else if ackAccepted s then
      (alarmEvent (mapAlarm e.origin e.number fun x => { x with ack := .queued })
        (joinAck ⟨e.origin, e.number⟩ s), .ok)
    else (s, .queueFull)

/-- The report "ACK sent" (R132). -/
def reportSent (c : AckContent) (s : State) : State :=
  mapAlarm c.origin c.number (fun e => { e with ack := if e.ack = .queued then .sent 0 else e.ack }) s

/-- The report "ACK discarded" (R132). -/
def reportDiscarded (c : AckContent) (s : State) : State :=
  mapAlarm c.origin c.number (fun e => { e with ack := if e.ack = .queued then .absent else e.ack }) s

/-- One own period boundary of a SENT ack pending; at 4 it lapses (R132). -/
def countAck : AckPending → AckPending
  | .absent => .absent
  | .queued => .queued
  | .sent c => if 4 ≤ c + 1 then .absent else .sent (c + 1)

/-- The boundary's step of every ack pending (R132). -/
def countAcks (s : State) : State :=
  s.withAlarms { s.alarms with table := s.alarms.table.map fun e => { e with ack := countAck e.ack } }

/-! ### Commands -/

/-- The time a level has stood as the debounce counts it: not from before listen entry or the last accepted change (R130). -/
def debounced (stood : Nat) (s : State) : Bool := 20 ≤ min stood (s.clock.up - s.alarms.debounceStart)

/-- The ACK button is sampled (R130). -/
def buttonRuns (s : State) : Bool := isLive s && (record s).ackButton

def pressButton (stood : Nat) (s : State) : State :=
  if buttonRuns s = true ∧ s.alarms.buttonArmed = true ∧ debounced stood s = true then
    (acknowledge (s.withAlarms { s.alarms with buttonArmed := false, debounceStart := s.clock.up })).1
  else s

def releaseButton (stood : Nat) (s : State) : State :=
  if buttonRuns s = true ∧ s.alarms.buttonArmed = false ∧ debounced stood s = true then
    s.withAlarms { s.alarms with buttonArmed := true, debounceStart := s.clock.up }
  else s

def toggleLamp (s : State) : State :=
  if s.alarms.lamp = .flashing ∧ expired (now s) s.alarms.flashStart 500 = true then
    s.withAlarms { s.alarms with
      lampLit := !s.alarms.lampLit
      flashStart := s.alarms.flashStart.map (later · 500) }
  else s

def endSounding (s : State) : State :=
  if expired (now s) s.alarms.soundStart (record s).buzzDuration then
    s.withAlarms { s.alarms with buzzer := false, soundStart := none }
  else s

/-- The reminder timer expires: with an ACTIVE_UNACK entry held the buzzer sounds again (R134); without one it only stops. -/
def remind (s : State) : State :=
  if expired (now s) s.alarms.reminderStart ((record s).reminder * 1000) then
    let s := s.withAlarms { s.alarms with reminderStart := none }
    if s.alarms.table.any isUnack then soundBuzzer s else s
  else s

/-- ACK_BUTTON_PRESS (R130, R131): an accepted press latches the button logic and acknowledges the oldest eligible entry. -/
def execAckButtonPress (dt stood : Nat) (s : State) : Host.Outcome State Fault Refusal := perform dt (pressButton stood) s

/-- ACK_BUTTON_RELEASE (R130). -/
def execAckButtonRelease (dt stood : Nat) (s : State) : Host.Outcome State Fault Refusal := perform dt (releaseButton stood) s

/-- FLASH_CLOCK_TOGGLE (R133): every 500 ms in FLASHING. -/
def execFlashClockToggle (dt : Nat) (s : State) : Host.Outcome State Fault Refusal := perform dt toggleLamp s

/-- SOUNDING_TIMER_EXPIRY (R134). -/
def execSoundingTimerExpiry (dt : Nat) (s : State) : Host.Outcome State Fault Refusal := perform dt endSounding s

/-- REMINDER_TIMER_EXPIRY (R134). -/
def execReminderTimerExpiry (dt : Nat) (s : State) : Host.Outcome State Fault Refusal := perform dt remind s

end Sys2Proof.Machine
end

