-- ==== Sys2Proof/Machine/Supply.lean ====
section
/-!
DEFINITION. Supply Watch (chapter 1): the voltage windows, the budget curve's voltage, GAP frames, and the command
RESTORE_DELAY_EXPIRY. The changes of the view stand in Ops.
-/
namespace Sys2Proof.Machine

/-! ### One window (R1 to R6) -/

/-- A 16-bit count that stops at 65 535 (R1, R26). -/
def countUp (count edges : Nat) : Nat := min 65535 (count + edges)

/-- The window voltage (R2). -/
def windowVolts (r : Record) (count : Nat) : Nat :=
  if count * 100 ≤ r.fzero then 0 else min 1200 ((count * 100 - r.fzero) / r.kv)

/-- The confirm count: the return confirm time in windows, rounded up (R5). -/
def confirmCount (r : Record) : Nat := (r.returnConfirm + 9) / 10

/-- The list with a new window voltage; of five values the oldest goes (R4). -/
def appendVolts (volts : List Nat) (v : Nat) : List Nat :=
  let all := volts ++ [v]
  all.drop (all.length - 4)

/-- A loss (R6). -/
def isLoss (r : Record) (v : Nat) : Bool := v < r.vGap

/-- Whether a window is due: one is open, and 10 ms have passed in it (R1). -/
def windowDue (s : State) : Bool := isLive s && expired (now s) s.supply.windowStart 10

/-- The count N of the window that ends. -/
def windowCount (edges : Nat) (s : State) : Nat := countUp s.supply.count edges

/-- The voltage of the window that ends. -/
def windowVoltage (edges : Nat) (s : State) : Nat := windowVolts (record s) (windowCount edges s)

/-- The first two steps of R8, and the input-fault flag of R3. The manual gives the raise of SENSOR_FAULT no place among the four
steps; here a voltage input fault raises it before the faults of the angle inputs at the same window completion (DESIGN CHOICE,
assumption log 31: unsafe). -/
def measure (edges : Nat) (s : State) : State :=
  let r := record s
  let n := windowCount edges s
  let v := windowVoltage edges s
  let run := if r.vReturn ≤ v then min (s.supply.run + 1) (confirmCount r) else 0
  let faulty := n == 0 && s.supply.hadPulses
  let s := s.withSupply { s.supply with
    count := 0
    windowStart := s.supply.windowStart.map (later · 10)
    volts := appendVolts s.supply.volts v
    run := run
    voltageOk := run == confirmCount r
    hadPulses := n != 0 }
  if faulty then raiseSensor .voltage s else s

/-- The fourth step of R8: the view acts on the loss, or on voltage ok becoming true (R14, R15, R18). -/
def viewAfterWindow (loss becameOk : Bool) (s : State) : State :=
  if loss = true ∧ (s.supply.view = .onLine ∨ s.supply.view = .restoring) then enterGap s
  else if becameOk then examineExit s
  else s

/-! ### GAP frames (R12, R13, R14) -/

/-- The set with a record for this source, one per source, by ascending number (R12). -/
def putRecord (r : GapRecord) (rs : List GapRecord) : List GapRecord :=
  rs.filter (fun x => x.source < r.source) ++ r :: rs.filter (fun x => r.source < x.source)

/-- A GAP_START heard: a FRESH source's enters a record; in ON_LINE or RESTORING the view enters GAP (R12, R14). -/
def gapStartHeard (src : Station) (serial : Byte) (e : Peer) (s : State) : State :=
  let s :=
    if e.freshness = .fresh then
      s.withSupply { s.supply with records := putRecord ⟨src, serial⟩ s.supply.records }
    else s
  if s.supply.view = .onLine ∨ s.supply.view = .restoring then enterGap s else s

/-- A GAP_END heard releases the record of its source and serial (R13). -/
def gapEndHeard (src : Station) (serial : Byte) (s : State) : State := releaseRecords (· == ⟨src, serial⟩) s

/-- A GAP frame (R12, R51): one whose source has no COL entry is discarded. -/
def gapHeard (src : Station) (g : GapContent) (s : State) : State :=
  match peerOf s src with
  | none => s
  | some e =>
    if e.fields.role = .col then
      if g.start then gapStartHeard src g.serial e s else gapEndHeard src g.serial s
    else s

/-! ### Budget curve (R9, R10, R82) -/

/-- The curve budget from a voltage (R9). -/
def curveBudget (r : Record) (u : Nat) : Nat :=
  if r.vknee ≤ u then r.lmax
  else if r.vfloor < u then r.lmax * (u - r.vfloor) / (r.vknee - r.vfloor)
  else 0

/-- The borrowed voltage: that of the lowest-numbered FRESH entry that carries one (R82). -/
def borrowedVoltage (peers : List Peer) : Option Nat :=
  (peers.find? fun e => e.freshness == .fresh && e.fields.voltage.isSome).bind fun e => e.fields.voltage

/-- The floors-only budget: the effective floors of all entries present (R10). -/
def floorsBudget (peers : List Peer) : Nat := (peers.map fun e => e.fields.floor).sum

/-- The budget of Supply Watch at a boundary (R9, R10). -/
def supplyBudget (s : State) : Nat :=
  if (record s).voltageInput then curveBudget (record s) (smoothed s)
  else
    match borrowedVoltage s.peers with
    | some u => curveBudget (record s) u
    | none => floorsBudget s.peers

/-! ### Restore delay -/

/-- The restore delay has run (R110). -/
def restoreDue (s : State) : Bool :=
  match s.shed.restore with
  | none => false
  | some d => reached (now s) d.start d.delay

/-- The expiry: in RESTORING the view becomes ON_LINE, with G and the pending grant as they stand (R19, R111). -/
def endRestore (s : State) : State :=
  if isLive s = true ∧ s.supply.view = .restoring ∧ restoreDue s = true then setView .onLine (stopRestore s) else s

/-- RESTORE_DELAY_EXPIRY (R110, R111). -/
def execRestoreDelayExpiry (dt : Nat) (s : State) : Host.Outcome State Fault Refusal := perform dt endRestore s

end Sys2Proof.Machine
end

