-- ==== Sys2Proof/Machine/Pole.lean ====
section
/-!
DEFINITION. Pole Watch (chapter 2) and the commands that a window completion makes: WINDOW_COMPLETION, REWIRE_CONFIRM,
SUSPICION_CONFIRM, RETRIEVE_TIMEOUT; with HEAD_WINDOW_COMPLETION, CALIBRATION_INTERVAL_END and GAP_LIMIT_EXPIRY.
-/
namespace Sys2Proof.Machine

/-! ### Angle and terms (R23 to R29) -/

/-- The complete period that a rising edge closes, `total` nanoseconds after the one that opened it (R23): both times in whole
microseconds. Two rising edges have a falling one between them; were there none, no period would be complete. -/
def closePeriod (p : OpenPeriod) (total : Nat) : Option AnglePeriod := p.high.map fun h => ⟨h / 1000, total / 1000⟩

/-- One edge of a pole's angle input (R23). A rising edge closes the period that is open, which becomes the last of the span, and
opens the next one; the falling edge within a period ends its high time. -/
def takeEdge (q : Pole) (e : AngleEdge) : Pole :=
  match q.opened, e.rising with
  | none, false => q
  | none, true => { q with opened := some ⟨0, none⟩ }
  | some p, false => { q with opened := some ⟨p.elapsed + e.after, some (p.high.getD (p.elapsed + e.after))⟩ }
  | some p, true =>
    { q with
      opened := some ⟨0, none⟩
      capture := match closePeriod p (p.elapsed + e.after) with
        | some c => some c
        | none => q.capture }

/-- The edges of an evaluation span, in their order (R23). -/
def takeEdges (edges : List AngleEdge) (q : Pole) : Pole := edges.foldl takeEdge q

/-- The angle a complete period gives, or an angle fault (R24). -/
def angleOf (p : AnglePeriod) : Option Nat :=
  if p.period < 500 ∨ 2000 < p.period then none
  else
    let duty := p.high * 1000 / p.period
    if duty < 50 ∨ 950 < duty then none
    else if duty < 100 then some 0
    else if 900 < duty then some 900
    else some ((duty - 100) * 900 / 800)

/-- The angle of this evaluation, from the last complete period of the span; a span without one is an angle fault (R24). -/
def spanAngle (q : Pole) (edges : List AngleEdge) : Option Nat := (takeEdges edges q).capture.bind angleOf

/-- H, A_out, A_fast and Down (R29). -/
structure Terms where
  h : Bool
  aOut : Bool
  aFast : Bool
  down : Bool
  deriving DecidableEq, Repr

def distance (a b : Nat) : Nat := (a - b) + (b - a)

/-- The terms of a pole from the angle of this evaluation (R29). -/
def termsOf (r : Record) (q : Pole) (angle : Option Nat) : Terms :=
  match angle with
  | none => ⟨q.verdict == .low, false, false, false⟩
  | some a =>
    { h := q.verdict == .low
      aOut := a < r.amin || r.amax < a
      aFast :=
        match q.prevAngle with
        | some b => q.prevUsable && r.rateLimit < distance a b
        | none => false
      down := a ≤ r.adown }

/-! ### Pole states (R31 to R35, R38) -/

/-- The pole in a new state, its qualifying run and suspicion discarded. -/
def toState (q : Pole) (st : PoleState) : Pole := { q with state := st, runStart := none, suspicionStart := none }

/-- Entry to DEWIRED by any path (R35). -/
def toDewired (t : StationTime) (q : Pole) : Pole := { toState q .dewired with dewiredAt := some t, timedOut := false }

/-- Entry to UNWATCHED, or a further evaluation there; from DEWIRED or LOWERED the pole takes the carried mark (R32). -/
def toUnwatched (q : Pole) : Pole :=
  { toState q .unwatched with
    firstMark := false
    carried := q.carried || q.state == .dewired || q.state == .lowered }

/-- The state an evaluation with an angle gives at the first evaluation or on the way out of UNWATCHED; it clears the
carried mark (R31, R32). -/
def firstState (k : Terms) (q : Pole) : Pole :=
  let q := { q with firstMark := false, carried := false }
  if k.down then toState q .stowed
  else if !k.aOut && !k.h then toState q .onWire
  else toState q .raising

/-- The same for a pole with the carried mark. -/
def carriedState (t : StationTime) (k : Terms) (q : Pole) : Pole :=
  let q := { q with firstMark := false, carried := false }
  if k.down then toState q .lowered else toDewired t q

/-- RAISING (R33): Down first, then the qualifying run. -/
def fromRaising (r : Record) (t : StationTime) (voltageOk hasAngle : Bool) (k : Terms) (q : Pole) : Pole :=
  if k.down then toState q .stowed
  else if hasAngle && !k.aOut && !k.h && voltageOk then
    if reached t (q.runStart.getD t) r.rewireConfirm then toState q .onWire
    else { q with runStart := some (q.runStart.getD t) }
  else { q with runStart := none }

/-- Whether SUSPECT's first test holds (R34). -/
def dewiresAtOnce (k : Terms) : Bool := k.aFast || (k.h && k.aOut)

/-- ON_WIRE (R34), with the passage through SUSPECT in one evaluation. -/
def fromOnWire (t : StationTime) (k : Terms) (q : Pole) : Pole :=
  if dewiresAtOnce k then toDewired t q
  else if k.h || k.aOut then { toState q .suspect with suspicionStart := some t }
  else q

/-- SUSPECT (R34), its tests in order. -/
def fromSuspect (r : Record) (t : StationTime) (k : Terms) (q : Pole) : Pole :=
  if dewiresAtOnce k then toDewired t q
  else if !(k.h || k.aOut) then toState q .onWire
  else if expired t q.suspicionStart r.suspicionConfirm then toDewired t q
  else q

/-- Stage 2 of an evaluation: the transition of one pole (R31 to R35). -/
def transition (r : Record) (t : StationTime) (voltageOk : Bool) (angle : Option Nat) (k : Terms) (q : Pole) : Pole :=
  if angle.isNone && q.baseline == 0 then toUnwatched q
  else
    match q.state with
    | .notEvaluated | .unwatched =>
      if angle.isNone then toUnwatched q else if q.carried then carriedState t k q else firstState k q
    | .stowed => if angle.isSome && !k.down then toState q .raising else q
    | .raising => fromRaising r t voltageOk angle.isSome k q
    | .onWire => fromOnWire t k q
    | .suspect => fromSuspect r t k q
    | .dewired => if k.down then toState q .lowered else q
    | .lowered => q

/-- Stage 3: the retrieve output from the state (R37). -/
def settleRetrieve (q : Pole) : Pole := { q with retrieve := q.state == .dewired || q.state == .lowered }

/-- Stage 4: the retrieve timeout, once per stay in DEWIRED (R38). -/
def settleTimeout (r : Record) (t : StationTime) (q : Pole) : Pole :=
  if q.state = .dewired ∧ q.timedOut = false ∧ expired t q.dewiredAt r.retrieveTimeout = true then
    { q with timedOut := true }
  else q

/-- The angle flag and the previous angle after an evaluation (R25), and the emptied capture (R23). -/
def keepAngle (angle : Option Nat) (q : Pole) : Pole :=
  match angle with
  | none => { q with capture := none, anglePresent := false, prevUsable := false }
  | some a => { q with capture := none, anglePresent := true, prevUsable := true, prevAngle := some a }

/-- Stages 1 to 4 for one pole. -/
def evalPole (r : Record) (t : StationTime) (voltageOk : Bool) (edges : List AngleEdge) (q : Pole) : Pole :=
  let angle := spanAngle q edges
  settleTimeout r t
    (settleRetrieve (transition r t voltageOk angle (termsOf r q angle) (keepAngle angle (takeEdges edges q))))

/-- SENSOR_FAULT for an angle that was there at the evaluation before (R25). -/
def angleFault (q : Pole) (edges : List AngleEdge) : Bool := q.anglePresent && (spanAngle q edges).isNone

/-! ### Pole sets -/

def hasP (ps : PoleSet) : Bool := ps == .p || ps == .both

def hasN (ps : PoleSet) : Bool := ps == .n || ps == .both

def poleSet (p n : Bool) : PoleSet :=
  match p, n with
  | true, true => .both
  | true, false => .p
  | false, true => .n
  | false, false => .none

def unionSet (a b : PoleSet) : PoleSet := poleSet (hasP a || hasP b) (hasN a || hasN b)

/-- Every pole of the set satisfies its test. -/
def allOf (ps : PoleSet) (p n : Bool) : Bool := (!hasP ps || p) && (!hasN ps || n)

/-! ### Alarms at the origin (R39 to R42) -/

def withDewire (a : Option ActiveAlarm) (s : State) : State := s.withPoles { s.poles with dewire := a }

def withRetrieveFail (a : Option ActiveAlarm) (s : State) : State := s.withPoles { s.poles with retrieveFail := a }

def withLineDead (a : Option ActiveAlarm) (s : State) : State := s.withPoles { s.poles with lineDead := a }

/-- A raise or a widening of DEWIRE for the poles that entered DEWIRED (R40). -/
def dewireEntry (entered : PoleSet) (s : State) : State :=
  if entered = .none then s
  else
    match s.poles.dewire with
    | none =>
      withDewire (some ⟨raiseNumber (makeOwnRoom s), entered, false, false⟩) (raiseOwn .dewire entered s)
    | some a =>
      if unionSet a.poles entered = a.poles then s
      else withDewire (some { a with poles := .both }) (widenOwn a.number s)

/-- The DEWIRE clear: every pole of the set is ON_WIRE (R40). -/
def dewireClear (s : State) : State :=
  match s.poles.dewire with
  | none => s
  | some a =>
    if allOf a.poles (s.poles.p.state == .onWire) (s.poles.n.state == .onWire) then
      withDewire none (clearOwn a.number s)
    else s

/-- A raise, a widening or a renewed wait of RETRIEVE_FAIL for the poles that timed out (R41). -/
def retrieveFailEntry (timed : PoleSet) (s : State) : State :=
  if timed = .none then s
  else
    match s.poles.retrieveFail with
    | none =>
      withRetrieveFail (some ⟨raiseNumber (makeOwnRoom s), timed, false, false⟩) (raiseOwn .retrieveFail timed s)
    | some a =>
      let marked := { a with reachedP := a.reachedP && !hasP timed, reachedN := a.reachedN && !hasN timed }
      if unionSet a.poles timed = a.poles then withRetrieveFail (some marked) s
      else withRetrieveFail (some { marked with poles := .both }) (widenOwn a.number s)

/-- A pole that has reached LOWERED or STOWED (R41). -/
def isDownState (q : Pole) : Bool := q.state == .lowered || q.state == .stowed

/-- The reached marks of the poles of the set that have now reached LOWERED or STOWED, and the RETRIEVE_FAIL clear when every
mark of the set is set (R41). -/
def retrieveFailReached (downP downN : Bool) (s : State) : State :=
  match s.poles.retrieveFail with
  | none => s
  | some a =>
    let marked := { a with
      reachedP := a.reachedP || (hasP a.poles && downP)
      reachedN := a.reachedN || (hasN a.poles && downN) }
    if allOf marked.poles marked.reachedP marked.reachedN then withRetrieveFail none (clearOwn a.number s)
    else withRetrieveFail (some marked) s

/-- The LINE_DEAD clear at an evaluation with voltage ok (R42). -/
def lineDeadClear (s : State) : State :=
  match s.poles.lineDead with
  | none => s
  | some a => if s.supply.voltageOk then withLineDead none (clearOwn a.number s) else s

/-- The hand-offs of stage 5 (R40 to R42; assumption log 15). -/
def handOffs (entered timed : PoleSet) (s : State) : State :=
  lineDeadClear (retrieveFailReached (isDownState s.poles.p) (isDownState s.poles.n)
    (retrieveFailEntry timed (dewireClear (dewireEntry entered s))))

/-- Stage 5, one event of the Alarm Table (R30, R118). -/
def alarmStage (entered timed : PoleSet) (s : State) : State := alarmEvent (closingInOrder (handOffs entered timed)) s

/-- Whether stage 5 raises an alarm (R43). -/
def stageRaises (entered timed : PoleSet) (w : PoleWatch) : Bool :=
  (entered != .none && w.dewire.isNone) || (timed != .none && w.retrieveFail.isNone)

/-! ### GAP notices (R43, R44) -/

def bothOnWire (s : State) : Bool := s.poles.p.state == .onWire && s.poles.n.state == .onWire

/-- Stage 6: GAP_START is decided, or an open gap record ends. -/
def gapStage (loss becameOk raised : Bool) (prior : View) (s : State) : State :=
  match s.poles.openGap with
  | none =>
    if loss && (prior == .onLine || prior == .restoring) && bothOnWire s && !raised then
      let serial := s.poles.gapSerial
      handGap ⟨true, serial⟩ (s.withPoles { s.poles with openGap := some serial, gapSerial := serial + 1 })
    else s
  | some serial =>
    if !bothOnWire s then s.withPoles { s.poles with openGap := none }
    else if becameOk then handGap ⟨false, serial⟩ (s.withPoles { s.poles with openGap := none })
    else s

/-! ### The evaluation (R30) -/

/-- The poles that entered DEWIRED between two evaluations of Pole Watch. -/
def enteredSet (before after : PoleWatch) : PoleSet :=
  poleSet (before.p.state != .dewired && after.p.state == .dewired) (before.n.state != .dewired && after.n.state == .dewired)

/-- The poles that timed out. -/
def timedSet (before after : PoleWatch) : PoleSet :=
  poleSet (!before.p.timedOut && after.p.timedOut) (!before.n.timedOut && after.n.timedOut)

/-- Stages 1 to 4 of both poles, with their sensor faults. The manual orders neither the two angle inputs' raises of SENSOR_FAULT, of
which the first gives the source recorded (R149), nor the voltage input's against them; here voltage comes first (`measure`), then
angle P, then angle N (DESIGN CHOICE, assumption log 31: unsafe). -/
def polesStage (i : WindowInput) (s : State) : State :=
  let r := record s
  let ok := s.supply.voltageOk
  let faultP := angleFault s.poles.p i.angleP
  let faultN := angleFault s.poles.n i.angleN
  let s := s.withPoles { s.poles with
    p := evalPole r (now s) ok i.angleP s.poles.p
    n := evalPole r (now s) ok i.angleN s.poles.n }
  let s := if faultP then raiseSensor .angleP s else s
  if faultN then raiseSensor .angleN s else s

/-- One evaluation of both poles (R30). -/
def evaluate (i : WindowInput) (loss becameOk : Bool) (prior : View) (s : State) : State :=
  let t := polesStage i s
  let entered := enteredSet s.poles t.poles
  let timed := timedSet s.poles t.poles
  gapStage loss becameOk (stageRaises entered timed t.poles) prior (alarmStage entered timed t)

/-! ### The window completion (R8) -/

/-- The window completion, its four steps in order; no effect while no window is due. -/
def completeWindow (i : WindowInput) (s : State) : State :=
  if windowDue s then
    let loss := isLoss (record s) (windowVoltage i.edges s)
    let t := measure i.edges s
    let becameOk := t.supply.voltageOk && !s.supply.voltageOk
    let t := if isCol s then evaluate i loss becameOk s.supply.view t else t
    viewAfterWindow loss becameOk t
  else s

/-- One pole. -/
def poleOf (id : PoleId) (w : PoleWatch) : Pole :=
  match id with
  | .p => w.p
  | .n => w.n

def setPole (id : PoleId) (q : Pole) (w : PoleWatch) : PoleWatch :=
  match id with
  | .p => { w with p := q }
  | .n => { w with n := q }

/-- The edges a window's input brings for one pole. -/
def edgesOf (id : PoleId) (i : WindowInput) : List AngleEdge :=
  match id with
  | .p => i.angleP
  | .n => i.angleN

/-- The window completion, if it takes this pole from RAISING to ON_WIRE (R33; assumption log 3). -/
def confirmRewire (i : WindowInput) (id : PoleId) (s : State) : State :=
  let t := completeWindow i s
  if (poleOf id s.poles).state = .raising ∧ (poleOf id t.poles).state = .onWire then t else s

/-- The window completion, if it takes this pole from SUSPECT to DEWIRED by the suspicion confirm time (R34). -/
def confirmSuspicion (i : WindowInput) (id : PoleId) (s : State) : State :=
  let t := completeWindow i s
  let q := poleOf id s.poles
  let k := termsOf (record s) q (spanAngle q (edgesOf id i))
  if q.state = .suspect ∧ (poleOf id t.poles).state = .dewired ∧ dewiresAtOnce k = false then t else s

/-- The window completion, if it times this pole out (R38). -/
def timeOutRetrieve (i : WindowInput) (id : PoleId) (s : State) : State :=
  let t := completeWindow i s
  if (poleOf id s.poles).timedOut = false ∧ (poleOf id t.poles).timedOut = true then t else s

/-! ### Head sense (R26 to R28) -/

/-- The verdict of a head window (R26). -/
def verdictOf (r : Record) (baseline count : Nat) : Verdict :=
  if baseline = 0 then .noEvidence
  else if count < baseline * r.sensitivity / 16 then .low
  else .present

/-- A head window's eligibility for calibration (R27). -/
def isEligibleWindow (s : State) (q : Pole) : Bool :=
  q.state == .onWire && s.supply.voltageOk && (ownAlarms s).isEmpty

/-- One head window of a pole: verdict and calibration sums (R26, R27). -/
def headPole (s : State) (edges : Nat) (q : Pole) : Pole :=
  let count := countUp q.headCount edges
  let q := { q with
    headCount := 0
    headStart := q.headStart.map (later · (record s).headWindow)
    verdict := verdictOf (record s) q.baseline count }
  if isEligibleWindow s q then { q with calSum := q.calSum + count, calTally := q.calTally + 1 } else q

/-- A head window ends (R26). -/
def completeHead (id : PoleId) (edges : Nat) (s : State) : State :=
  let q := poleOf id s.poles
  if isLive s = true ∧ isCol s = true ∧ expired (now s) q.headStart (record s).headWindow = true then
    s.withPoles (setPole id (headPole s edges q) s.poles)
  else s

/-- The step of a baseline toward the interval's mean (R28): whole from 0, else an eighth of the difference, truncated toward
zero. -/
def stepBaseline (baseline mean : Nat) : Nat :=
  if baseline = 0 then mean
  else if baseline ≤ mean then baseline + (mean - baseline) / 8
  else baseline - (baseline - mean) / 8

/-- The end of a calibration interval for one pole (R28). -/
def calibratePole (q : Pole) : Pole :=
  { q with
    calSum := 0
    calTally := 0
    baseline :=
      if q.calTally = 0 ∨ q.state = .unwatched then q.baseline else stepBaseline q.baseline (q.calSum / q.calTally) }

/-- A calibration interval ends (R28). -/
def endCalibration (s : State) : State :=
  if isLive s = true ∧ isCol s = true ∧ expired (now s) s.poles.calStart (record s).calInterval = true then
    s.withPoles { s.poles with
      p := calibratePole s.poles.p
      n := calibratePole s.poles.n
      calStart := s.poles.calStart.map (later · (record s).calInterval) }
  else s

/-! ### Gap limit (R16, R42, R44) -/

/-- The gap limit is reached in GAP (R16). -/
def gapLimitDue (s : State) : Bool :=
  isLive s && s.supply.view == .gap && expired (now s) s.supply.gapStart (record s).gapLimit

/-- LINE_DEAD at the expiry, with both poles ON_WIRE and no LINE_DEAD active (R42). -/
def lineDeadRaise (s : State) : State :=
  if isCol s = true ∧ bothOnWire s = true ∧ s.poles.lineDead = none then
    withLineDead (some ⟨raiseNumber (makeOwnRoom s), .none, false, false⟩) (raiseOwn .lineDead .none s)
  else s

/-- The expiry of the gap limit (R16): OFF_LINE is entered once, the open gap record closes, and LINE_DEAD is raised where R42 says so.
R18's conditions are then examined where the entry released the last outstanding record (R18), and at a station without a voltage
input, which leaves OFF_LINE as soon as no supply alarm and no record remain (R7; assumption log 12). -/
def reachGapLimit (s : State) : State :=
  if gapLimitDue s then
    let t := alarmEvent lineDeadRaise (enterOffLine s)
    if s.supply.records.isEmpty && (record s).voltageInput then t else examineExit t
  else s

/-! ### Release (R36) -/

/-- The pole an argument names (R36). -/
def poleArgument (b : Byte) : Option PoleId := if b = 1#8 then some .p else if b = 2#8 then some .n else none

/-- A LOWERED pole is released: STOWED, output deasserted at once, and its reached mark set (R36, R41). -/
def releasePole (id : PoleId) (s : State) : State :=
  let q := poleOf id s.poles
  alarmEvent (retrieveFailReached (id == .p) (id == .n))
    (s.withPoles (setPole id { toState q .stowed with retrieve := false } s.poles))

/-- The station does not watch poles: both outputs are deasserted and the carried marks cleared (R37). -/
def unwatchPoles (s : State) : State :=
  let off (q : Pole) : Pole := { q with retrieve := false, carried := false, firstMark := false }
  s.withPoles { s.poles with p := off s.poles.p, n := off s.poles.n }

/-! ### Commands -/

/-- WINDOW_COMPLETION (R8). -/
def execWindowCompletion (dt : Nat) (i : WindowInput) (s : State) : Host.Outcome State Fault Refusal :=
  perform dt (completeWindow i) s

/-- REWIRE_CONFIRM (R33). -/
def execRewireConfirm (dt : Nat) (i : WindowInput) (id : PoleId) (s : State) : Host.Outcome State Fault Refusal :=
  perform dt (confirmRewire i id) s

/-- SUSPICION_CONFIRM (R34). -/
def execSuspicionConfirm (dt : Nat) (i : WindowInput) (id : PoleId) (s : State) : Host.Outcome State Fault Refusal :=
  perform dt (confirmSuspicion i id) s

/-- RETRIEVE_TIMEOUT (R38). -/
def execRetrieveTimeout (dt : Nat) (i : WindowInput) (id : PoleId) (s : State) : Host.Outcome State Fault Refusal :=
  perform dt (timeOutRetrieve i id) s

/-- HEAD_WINDOW_COMPLETION (R26, R27). -/
def execHeadWindowCompletion (dt : Nat) (id : PoleId) (edges : Nat) (s : State) : Host.Outcome State Fault Refusal :=
  perform dt (completeHead id edges) s

/-- CALIBRATION_INTERVAL_END (R28). -/
def execCalibrationIntervalEnd (dt : Nat) (s : State) : Host.Outcome State Fault Refusal := perform dt endCalibration s

/-- GAP_LIMIT_EXPIRY (R16). -/
def execGapLimitExpiry (dt : Nat) (s : State) : Host.Outcome State Fault Refusal := perform dt reachGapLimit s

end Sys2Proof.Machine
end

