-- ==== Sys2Proof/Machine/Line.lean ====
section
/-!
DEFINITION. Station Line Controller (chapter 3) and Peer Table (chapter 4): reception and hand-on, the attempts, suspension, the
acceptance of STATE frames, the own entry and CLASH; the commands of the station line.
-/
namespace Sys2Proof.Machine

/-! ### The own entry and the STATE frame (R58, R78) -/

/-- The fields of the own entry, from the station's own values (R78). -/
def ownFields (s : State) : StateFields where
  boot := s.line.statesSent < 3
  timedOut := s.shed.demandTimedOut
  role := (record s).role.getD .gen
  cls := (record s).cls
  weight := (record s).weight
  seq := s.line.seq
  view := s.supply.view
  demand := s.share.demand
  floor := s.share.floor
  ceiling := s.share.ceiling
  grant := s.share.grant
  voltage := if (record s).voltageInput then some (smoothed s) else none
  discharge := if isBat s then some s.share.discharge else none
  summary := ownSummary s

/-- The own entry created or rewritten (R78, R79). -/
def writeOwn (s : State) : State :=
  s.withPeers (putPeer ⟨s.loader.station, ownFields s, now s, 0, .fresh⟩ s.peers)

/-- A STATE frame as built at the start of its attempt (R58): demand, floor and ceiling as they stand in the own entry. -/
def builtFields (s : State) : StateFields :=
  match ownEntry s with
  | none => ownFields s
  | some e =>
    { ownFields s with demand := e.fields.demand, floor := e.fields.floor, ceiling := e.fields.ceiling }

/-! ### Emptying the transmitter (R66, R68) -/

/-- The reports "ACK discarded" for every ACK notice in the queue. -/
def discardAcks (s : State) : State := (s.line.ackPart.map (·.content)).foldl (fun s c => reportDiscarded c s) s

/-- The STATE slot and the notice queue are emptied, with the reports (R66, R68). -/
def emptyQueue (s : State) : State :=
  let s := discardAcks s
  s.withLine { s.line with
    attempt := none
    stateWaiting := false
    gapPart := none
    gapPairing := false
    alarmPart := []
    ackPart := []
    stateFirst := false }

/-- Entry to TX_SUSPENDED (R66, R112). -/
def enterSuspended (s : State) : State :=
  let s := emptyQueue s
  let s := s.withLine { s.line with suspendedAt := some (now s) }
  let s := s.withLoader { s.loader with run := .txSuspended }
  floorHold (raise .txSuspended s)

/-! ### Attempts (R54 to R57, R61 to R64) -/

/-- The frame that stands first in send order, with the slot or queue as its attempt leaves it (R54). -/
def takeFirst (s : State) : Option (Sending × Body × Line) :=
  match firstWaiting s.line with
  | none => none
  | some .gap =>
    s.line.gapPart.map fun n =>
      (.gap, .gap n.content,
        { s.line with gapPart := some { n with attempts := n.attempts + 1, onWire := true, renewed := false }, gapPairing := false })
  | some .alarm =>
    s.line.alarmPart.head?.map fun n =>
      (.alarm, .alarm n.content,
        { s.line with alarmPart := { n with attempts := n.attempts + 1, onWire := true, renewed := false } :: s.line.alarmPart.tail })
  | some .ack =>
    s.line.ackPart.head?.map fun n =>
      (.ack, .ack n.content,
        { s.line with ackPart := { n with attempts := n.attempts + 1, onWire := true } :: s.line.ackPart.tail })
  | some .state =>
    some (.state (s.line.statesSent < 3), .state (builtFields s), { s.line with stateWaiting := false, seq := s.line.seq + 1 })

/-- REC rises by 1 and stops at 255 (R50). -/
def countFault (l : Line) : Line := { l with recv := min 255 (l.recv + 1) }

/-- A start bit after at least 12 idle bit times truncates a frame that is open (R49). -/
def truncateOpen (l : Line) : Line :=
  match l.rx with
  | .hunting => l
  | .inFrame _ => { countFault l with rx := .hunting }

/-- More than 20 idle bit times inside a frame truncate it (R49); otherwise the idle time only grows. -/
def idleLine (idle : Nat) (s : State) : State :=
  match s.line.rx with
  | .hunting => s.withLine { s.line with idle := idle }
  | .inFrame _ =>
    if 20 < idle then s.withLine { countFault s.line with rx := .hunting, idle := idle }
    else s.withLine { s.line with idle := idle }

/-- The line as the start bit of an attempt leaves it: a frame that is open is truncated, and the receiver takes the own frame
(R49, R50). -/
def openAttempt (what : Sending) (bytes : List Byte) (l : Line) : Line :=
  { truncateOpen l with
    attempt := some ⟨what, bytes, l.rx, l.idle, l.recv⟩
    sentAt := none
    rx := .inFrame []
    idle := 0 }

/-- The start of an attempt (R53, R54): the line stands idle for `idle` further bit times, which may truncate a frame that is open,
and the idle time has then reached the deferral of the first frame in send order. While the station is sending, the line is not
idle. -/
def startAttempt (idle : Nat) (s : State) : State :=
  if isLive s = true ∧ s.line.attempt = none then
    let t := idleLine (s.line.idle + idle) s
    match firstWaiting t.line, takeFirst t with
    | some w, some (what, body, l) =>
      if t.loader.run = .running ∧ deferral w t.loader.station ≤ t.line.idle then
        t.withLine (openAttempt what (frameBytes ⟨t.loader.station, body⟩) l)
      else t
    | _, _ => t
  else s

/-- A notice after its attempt, when it stays where it waited. -/
def restNotice {α : Type} (n : Notice α) : Notice α := { n with onWire := false, renewed := false }

/-- The fate of a notice at an abort: a renewed one stays, one that has had 16 attempts is discarded (R61, R64). -/
def afterAbort {α : Type} (n : Notice α) : Option (Notice α) :=
  if n.onWire = true ∧ n.renewed = false ∧ 16 ≤ n.attempts then none else some (restNotice n)

/-- The fate of a notice at a success: a renewed one stays, else it leaves (R56, R61). -/
def afterSuccess {α : Type} (n : Notice α) : Option (Notice α) :=
  if n.onWire = true ∧ n.renewed = false then none else some (restNotice n)

/-- The GAP part at an abort: a GAP_END that pairs with the attempt leaves, since its GAP_START was not sent (R62). -/
def gapAfterAbort (l : Line) : Line :=
  { l with gapPart := if l.gapPairing then none else l.gapPart.bind afterAbort, gapPairing := false }

/-- The GAP part at a success: a GAP_END that pairs with the attempt stays (R62). -/
def gapAfterSuccess (l : Line) : Line :=
  { l with gapPart := if l.gapPairing then l.gapPart.map restNotice else l.gapPart.bind afterSuccess, gapPairing := false }

/-- An ACK notice discarded at its attempt limit is reported (R63, R64). -/
def ackAfterAbort (s : State) : State :=
  let discarded := s.line.ackPart.filter fun n => (afterAbort n).isNone
  let s := (discarded.map (·.content)).foldl (fun s c => reportDiscarded c s) s
  s.withLine { s.line with ackPart := s.line.ackPart.filterMap afterAbort }

/-- An ACK notice sent is reported (R56, R63). -/
def ackAfterSuccess (s : State) : State :=
  let sent := s.line.ackPart.filter fun n => (afterSuccess n).isNone
  let s := (sent.map (·.content)).foldl (fun s c => reportSent c s) s
  s.withLine { s.line with ackPart := s.line.ackPart.filterMap afterSuccess }

/-- What an abort does to where the frame waited (R55, R57, R61, R62, R64). A failed STATE waits again unless a newer one does. -/
def returnFrame (what : Sending) (s : State) : State :=
  match what with
  | .gap => s.withLine (gapAfterAbort s.line)
  | .alarm => s.withLine { s.line with alarmPart := s.line.alarmPart.filterMap afterAbort }
  | .ack => ackAfterAbort s
  | .state _ => s.withLine { s.line with stateWaiting := true, stateFirst := false }

/-- What a success does to where the frame waited (R56 to R58, R61, R62). -/
def releaseFrame (what : Sending) (s : State) : State :=
  match what with
  | .gap => s.withLine (gapAfterSuccess s.line)
  | .alarm => s.withLine { s.line with alarmPart := s.line.alarmPart.filterMap afterSuccess }
  | .ack => ackAfterSuccess s
  | .state _ => s.withLine { s.line with statesSent := min 3 (s.line.statesSent + 1), stateFirst := false }

/-- The line's receiver after a collision at bit `bit` of an attempt (R55). It keeps the whole bytes it has taken; the first start bit
read as 1 is a glitch to it, and nothing that start bit did to it stands (R46). -/
def receiverAfterAbort (bit : Nat) (a : Attempt) (l : Line) : Line :=
  if bit = 0 then { l with attempt := none, rx := a.rxBefore, idle := a.idleBefore, recv := min l.recv a.recvBefore }
  else { l with attempt := none, rx := .inFrame (a.bytes.take (bit / 10)) }

/-- A collision abort at bit `bit` of the frame (R55): TEC rises, and at 32 the station is suspended (R66). -/
def abortAttempt (bit : Nat) (s : State) : State :=
  match s.line.attempt with
  | none => s
  | some a =>
    if bit + 1 < 10 * a.bytes.length then
      alarmEvent (fun s =>
        let tec := min 32 (s.line.tec + 1)
        let s := s.withLine { receiverAfterAbort bit a s.line with tec := tec }
        let s := returnFrame a.what s
        if tec = 32 then enterSuspended s else s) s
    else s

/-- A success (R56): TEC falls by 1 unless it is 0, and the frame leaves; the last stop bit is still to be sent. -/
def succeedAttempt (s : State) : State :=
  match s.line.attempt with
  | none => s
  | some a =>
    alarmEvent (fun s =>
      releaseFrame a.what
        (s.withLine { s.line with
          attempt := none, sentAt := some (micros s.clock), rx := .hunting, idle := 0, tec := s.line.tec - 1 })) s

/-- The end of a suspension (R67). -/
def endSuspension (s : State) : State :=
  if s.loader.run = .txSuspended ∧ expired (now s) s.line.suspendedAt 1000 = true then
    let s := s.withLine { s.line with tec := 16, suspendedAt := none, stateFirst := true }
    raise .txResumed (s.withLoader { s.loader with run := .running })
  else s

/-! ### Accepting a STATE frame (R72 to R75) -/

/-- The sequence window (R73). -/
def inWindow (new last : Byte) : Bool :=
  let d := (new - last).toNat
  1 ≤ d && d ≤ 127

/-- An accepted STATE frame is applied in the order of R75. -/
def applyState (src : Station) (f : StateFields) (rejoin wasCol : Bool) (s : State) : State :=
  let s := s.withPeers (putPeer ⟨src, f, now s, 0, .fresh⟩ s.peers)
  if f.role = .col then summaryHeard src f.summary rejoin s
  else if wasCol then summaryHeard src [] true s
  else s

/-- A STATE frame of another station (Table 4-3). -/
def stateHeard (src : Station) (f : StateFields) (s : State) : State :=
  match peerOf s src with
  | none => applyState src f false false (raise .peerJoined s)
  | some e =>
    if f.boot then applyState src f true (e.fields.role == .col) s
    else if inWindow f.seq e.fields.seq then applyState src f false (e.fields.role == .col) s
    else s

/-- An ACK frame (R122): for an own alarm of this COL station; otherwise ignored. -/
def ackHeard (c : AckContent) (s : State) : State :=
  if isCol s = true ∧ c.origin = s.loader.station then alarmEvent (ackOwn c.number) s else s

/-! ### Clash (R68, R80) -/

/-- The run state becomes CLASH; a station in its listen phase gets its own entry (R80). -/
def toClash (s : State) : State :=
  let t := s.withLoader { s.loader with run := .clash }
  if s.loader.run = .listen then writeOwn t else t

/-- The declaration of CLASH (R68, R80, R112); in CLASH already, nothing. -/
def declareClash (s : State) : State :=
  if s.loader.run = .clash then s
  else
    alarmEvent (fun s =>
      let s := emptyQueue (toClash s)
      let s := s.withLine { s.line with suspendedAt := none }
      raise .stationClash (floorHold s)) s

/-! ### Reception (R49 to R51) -/

/-- The hand-on of a good frame of another station (R51). -/
def handOn (f : Frame) (s : State) : State :=
  if f.source = s.loader.station then declareClash s
  else
    match f.body with
    | .state x => stateHeard f.source x s
    | .alarm c => alarmHeard f.source c s
    | .ack c => ackHeard c s
    | .gap g => gapHeard f.source g s

/-- The receiver after bytes whose reception came to `r` (R49, R50). -/
def settleReception (frame : List Byte) (r : Reception) (s : State) : State :=
  match r with
  | .incomplete => s.withLine { s.line with rx := .inFrame frame }
  | .fault _ => s.withLine { countFault s.line with rx := .hunting }
  | .good f => handOn f (s.withLine { s.line with rx := .hunting })

/-- The bytes of the frame that a start bit after this idle time belongs to, with the line as that start bit leaves it: `none`
when it begins no frame (R49). -/
def frameSoFar (idle : Nat) (l : Line) : Option (List Byte) × Line :=
  match l.rx with
  | .hunting => if 12 ≤ idle then (some [], l) else (none, l)
  | .inFrame before => if idle < 12 then (some before, l) else (some [], truncateOpen l)

/-- The line stands idle for `idle` further bit times and then carries these bytes back to back. Nothing is taken in
CONFIGURING and CONFIG_FAULT, nor while the station itself is sending (R50, R51). -/
def receive (idle : Nat) (bytes : List Byte) (framing : Bool) (s : State) : State :=
  if isLive s = true ∧ s.line.attempt = none then
    let total := s.line.idle + idle
    if bytes.isEmpty then idleLine total s
    else
      match frameSoFar total s.line with
      | (none, l) => s.withLine { l with idle := 0 }
      | (some before, l) =>
        let frame := before ++ bytes
        settleReception frame (if framing then examineFraming frame else examine frame) (s.withLine { l with idle := 0 })
  else s

/-! ### Commands -/

/-- STATE_FRAME (R75). -/
def execStateFrame (dt idle : Nat) (bytes : List Byte) (s : State) : Host.Outcome State Fault Refusal :=
  perform dt (receive idle bytes false) s

/-- ALARM_FRAME (R124). -/
def execAlarmFrame (dt idle : Nat) (bytes : List Byte) (s : State) : Host.Outcome State Fault Refusal :=
  perform dt (receive idle bytes false) s

/-- ACK_FRAME (R122). -/
def execAckFrame (dt idle : Nat) (bytes : List Byte) (s : State) : Host.Outcome State Fault Refusal :=
  perform dt (receive idle bytes false) s

/-- GAP_START_FRAME (R12). -/
def execGapStartFrame (dt idle : Nat) (bytes : List Byte) (s : State) : Host.Outcome State Fault Refusal :=
  perform dt (receive idle bytes false) s

/-- GAP_END_FRAME (R13). -/
def execGapEndFrame (dt idle : Nat) (bytes : List Byte) (s : State) : Host.Outcome State Fault Refusal :=
  perform dt (receive idle bytes false) s

/-- CLASH_FRAME (R80). -/
def execClashFrame (dt idle : Nat) (bytes : List Byte) (s : State) : Host.Outcome State Fault Refusal :=
  perform dt (receive idle bytes false) s

/-- RECEIVE_FAULT (R50). -/
def execReceiveFault (dt idle : Nat) (bytes : List Byte) (framing : Bool) (s : State) : Host.Outcome State Fault Refusal :=
  perform dt (receive idle bytes framing) s

/-- FRAME_TRUNCATION (R49): bytes of a frame, then idle inside it. -/
def execFrameTruncation (dt idle : Nat) (bytes : List Byte) (gap : Nat) (s : State) : Host.Outcome State Fault Refusal :=
  perform dt (fun s => receive gap [] false (receive idle bytes false s)) s

/-- DEFERRAL_REACHED (R53, R54). -/
def execDeferralReached (dt idle : Nat) (s : State) : Host.Outcome State Fault Refusal := perform dt (startAttempt idle) s

/-- COLLISION_ABORT (R55). -/
def execCollisionAbort (dt bit : Nat) (s : State) : Host.Outcome State Fault Refusal := perform dt (abortAttempt bit) s

/-- TRANSMIT_SUCCESS (R56). -/
def execTransmitSuccess (dt : Nat) (s : State) : Host.Outcome State Fault Refusal := perform dt succeedAttempt s

/-- SUSPENSION_EXPIRY (R67). -/
def execSuspensionExpiry (dt : Nat) (s : State) : Host.Outcome State Fault Refusal := perform dt endSuspension s

end Sys2Proof.Machine
end

