-- ==== Sys2Proof/Machine/Share.lean ====
section
/-!
DEFINITION. Share Engine and Shed Sequencer at a period boundary (chapters 5 and 6, with the ageing of chapter 4): the allocation,
the four stages, and the commands PERIOD_BOUNDARY, LISTEN_PHASE_END, PEER_STALE, PEER_LOST, DEMAND_TIMEOUT, SOURCE_TIMEOUT,
ACK_PENDING_LAPSE, LIMIT_PERIOD_OPENS and LIMIT_DUTY_REACHED.
-/
namespace Sys2Proof.Machine

/-! ### The allocation (R90 to R98) -/

/-- What the allocation reads of an entry (Table 5-2), and the grant it gives it. -/
structure Claimant where
  station : Station
  cls : Nat
  /-- effective demand d -/
  d : Nat
  /-- floor part f -/
  f : Nat
  weight : Nat
  takesExcess : Bool
  g : Nat
  deriving DecidableEq, Repr

/-- The inputs of one entry (R90, R91). The own entry holds the station's own figures (R79). -/
def claimant (e : Peer) : Claimant :=
  match e.freshness with
  | .fresh =>
    let d := min e.fields.demand e.fields.ceiling
    ⟨e.station, e.fields.cls, d, min d e.fields.floor, e.fields.weight, true, 0⟩
  | .stale claim => ⟨e.station, e.fields.cls, claim, claim, 0, false, 0⟩

/-- The allocation in progress: the grants so far, Rem, and whether the pass has ended early. -/
structure Division where
  entries : List Claimant
  rem : Nat
  stopped : Bool
  deriving DecidableEq, Repr

/-- The sum of the floor parts of a class. -/
def floorSum (c : Nat) (es : List Claimant) : Nat := ((es.filter fun e => e.cls == c).map (·.f)).sum

/-- The grants of a class. -/
def grantSum (c : Nat) (es : List Claimant) : Nat := ((es.filter fun e => e.cls == c).map (·.g)).sum

/-- One class of the floors pass; a shortfall stops the pass (R94, R95). -/
def floorsClass (x : Division) (c : Nat) : Division :=
  if x.stopped then x
  else
    let total := floorSum c x.entries
    if total ≤ x.rem then
      ⟨x.entries.map fun e => if e.cls = c then { e with g := e.f } else e, x.rem - total, false⟩
    else
      let es := x.entries.map fun e => if e.cls = c then { e with g := e.f * x.rem / total } else e
      ⟨es, x.rem - grantSum c es, true⟩

/-- The floors pass over B (R93, R94). -/
def floorsPass (budget : Nat) (es : List Claimant) : Division := [0, 1, 2].foldl floorsClass ⟨es, budget, false⟩

/-- An entry of the class that wants excess; in a water-filling these are the set A, since a satisfied entry has reached d
(R96, R97). -/
def wantsExcess (c : Nat) (e : Claimant) : Bool := e.cls == c && e.takesExcess && e.g < e.d

/-- The excess wanted (R96). -/
def wanted (e : Claimant) : Nat := e.d - e.g

/-- The sum of the excess wanted in a class. -/
def wantedSum (c : Nat) (es : List Claimant) : Nat := ((es.filter (wantsExcess c)).map wanted).sum

/-- WA, the sum of the weights over A. -/
def weightSum (c : Nat) (es : List Claimant) : Nat := ((es.filter (wantsExcess c)).map (·.weight)).sum

/-- The share of an entry in a round (R97). -/
def shareOf (rem weights : Nat) (e : Claimant) : Nat := rem * e.weight / weights

/-- An entry of A whose excess wanted its share covers (R97). -/
def isSatisfied (c rem weights : Nat) (e : Claimant) : Bool := wantsExcess c e && wanted e ≤ shareOf rem weights e

/-- Water-filling in rounds, at most `fuel` of them (R97, R98). -/
def waterFill (c : Nat) : Nat → Nat → List Claimant → List Claimant × Nat
  | 0, rem, es => (es, rem)
  | fuel + 1, rem, es =>
    let weights := weightSum c es
    let satisfied := es.filter (isSatisfied c rem weights)
    if satisfied.isEmpty then
      (es.map fun e => if wantsExcess c e then { e with g := e.g + shareOf rem weights e } else e,
        rem - ((es.filter (wantsExcess c)).map (shareOf rem weights)).sum)
    else
      waterFill c fuel (rem - (satisfied.map wanted).sum)
        (es.map fun e => if isSatisfied c rem weights e then { e with g := e.d } else e)

/-- One class of the excess pass; a water-filling ends the pass (R96, R98). -/
def excessClass (x : Division) (c : Nat) : Division :=
  if x.stopped then x
  else
    let total := wantedSum c x.entries
    if total ≤ x.rem then
      ⟨x.entries.map fun e => if wantsExcess c e then { e with g := e.d } else e, x.rem - total, false⟩
    else
      let (es, rem) := waterFill c 8 x.rem x.entries
      ⟨es, rem, true⟩

/-- The excess pass (R96). -/
def excessPass (x : Division) : Division := [0, 1, 2].foldl excessClass x

/-- The allocation (R93): the grants, and whether there was a floor shortfall. -/
def allocate (budget : Nat) (es : List Claimant) : List Claimant × Bool :=
  let floors := floorsPass budget es
  if floors.stopped then (floors.entries, true) else ((excessPass floors).entries, false)

/-- The grant of one station, 0 if it is not among the entries. -/
def grantOf (n : Station) (es : List Claimant) : Nat :=
  match es.find? fun e => e.station == n with
  | some e => e.g
  | none => 0

/-- The battery discharge budget (R104). -/
def batteryBudget (peers : List Peer) : Nat :=
  ((peers.filter fun e => e.freshness == .fresh && e.fields.role == .bat).map fun e => e.fields.discharge.getD 0).sum

/-! ### Stage 1 and stage 2 (R87 to R89, R113 to R115) -/

/-- Stage 1: the pending grant is taken into force (R87). -/
def takePending (s : State) : State :=
  match s.share.pendingGrant with
  | none => s
  | some p => setGrant (min p s.share.ceiling) (s.withShare { s.share with pendingGrant := none })

/-- A silence count at a boundary (R113). -/
def silenceCount (taken : Bool) (count timeout : Nat) : Nat := if taken then 0 else min (count + 1) timeout

/-- The demand silence count, its flag and its cause (R113, R114). -/
def countDemand (s : State) : State :=
  let count := silenceCount s.shed.demandTaken s.shed.demandSilence (record s).demandTimeout
  let out := count == (record s).demandTimeout
  let t := s.withShed { s.shed with demandSilence := count, demandTimedOut := out, demandTaken := false }
  if out && !s.shed.demandTimedOut then raise .demandTimeout t else t

/-- The source silence count, at a BAT station (R115). -/
def countSource (s : State) : State :=
  if isBat s then
    let count := silenceCount s.shed.sourceTaken s.shed.sourceSilence (record s).demandTimeout
    let out := count == (record s).demandTimeout
    let t := s.withShed { s.shed with sourceSilence := count, sourceTimedOut := out, sourceTaken := false }
    if out && !s.shed.sourceTimedOut then raise .demandTimeout t else t
  else s

/-- The latch (R88, R114, R115). -/
def latchPosted (s : State) : State :=
  s.withShare { s.share with
    demand := if s.shed.demandTimedOut then (record s).cfgFloor else s.port.postedDemand
    discharge := if isBat s = true ∧ s.shed.sourceTimedOut = false then s.port.postedSource else 0
    cap := s.port.postedCap }

/-- The view ceiling (R89). -/
def viewCeiling (r : Record) (v : View) : Nat := if v = .offLine then r.offWireCeiling else r.onLineCeiling

/-- A hold limits this station to its effective floor at stage 2 (R89): class 0 in GAP, TX_SUSPENDED, CLASH. -/
def heldToFloor (s : State) : Bool := ((record s).cls == 0 && s.supply.view == .gap) || isSilenced s

/-- The effective ceiling and floor, and what they lower G to (R89). -/
def settleCeilings (s : State) : State :=
  let sh := setCeilings (viewCeiling (record s) s.supply.view) s.share (record s).cfgFloor
  setGrant (min s.share.grant (if heldToFloor s then sh.floor else sh.ceiling)) (s.withShare sh)

/-- Stage 2. -/
def stageTwo (s : State) : State := settleCeilings (latchPosted (countSource (countDemand s)))

/-! ### Stage 3 (R76, R77, R79, R92, R99, R103, R107, R108, R112) -/

/-- One entry's step of age: `none` when it is removed (R76, R77). -/
def agePeer (r : Record) (own : Station) (e : Peer) : Option Peer :=
  if e.station = own then some e
  else if r.lostCount ≤ e.age + 1 then none
  else
    some { e with
      age := e.age + 1
      freshness := if e.freshness = .fresh ∧ r.staleCount ≤ e.age + 1 then .stale e.fields.grant else e.freshness }

/-- The entries that this boundary removes. -/
def lostPeers (s : State) : List Peer := s.peers.filter fun e => (agePeer (record s) s.loader.station e).isNone

/-- Whether this boundary takes a source out of FRESH. -/
def leavesFresh (before after : List Peer) (n : Station) : Bool :=
  before.any (fun e => e.station == n && e.freshness == .fresh)
    && !after.any (fun e => e.station == n && e.freshness == .fresh)

/-- The ageing: all entries age at once, then the removals have their consequences (R76, R77; assumption log 13). -/
def agePeers (s : State) : State :=
  let lost := lostPeers s
  let t := s.withPeers (s.peers.filterMap (agePeer (record s) s.loader.station))
  let t := if lost.isEmpty then t else raise .peerLost t
  alarmEvent (orphan fun n => lost.any fun e => e.station == n && e.fields.role == .col) t

/-- The records of the sources that left FRESH at a boundary, which found the table `before`, are released (R13, R76). A change of view
that this brings is seen by none of the boundary's stages (R103; DEDUCED, assumption log 13). -/
def releaseLeft (before : List Peer) (s : State) : State := releaseRecords (fun x => leavesFresh before s.peers x.source) s

/-- The own entry exists in RUNNING, TX_SUSPENDED and CLASH (R70). -/
def hasOwn (s : State) : Bool := s.loader.run == .running || isSilenced s

/-- The own entry is rewritten (R79). -/
def rewriteOwn (s : State) : State := if hasOwn s then writeOwn s else s

/-- The allocation runs (R92). -/
def allocates (s : State) : Bool := hasOwn s && s.supply.view != .gap

/-- The budget recorded, which is also the one used where an allocation runs (R92, R103). -/
def boundaryBudget (s : State) : Nat :=
  if allocates s = true ∧ s.supply.view = .offLine then batteryBudget s.peers else supplyBudget s

/-- The allocation's result at this boundary. -/
def boundaryGrants (s : State) : List Claimant × Bool := allocate (boundaryBudget s) (s.peers.map claimant)

/-- The ordinary rule of the pending grant (R99). -/
def rampedGrant (target grant ramp : Nat) : Nat := if grant < target then min target (grant + ramp) else target

/-- The GAP hold value (R107). -/
def holdValue (s : State) : Nat := if (record s).cls = 0 then min s.share.grant s.share.floor else 0

/-- What the view leaves of a target (R99, R107). -/
def viewPending (target : Nat) (s : State) : Nat :=
  if s.supply.view = .gap ∨ s.supply.view = .restoring then holdValue s
  else rampedGrant target s.share.grant (record s).rampStep

/-- The pending grant formed (R99, R107, R108, R112). -/
def formedPending (target : Nat) (s : State) : Nat :=
  if s.loader.run = .listen then 0
  else if isSilenced s then min (viewPending target s) s.share.floor
  else viewPending target s

/-- The budget, the allocation and the new pending grant. -/
def formPending (s : State) : State :=
  let budget := boundaryBudget s
  if allocates s then
    let (grants, short) := boundaryGrants s
    let target := grantOf s.loader.station grants
    let t := s.withShare { s.share with
      budget := budget, target := target, pendingGrant := some (formedPending target s) }
    if short then raise .grantShort t else t
  else s.withShare { s.share with budget := budget, pendingGrant := some (formedPending s.share.target s) }

/-- Stage 3. -/
def stageThree (s : State) : State := formPending (rewriteOwn (agePeers s))

/-! ### The boundary (R85, R86, R158) -/

/-- Stage 4: in RUNNING a STATE is queued (R57). -/
def stageFour (s : State) : State :=
  if s.loader.run = .running then s.withLine { s.line with stateWaiting := true } else s

/-- A boundary is due. -/
def boundaryDue (s : State) : Bool := isLive s && expired (now s) s.share.boundaryAt (record s).period

/-- The listen phase ends at this boundary (R85, R158). -/
def listenEnds (s : State) : Bool := s.loader.run == .listen && decide ((record s).lostCount ≤ s.share.boundaries + 1)

/-- The end of the listen phase, before the stages (R158). -/
def endListen (s : State) : State :=
  if listenEnds s then writeOwn (s.withLoader { s.loader with run := .running }) else s

/-- The boundary timer moves on to the next boundary (R85). -/
def countBoundary (s : State) : State :=
  s.withShare { s.share with
    boundaryAt := s.share.boundaryAt.map (later · (record s).period)
    boundaries := s.share.boundaries + 1 }

/-- The four stages, and the step of the ack-pending counts (R86, R132; assumption log 14). -/
def stages (s : State) : State := alarmEvent countAcks (stageFour (stageThree (stageTwo (takePending s))))

/-- A period boundary; no effect while none is due. The stages end before the records of the sources that left FRESH are released. -/
def takeBoundary (s : State) : State :=
  if boundaryDue s then releaseLeft s.peers (stages (countBoundary (endListen s))) else s

/-- The boundary, when what the row names comes about at it (assumption log 3). -/
def boundaryWhen (happens : State → Bool) (s : State) : State := if happens s then takeBoundary s else s

/-- The entry of this station number becomes STALE at the next boundary (R76). -/
def turnsStale (n : Station) (s : State) : Bool :=
  s.peers.any fun e =>
    e.station == n && e.freshness == .fresh &&
      match agePeer (record s) s.loader.station e with
      | none => false
      | some a => a.freshness != .fresh

/-- The entry of this station number is removed at the next boundary (R77). -/
def turnsLost (n : Station) (s : State) : Bool := (lostPeers s).any fun e => e.station == n

/-- The demand silence count reaches the timeout at the next boundary (R114). -/
def demandRunsOut (s : State) : Bool :=
  !s.shed.demandTimedOut && silenceCount s.shed.demandTaken s.shed.demandSilence (record s).demandTimeout == (record s).demandTimeout

/-- The source silence count reaches the timeout at the next boundary (R115). -/
def sourceRunsOut (s : State) : Bool :=
  isBat s && !s.shed.sourceTimedOut &&
    silenceCount s.shed.sourceTaken s.shed.sourceSilence (record s).demandTimeout == (record s).demandTimeout

/-- The ack pending of this alarm lapses at the next boundary (R132). -/
def ackLapses (o : Station) (n : Byte) (s : State) : Bool :=
  match findAlarm s o n with
  | some e => e.ack != .absent && countAck e.ack == .absent
  | none => false

/-! ### The limit output (R101) -/

/-- A PWM period opens 1000 µs after the one before; the first one may open at any time (assumption log 19). -/
def openLimitPeriod (s : State) : State :=
  let opened (us : Nat) : State :=
    let sh := { s.share with limitElapsed := some us }
    s.withShare { sh with limitHigh := dutyNotReached sh }
  match s.share.limitElapsed with
  | none => opened 0
  | some us => if 1000 ≤ us then opened (us - 1000) else s

/-- The output goes low when the time since the period opened has reached the duty. -/
def reachLimitDuty (s : State) : State := s.withShare (settleLimit s.share)

/-! ### Commands -/

/-- PERIOD_BOUNDARY (R86). -/
def execPeriodBoundary (dt : Nat) (s : State) : Host.Outcome State Fault Refusal := perform dt takeBoundary s

/-- LISTEN_PHASE_END (R158): the boundary at which the listen phase ends. -/
def execListenPhaseEnd (dt : Nat) (s : State) : Host.Outcome State Fault Refusal := perform dt (boundaryWhen listenEnds) s

/-- PEER_STALE (R76): the boundary at which this entry becomes STALE. -/
def execPeerStale (dt : Nat) (n : Station) (s : State) : Host.Outcome State Fault Refusal :=
  perform dt (boundaryWhen (turnsStale n)) s

/-- PEER_LOST (R77): the boundary at which this entry is removed. -/
def execPeerLost (dt : Nat) (n : Station) (s : State) : Host.Outcome State Fault Refusal :=
  perform dt (boundaryWhen (turnsLost n)) s

/-- DEMAND_TIMEOUT (R114): the boundary at which the demand times out. -/
def execDemandTimeout (dt : Nat) (s : State) : Host.Outcome State Fault Refusal := perform dt (boundaryWhen demandRunsOut) s

/-- SOURCE_TIMEOUT (R115): the boundary at which the discharge limit times out. -/
def execSourceTimeout (dt : Nat) (s : State) : Host.Outcome State Fault Refusal := perform dt (boundaryWhen sourceRunsOut) s

/-- ACK_PENDING_LAPSE (R132): the boundary at which this ack pending lapses. -/
def execAckPendingLapse (dt : Nat) (o : Station) (n : Byte) (s : State) : Host.Outcome State Fault Refusal :=
  perform dt (boundaryWhen (ackLapses o n)) s

/-- LIMIT_PERIOD_OPENS (R101). -/
def execLimitPeriodOpens (dt : Nat) (s : State) : Host.Outcome State Fault Refusal := perform dt openLimitPeriod s

/-- LIMIT_DUTY_REACHED (R101). -/
def execLimitDutyReached (dt : Nat) (s : State) : Host.Outcome State Fault Refusal := perform dt reachLimitDuty s

end Sys2Proof.Machine
end

