-- ==== Sys2Proof/Machine/StartUp.lean ====
section
/-!
DEFINITION. Start-up and configuration (chapter 9): the three resets, the read of the record, CONFIG_FAULT and listen entry; the
commands POWER_ON_RESET, RESET_PIN, RESET_PIN_ASSERTED, SUPPLY_BELOW_OPERATING_LEVEL, CONFIG_ATTEMPT_FAILED, CONFIG_READ_RETRY,
CONFIG_READ_COMPLETE and CONFIG_READ_DEADLINE.
-/
namespace Sys2Proof.Machine

/-! ### Resets (R153) -/

/-- A pole after a module reset: its retrieve output keeps its level, and an asserted one gives the carried mark (R31, R37, R45). -/
def carryPole (q : Pole) : Pole := { Pole.afterReset with retrieve := q.retrieve, carried := q.retrieve }

/-- Pole Watch after a module reset (R45). -/
def carryPoles (w : PoleWatch) : PoleWatch := { PoleWatch.afterReset with p := carryPole w.p, n := carryPole w.n }

/-- The response that a reset takes away: the one held when it began (R138, R139). A reset in a reset, or in a frame that one has
abandoned, finds it taken already. -/
def lostResponse (s : State) : Response := if inReset s || s.port.abandoned then s.port.lost else s.port.held

/-- Every block but the Loader and the clock at its reset values (R21, R45, R69, R83, R102, R116, R137, R152). -/
def resetBlocks (poles : PoleWatch) (history : List HistoryRecord) (abandoned : Bool) (s : State) : State :=
  { s with
    supply := Supply.afterReset
    poles := poles
    line := Line.afterReset
    peers := []
    share := Share.afterReset
    shed := Shed.afterReset
    alarms := Alarms.afterReset history
    port := Port.afterReset abandoned (lostResponse s) }

/-- The blocks after a power-on reset. -/
def powerOnBlocks (abandoned : Bool) (s : State) : State := resetBlocks PoleWatch.afterReset [] abandoned s

/-- The blocks after a module reset: the retrieve outputs and the history list are kept (R45, R137). -/
def moduleBlocks (abandoned : Bool) (s : State) : State := resetBlocks (carryPoles s.poles) s.alarms.history abandoned s

/-- The end of a reset: station time restarts, the straps are read, CONFIGURING begins with a read attempt (R153, R154). -/
def endReset (straps : BitVec 3) (cause : ResetCause) (pin : PinHold) (s : State) : State :=
  (s.withClock ⟨0, 0, 0⟩).withLoader (Loader.afterReset straps.toFin cause pin)

/-- A reset that is held: the read is abandoned and no record is locked (R153; assumption log 5). -/
def holdLoader (supplyLow : Bool) (pin : PinHold) (s : State) : State :=
  s.withLoader { s.loader with
    run := .configuring, supplyLow := supplyLow, pin := pin, attempt := .idle, bus := [], received := [], locked := none }

/-- The reset pin as a power-on reset leaves it: an asserted one is part of that reset (R153). -/
def absorbPin (p : PinHold) : PinHold := if p = .released then .released else .absorbed

/-- The end of a power-on reset. -/
def powerOn (straps : BitVec 3) (csAsserted : Bool) (s : State) : State :=
  endReset straps .powerOn (absorbPin s.loader.pin) (powerOnBlocks csAsserted s)

/-- The release of the reset pin: the end of a module reset, unless the pin was part of a power-on reset (R153;
assumption log 6). -/
def releasePin (straps : BitVec 3) (csAsserted : Bool) (s : State) : State :=
  if s.loader.supplyLow = true ∨ s.loader.pin = .absorbed then s.withLoader { s.loader with pin := .released }
  else endReset straps .resetPin .released (moduleBlocks csAsserted s)

/-- The assertion of the reset pin: a module reset is held, or the pin joins a held power-on reset. -/
def assertPin (s : State) : State :=
  if s.loader.supplyLow then s.withLoader { s.loader with pin := .absorbed }
  else holdLoader false .holding (moduleBlocks false s)

/-- The supply falls below its operating level: a power-on reset is held. -/
def dropSupply (s : State) : State := holdLoader true (absorbPin s.loader.pin) (powerOnBlocks false s)

/-- A request reset, at the end of its frame (R148, R153). -/
def requestReset (straps : BitVec 3) (s : State) : State := endReset straps .request s.loader.pin (moduleBlocks false s)

/-! ### Reading the record (R154) -/

/-- The address of the configuration memory. -/
def memoryAddress : BitVec 7 := 0x50#7

/-- The steps of an attempt: a plain sequential read of 54 bytes from the beginning of the memory. -/
def readTransaction : List BusStep :=
  [.start, .address memoryAddress false, .word 0x00#8, .start, .address memoryAddress true]
    ++ List.replicate 53 (.read true) ++ [.read false, .stop]

/-- How many steps an attempt has made when the data line fails it, if it does: a condition needs the line high, an acknowledge is
the line low. -/
def failurePoint (l : BusLevels) : Option Nat :=
  if !l.atStart then some 0
  else if l.atWriteAddress then some 2
  else if l.atWordAddress then some 3
  else if !l.atRestart then some 3
  else if l.atReadAddress then some 5
  else none

/-- An attempt ends after `done` of its steps, with a stop condition. -/
def cutTransaction (done : Nat) : List BusStep := readTransaction.dropLast.take done ++ [.stop]

/-- An attempt fails, if these levels of the data line fail it; a stop condition is issued. -/
def failAttempt (levels : BusLevels) (s : State) : State :=
  match failurePoint levels with
  | none => s
  | some done =>
    if s.loader.run = .configuring ∧ s.loader.attempt = .inProgress then
      s.withLoader { s.loader with attempt := .failed (now s), bus := cutTransaction done, received := [] }
    else s

/-- A new attempt begins 1 ms after a failure. -/
def retryAttempt (s : State) : State :=
  match s.loader.attempt with
  | .failed t =>
    if s.loader.run = .configuring ∧ reached (now s) t 1 = true then
      s.withLoader { s.loader with attempt := .inProgress }
    else s
  | .idle | .inProgress => s

/-- Entry to CONFIG_FAULT (R156). -/
def enterConfigFault (f : ConfigFault) (s : State) : State :=
  raise .configFault (unwatchPoles (s.withLoader { s.loader with run := .configFault, fault := f, attempt := .idle }))

/-- The lock and listen entry (R11, R85, R157): the timed work of every block starts. The line has then been idle for 0 bit times
whatever RXD reads; where it reads 0, the idle time that the next line command brings counts from RXD's return to 1 (R49; assumption
log 8). -/
def enterListen (r : Record) (s : State) : State :=
  let t := now s
  let col := r.role == some .col
  let s := s.withLoader { s.loader with run := .listen, locked := some r, attempt := .idle }
  let s := s.withSupply { s.supply with
    windowStart := if r.voltageInput then some t else none, voltageOk := !r.voltageInput, gapStart := some t }
  let s := s.withShare { s.share with boundaryAt := some t, boundaries := 0 }
  let s := s.withLine { s.line with idle := 0 }
  let s := s.withAlarms { s.alarms with debounceStart := s.clock.up }
  let s :=
    if col then
      s.withPoles { s.poles with
        p := { s.poles.p with headStart := some t }, n := { s.poles.n with headStart := some t }, calStart := some t }
    else unwatchPoles s
  examineExit s

/-- The read ends with 54 bytes before the deadline, and the record is checked (R155). -/
def completeRead (bytes : List Byte) (s : State) : State :=
  if s.loader.run = .configuring ∧ s.loader.attempt = .inProgress ∧ reached (now s) s.loader.readStart 20 = false
      ∧ bytes.length = 54 then
    let t := s.withLoader { s.loader with bus := readTransaction, received := bytes }
    match checkRecord bytes s.loader.station with
    | .ok r => enterListen r t
    | .error f => enterConfigFault f t
  else s

/-- The deadline of the read (R154): an attempt in progress is abandoned after `done` of its steps, with a stop condition. -/
def reachReadDeadline (done : Nat) (s : State) : State :=
  if s.loader.run = .configuring ∧ reached (now s) s.loader.readStart 20 = true then
    enterConfigFault .noAnswer
      (s.withLoader { s.loader with bus := if s.loader.attempt = .inProgress then cutTransaction done else s.loader.bus })
  else s

/-! ### Commands -/

/-- POWER_ON_RESET (R153). -/
def execPowerOnReset (straps : BitVec 3) (csAsserted : Bool) (s : State) : Host.Outcome State Fault Refusal :=
  .next (powerOn straps csAsserted s)

/-- RESET_PIN (R153). -/
def execResetPin (straps : BitVec 3) (csAsserted : Bool) (s : State) : Host.Outcome State Fault Refusal :=
  .next (releasePin straps csAsserted s)

/-- RESET_PIN_ASSERTED (R153). -/
def execResetPinAsserted (s : State) : Host.Outcome State Fault Refusal := .next (assertPin s)

/-- SUPPLY_BELOW_OPERATING_LEVEL (R153). -/
def execSupplyBelowOperatingLevel (s : State) : Host.Outcome State Fault Refusal := .next (dropSupply s)

/-- CONFIG_ATTEMPT_FAILED (R154). -/
def execConfigAttemptFailed (failed : FailedAttempt) (s : State) : Host.Outcome State Fault Refusal :=
  perform failed.dt (failAttempt failed.levels) s

/-- CONFIG_READ_RETRY (R154). -/
def execConfigReadRetry (dt : Nat) (s : State) : Host.Outcome State Fault Refusal := perform dt retryAttempt s

/-- CONFIG_READ_COMPLETE (R155, R156, R157). -/
def execConfigReadComplete (dt : Nat) (bytes : List Byte) (s : State) : Host.Outcome State Fault Refusal :=
  perform dt (completeRead bytes) s

/-- CONFIG_READ_DEADLINE (R154, R156). -/
def execConfigReadDeadline (deadline : ReadDeadline) (s : State) : Host.Outcome State Fault Refusal :=
  perform deadline.dt (reachReadDeadline deadline.done) s

end Sys2Proof.Machine
end

