-- ==== Sys2Proof/Machine/Port.lean ====
section
/-!
DEFINITION. Local Port (chapter 8): the exchange of a frame, the checks of R140, and the request commands.
-/
namespace Sys2Proof.Machine

/-! ### The exchange (R138, R139) -/

/-- What a request makes of the station: the state and its answer. -/
abbrev Answer := State × Status × List Byte

/-- An answer that changes nothing. -/
def answer (st : Status) (payload : List Byte) (s : State) : Answer := (s, st, payload)

/-- The port at the end of a frame of these bytes and stray bits: the held response was shifted out, bit for bit, and a new one is
held. -/
def exchange (bytes : List Byte) (strayBits : Nat) (st : Status) (payload : List Byte) (p : Port) : Port :=
  { p with
    request := bytes
    shifted := shiftOut p.held (frameLength bytes strayBits)
    held := ⟨st, bytes.headD 0, payload⟩ }

/-- The port once a frame of `n` bits has ended of which a reset let `cut` bits be read: those of the response it took away, and
zeros from the reset on (R138). -/
def readCut (cut n : Nat) (p : Port) : Port :=
  { p with shifted := shiftOut p.lost (min cut n) ++ List.replicate (n - cut) false }

/-- The end of a request frame. A frame abandoned by a reset is not taken, and the held response stays (R138). -/
def takeFrame (cut : Nat) (bytes : List Byte) (strayBits : Nat) (take : State → Answer) (s : State) : State :=
  if s.port.abandoned then
    s.withPort (readCut cut (frameLength bytes strayBits) { s.port with abandoned := false, request := [] })
  else
    let (t, st, payload) := take s
    t.withPort (exchange bytes strayBits st payload t.port)

/-- A request frame of `n` bits as a command. A frame that ends while a reset is held has been abandoned, and that is all (R138,
R153; assumption log 10). -/
def performFrame (frame : PortFrame) (n : Nat) (effect : State → State) (s : State) : Host.Outcome State Fault Refusal :=
  if inReset s then .next (s.withPort (readCut frame.cut n s.port)) else perform frame.dt effect s

/-- The command of a request: a frame of whole bytes. -/
def performRequest (frame : PortFrame) (r : Request) (take : State → Answer) (s : State) : Host.Outcome State Fault Refusal :=
  performFrame frame (frameLength (requestBytes r) 0) (takeFrame frame.cut (requestBytes r) 0 take) s

/-- The running check (R140). -/
def whenRunning (take : State → Answer) (s : State) : Answer :=
  if isLive s then take s else answer .notRunning [] s

/-! ### Posting (R142 to R144) -/

/-- The clamp at 1023 A. -/
def clampAmperes (a : BitVec 16) : Nat := min a.toNat 1023

/-- POST_DEMAND past its checks; the post is counted at the next stage 2 (R113, R142). -/
def takeDemand (a : BitVec 16) (s : State) : Answer :=
  answer .ok [] ((s.withPort { s.port with postedDemand := clampAmperes a }).withShed { s.shed with demandTaken := true })

/-- POST_SOURCE past its running check (R115, R140, R143). -/
def takeSource (a : BitVec 16) (s : State) : Answer :=
  if isBat s then
    answer .ok [] ((s.withPort { s.port with postedSource := clampAmperes a }).withShed { s.shed with sourceTaken := true })
  else answer .wrongRole [] s

/-- CAP_CEILING past its running check (R144). -/
def takeCap (a : BitVec 16) (s : State) : Answer :=
  if a.toNat ≤ s.port.postedCap then answer .ok [] (s.withPort { s.port with postedCap := a.toNat })
  else answer .notAllowed [] s

/-! ### Acting (R36, R131, R145) -/

/-- ACK_ALARM past its running check. -/
def takeAck (s : State) : Answer := answer (acknowledge s).2 [] (acknowledge s).1

/-- RELEASE_RETRIEVE past its running check (R36, R145). -/
def takeRelease (b : Byte) (s : State) : Answer :=
  if isCol s then
    match poleArgument b with
    | none => answer .noTarget [] s
    | some id =>
      if (poleOf id s.poles).state = .lowered then answer .ok [] (releasePole id s) else answer .wrongState [] s
  else answer .wrongRole [] s

/-! ### Reading (R84, R146, R147) -/

/-- The role READ_STATUS gives: 0, UNSET, while no good record is locked. -/
def roleByte (s : State) : Byte :=
  match s.loader.locked with
  | none => 0
  | some r => byteOf ((r.role.map roleCode).getD 0)

/-- A pole's state as READ_STATUS gives it: NOT_EVALUATED at a station that does not watch poles (R22). -/
def poleNibble (s : State) (q : Pole) : Nat := if isCol s then poleCode q.state else 0

/-- The payload of READ_STATUS (Table 10-8). -/
def statusPayload (s : State) : List Byte :=
  [ byteOf s.loader.station.val, roleByte s, byteOf (runCode s.loader.run), byteOf (viewCode s.supply.view)
  , byteOf (poleNibble s s.poles.p * 16 + poleNibble s s.poles.n) ]
    ++ bytes16 s.share.grant ++ bytes16 (s.share.pendingGrant.getD 0xFFFF) ++ bytes16 s.share.target
    ++ bytes16 s.share.budget ++ bytes16 s.share.cap
    ++ [ byteOf s.line.tec, byteOf s.line.recv, byteOf (causeCode s.loader.cause), byteOf (faultCode s.loader.fault) ]
    ++ bytes16 s.port.attention.toNat
    ++ [ byteOf (sensorCode s.port.sensorSource), byteOf (((selectedCause s).map causeNumber).getD 0xFF) ]

/-- READ_STATUS. -/
def takeReadStatus (s : State) : Answer := answer .ok (statusPayload s) s

/-- READ_PEER (R84, R147). -/
def takeReadPeer (b : Byte) (s : State) : Answer :=
  match s.peers.find? fun e => e.station.val == b.toNat with
  | some e => answer .ok (peerPayload e) s
  | none => answer .noTarget [] s

/-- READ_ALARMS. -/
def takeReadAlarms (s : State) : Answer := answer .ok (alarmsPayload s.alarms.table) s

/-- READ_HISTORY. -/
def takeReadHistory (b : Byte) (s : State) : Answer :=
  match s.alarms.history[b.toNat]? with
  | some h => answer .ok (historyPayload h) s
  | none => answer .noTarget [] s

/-! ### Clearing (R148, R151) -/

/-- CLEAR_ATTENTION. -/
def takeClearAttention (b : Byte) (s : State) : Answer :=
  match causeOf b.toNat with
  | some c => answer .ok [] (s.withPort (clearIn s.port c))
  | none => answer .noTarget [] s

/-- CLEAR_COUNTERS. -/
def takeClearCounters (s : State) : Answer := answer .ok [] (s.withLine { s.line with recv := 0 })

/-- MODULE_RESET: its frame shifts out the held response, and its own response is never formed (R139, R148). -/
def takeModuleReset (cut : Nat) (straps : BitVec 3) (s : State) : State :=
  if s.port.abandoned then takeFrame cut (requestBytes .moduleReset) 0 (answer .noResponse []) s
  else
    let t := requestReset straps s
    t.withPort { t.port with shifted := shiftOut s.port.held (frameLength (requestBytes .moduleReset) 0) }

/-- A frame that fails the length or the request-known check (R140); one that passes both is no such frame, and nothing comes
about (assumption log 11). -/
def takeUnknown (cut : Nat) (bytes : List Byte) (strayBits : Nat) (s : State) : State :=
  match decodeRequest bytes strayBits with
  | .error st => takeFrame cut bytes strayBits (answer st []) s
  | .ok _ => s

/-! ### Commands -/

/-- POST_DEMAND (R142). -/
def execPostDemand (frame : PortFrame) (a : BitVec 16) (s : State) : Host.Outcome State Fault Refusal :=
  performRequest frame (.postDemand a) (whenRunning (takeDemand a)) s

/-- POST_SOURCE (R143). -/
def execPostSource (frame : PortFrame) (a : BitVec 16) (s : State) : Host.Outcome State Fault Refusal :=
  performRequest frame (.postSource a) (whenRunning (takeSource a)) s

/-- CAP_CEILING (R144). -/
def execCapCeiling (frame : PortFrame) (a : BitVec 16) (s : State) : Host.Outcome State Fault Refusal :=
  performRequest frame (.capCeiling a) (whenRunning (takeCap a)) s

/-- ACK_ALARM (R145). -/
def execAckAlarm (frame : PortFrame) (s : State) : Host.Outcome State Fault Refusal :=
  performRequest frame .ackAlarm (whenRunning takeAck) s

/-- RELEASE_RETRIEVE (R36, R145). -/
def execReleaseRetrieve (frame : PortFrame) (pole : Byte) (s : State) : Host.Outcome State Fault Refusal :=
  performRequest frame (.releaseRetrieve pole) (whenRunning (takeRelease pole)) s

/-- READ_STATUS (R146). -/
def execReadStatus (frame : PortFrame) (s : State) : Host.Outcome State Fault Refusal :=
  performRequest frame .readStatus takeReadStatus s

/-- READ_PEER (R84, R147). -/
def execReadPeer (frame : PortFrame) (station : Byte) (s : State) : Host.Outcome State Fault Refusal :=
  performRequest frame (.readPeer station) (takeReadPeer station) s

/-- READ_ALARMS (R147). -/
def execReadAlarms (frame : PortFrame) (s : State) : Host.Outcome State Fault Refusal :=
  performRequest frame .readAlarms takeReadAlarms s

/-- READ_HISTORY (R147). -/
def execReadHistory (frame : PortFrame) (index : Byte) (s : State) : Host.Outcome State Fault Refusal :=
  performRequest frame (.readHistory index) (takeReadHistory index) s

/-- CLEAR_ATTENTION (R151). -/
def execClearAttention (frame : PortFrame) (cause : Byte) (s : State) : Host.Outcome State Fault Refusal :=
  performRequest frame (.clearAttention cause) (takeClearAttention cause) s

/-- CLEAR_COUNTERS (R148). -/
def execClearCounters (frame : PortFrame) (s : State) : Host.Outcome State Fault Refusal :=
  performRequest frame .clearCounters takeClearCounters s

/-- MODULE_RESET (R148, R153). -/
def execModuleReset (frame : PortFrame) (straps : BitVec 3) (s : State) : Host.Outcome State Fault Refusal :=
  performFrame frame (frameLength (requestBytes .moduleReset) 0) (takeModuleReset frame.cut straps) s

/-- UNKNOWN_REQUEST (R140). -/
def execUnknownRequest (frame : PortFrame) (bytes : List Byte) (strayBits : Nat) (s : State) : Host.Outcome State Fault Refusal :=
  performFrame frame (frameLength bytes strayBits) (takeUnknown frame.cut bytes strayBits) s

end Sys2Proof.Machine
end

