-- ==== Sys2Proof/Machine/Dispatch.lean ====
section
/-!
DEFINITION. One arm per command.
-/
namespace Sys2Proof.Machine

def exec (i : Instr) (s : State) : Host.Outcome State Fault Refusal :=
  match i with
  | .powerOnReset straps csAsserted => Sys2Proof.Machine.execPowerOnReset straps csAsserted s
  | .resetPin straps csAsserted => Sys2Proof.Machine.execResetPin straps csAsserted s
  | .configAttemptFailed failed => Sys2Proof.Machine.execConfigAttemptFailed failed s
  | .configReadRetry dt => Sys2Proof.Machine.execConfigReadRetry dt s
  | .configReadComplete dt bytes => Sys2Proof.Machine.execConfigReadComplete dt bytes s
  | .configReadDeadline deadline => Sys2Proof.Machine.execConfigReadDeadline deadline s
  | .postDemand frame amperes => Sys2Proof.Machine.execPostDemand frame amperes s
  | .postSource frame amperes => Sys2Proof.Machine.execPostSource frame amperes s
  | .capCeiling frame amperes => Sys2Proof.Machine.execCapCeiling frame amperes s
  | .ackAlarm frame => Sys2Proof.Machine.execAckAlarm frame s
  | .releaseRetrieve frame pole => Sys2Proof.Machine.execReleaseRetrieve frame pole s
  | .readStatus frame => Sys2Proof.Machine.execReadStatus frame s
  | .readPeer frame station => Sys2Proof.Machine.execReadPeer frame station s
  | .readAlarms frame => Sys2Proof.Machine.execReadAlarms frame s
  | .readHistory frame index => Sys2Proof.Machine.execReadHistory frame index s
  | .clearAttention frame cause => Sys2Proof.Machine.execClearAttention frame cause s
  | .clearCounters frame => Sys2Proof.Machine.execClearCounters frame s
  | .moduleReset frame straps => Sys2Proof.Machine.execModuleReset frame straps s
  | .unknownRequest frame bytes strayBits => Sys2Proof.Machine.execUnknownRequest frame bytes strayBits s
  | .windowCompletion dt input => Sys2Proof.Machine.execWindowCompletion dt input s
  | .rewireConfirm dt input pole => Sys2Proof.Machine.execRewireConfirm dt input pole s
  | .suspicionConfirm dt input pole => Sys2Proof.Machine.execSuspicionConfirm dt input pole s
  | .retrieveTimeout dt input pole => Sys2Proof.Machine.execRetrieveTimeout dt input pole s
  | .headWindowCompletion dt pole edges => Sys2Proof.Machine.execHeadWindowCompletion dt pole edges s
  | .calibrationIntervalEnd dt => Sys2Proof.Machine.execCalibrationIntervalEnd dt s
  | .gapLimitExpiry dt => Sys2Proof.Machine.execGapLimitExpiry dt s
  | .restoreDelayExpiry dt => Sys2Proof.Machine.execRestoreDelayExpiry dt s
  | .periodBoundary dt => Sys2Proof.Machine.execPeriodBoundary dt s
  | .listenPhaseEnd dt => Sys2Proof.Machine.execListenPhaseEnd dt s
  | .peerStale dt station => Sys2Proof.Machine.execPeerStale dt station s
  | .peerLost dt station => Sys2Proof.Machine.execPeerLost dt station s
  | .demandTimeout dt => Sys2Proof.Machine.execDemandTimeout dt s
  | .sourceTimeout dt => Sys2Proof.Machine.execSourceTimeout dt s
  | .ackPendingLapse dt origin number => Sys2Proof.Machine.execAckPendingLapse dt origin number s
  | .stateFrame dt idle bytes => Sys2Proof.Machine.execStateFrame dt idle bytes s
  | .alarmFrame dt idle bytes => Sys2Proof.Machine.execAlarmFrame dt idle bytes s
  | .ackFrame dt idle bytes => Sys2Proof.Machine.execAckFrame dt idle bytes s
  | .gapStartFrame dt idle bytes => Sys2Proof.Machine.execGapStartFrame dt idle bytes s
  | .gapEndFrame dt idle bytes => Sys2Proof.Machine.execGapEndFrame dt idle bytes s
  | .clashFrame dt idle bytes => Sys2Proof.Machine.execClashFrame dt idle bytes s
  | .receiveFault dt idle bytes framing => Sys2Proof.Machine.execReceiveFault dt idle bytes framing s
  | .frameTruncation dt idle bytes gap => Sys2Proof.Machine.execFrameTruncation dt idle bytes gap s
  | .deferralReached dt idle => Sys2Proof.Machine.execDeferralReached dt idle s
  | .collisionAbort dt bit => Sys2Proof.Machine.execCollisionAbort dt bit s
  | .transmitSuccess dt => Sys2Proof.Machine.execTransmitSuccess dt s
  | .suspensionExpiry dt => Sys2Proof.Machine.execSuspensionExpiry dt s
  | .ackButtonPress dt stood => Sys2Proof.Machine.execAckButtonPress dt stood s
  | .ackButtonRelease dt stood => Sys2Proof.Machine.execAckButtonRelease dt stood s
  | .flashClockToggle dt => Sys2Proof.Machine.execFlashClockToggle dt s
  | .soundingTimerExpiry dt => Sys2Proof.Machine.execSoundingTimerExpiry dt s
  | .reminderTimerExpiry dt => Sys2Proof.Machine.execReminderTimerExpiry dt s
  | .resetPinAsserted => Sys2Proof.Machine.execResetPinAsserted s
  | .supplyBelowOperatingLevel => Sys2Proof.Machine.execSupplyBelowOperatingLevel s
  | .limitPeriodOpens dt => Sys2Proof.Machine.execLimitPeriodOpens dt s
  | .limitDutyReached dt => Sys2Proof.Machine.execLimitDutyReached dt s

end Sys2Proof.Machine
end

