-- ==== Sys2Proof/Safety.lean ====
section
/-!
DEFINITION. What claims about the station are stated in: the kinds of command, and the laws that every step keeps. Each law is a
condition on one state; Certificates/Slice0/Obligations.lean states that steps keep it.
-/
namespace Sys2Proof

open Sys2Proof.Machine

/-! ### Kinds of command -/

/-- The microseconds that pass before the command takes effect; `none` for the four commands of the reset pin and the supply. -/
def Instr.elapsed : Instr → Option Nat
  | .powerOnReset _ _ => none
  | .resetPin _ _ => none
  | .configAttemptFailed failed => some failed.dt
  | .configReadRetry dt => some dt
  | .configReadComplete dt _ => some dt
  | .configReadDeadline deadline => some deadline.dt
  | .postDemand frame _ => some frame.dt
  | .postSource frame _ => some frame.dt
  | .capCeiling frame _ => some frame.dt
  | .ackAlarm frame => some frame.dt
  | .releaseRetrieve frame _ => some frame.dt
  | .readStatus frame => some frame.dt
  | .readPeer frame _ => some frame.dt
  | .readAlarms frame => some frame.dt
  | .readHistory frame _ => some frame.dt
  | .clearAttention frame _ => some frame.dt
  | .clearCounters frame => some frame.dt
  | .moduleReset frame _ => some frame.dt
  | .unknownRequest frame _ _ => some frame.dt
  | .windowCompletion dt _ => some dt
  | .rewireConfirm dt _ _ => some dt
  | .suspicionConfirm dt _ _ => some dt
  | .retrieveTimeout dt _ _ => some dt
  | .headWindowCompletion dt _ _ => some dt
  | .calibrationIntervalEnd dt => some dt
  | .gapLimitExpiry dt => some dt
  | .restoreDelayExpiry dt => some dt
  | .periodBoundary dt => some dt
  | .listenPhaseEnd dt => some dt
  | .peerStale dt _ => some dt
  | .peerLost dt _ => some dt
  | .demandTimeout dt => some dt
  | .sourceTimeout dt => some dt
  | .ackPendingLapse dt _ _ => some dt
  | .stateFrame dt _ _ => some dt
  | .alarmFrame dt _ _ => some dt
  | .ackFrame dt _ _ => some dt
  | .gapStartFrame dt _ _ => some dt
  | .gapEndFrame dt _ _ => some dt
  | .clashFrame dt _ _ => some dt
  | .receiveFault dt _ _ _ => some dt
  | .frameTruncation dt _ _ _ => some dt
  | .deferralReached dt _ => some dt
  | .collisionAbort dt _ => some dt
  | .transmitSuccess dt => some dt
  | .suspensionExpiry dt => some dt
  | .ackButtonPress dt _ => some dt
  | .ackButtonRelease dt _ => some dt
  | .flashClockToggle dt => some dt
  | .soundingTimerExpiry dt => some dt
  | .reminderTimerExpiry dt => some dt
  | .resetPinAsserted => none
  | .supplyBelowOperatingLevel => none
  | .limitPeriodOpens dt => some dt
  | .limitDutyReached dt => some dt

/-- The frame of a command that carries a request, with the request. -/
def Instr.asRequest : Instr → Option (PortFrame × Request)
  | .postDemand frame a => some (frame, .postDemand a)
  | .postSource frame a => some (frame, .postSource a)
  | .capCeiling frame a => some (frame, .capCeiling a)
  | .ackAlarm frame => some (frame, .ackAlarm)
  | .releaseRetrieve frame x => some (frame, .releaseRetrieve x)
  | .readStatus frame => some (frame, .readStatus)
  | .readPeer frame x => some (frame, .readPeer x)
  | .readAlarms frame => some (frame, .readAlarms)
  | .readHistory frame x => some (frame, .readHistory x)
  | .clearAttention frame x => some (frame, .clearAttention x)
  | .clearCounters frame => some (frame, .clearCounters)
  | .moduleReset frame _ => some (frame, .moduleReset)
  | _ => none

/-- The frame that a request command carries, with its length in bits. -/
def Instr.asFrame : Instr → Option (PortFrame × Nat)
  | .unknownRequest frame bytes strayBits => some (frame, frameLength bytes strayBits)
  | c => c.asRequest.map fun x => (x.1, frameLength (requestBytes x.2) 0)

/-- The commands that are a period boundary when what they name comes about. -/
def Instr.asBoundary : Instr → Option Nat
  | .periodBoundary dt | .listenPhaseEnd dt | .peerStale dt _ | .peerLost dt _ | .demandTimeout dt | .sourceTimeout dt
  | .ackPendingLapse dt _ _ => some dt
  | _ => none

/-- The commands that carry bytes of other stations on the line. -/
def Instr.isReception : Instr → Bool
  | .stateFrame _ _ _ | .alarmFrame _ _ _ | .ackFrame _ _ _ | .gapStartFrame _ _ _ | .gapEndFrame _ _ _
  | .clashFrame _ _ _ | .receiveFault _ _ _ _ | .frameTruncation _ _ _ _ => true
  | _ => false

/-- The commands that begin or end a reset. -/
def Instr.isReset : Instr → Bool
  | .powerOnReset _ _ | .resetPin _ _ | .moduleReset _ _ | .resetPinAsserted | .supplyBelowOperatingLevel => true
  | _ => false

namespace Machine

/-! ### Conditions on the station before a command -/

/-- No reset is held, and the run state is one in which the blocks work. -/
abbrev Working (s : State) : Prop := inReset s = false ∧ isLive s = true

/-- A request frame can be taken: no reset is held, and no abandoned frame is still to end. -/
abbrev PortReady (s : State) : Prop := inReset s = false ∧ s.port.abandoned = false

/-- The station works, is not sending, hunts for a frame, and with these further idle bit times the line has stood idle for at
least 12: the next byte begins a frame (R49). -/
abbrev Hearing (s : State) (idle : Nat) : Prop :=
  Working s ∧ s.line.attempt = none ∧ s.line.rx = .hunting ∧ 12 ≤ s.line.idle + idle

/-- The line block after a whole frame: hunting, with no idle time yet. -/
def afterFrame (l : Line) : Line := { l with rx := .hunting, idle := 0 }

/-- The read of the record is in progress, `dt` microseconds from now too, before its deadline (R154). -/
abbrev Reading (dt : Nat) (s : State) : Prop :=
  inReset s = false ∧ s.loader.run = .configuring ∧ s.loader.attempt = .inProgress
    ∧ reached (now (advance dt s)) s.loader.readStart 20 = false

/-- A pole as a station that does not watch poles leaves it (R37). -/
def unwatched (q : Pole) : Pole := { q with retrieve := false, carried := false, firstMark := false }

/-- The port after a request frame: its bytes taken, the held response shifted out, this response held. -/
def answered (r : Request) (st : Status) (payload : List Byte) (p : Port) : Port :=
  { p with
    request := requestBytes r
    shifted := shiftOut p.held (8 * (requestBytes r).length)
    held := ⟨st, (requestBytes r).headD 0, payload⟩ }

/-- The bits that SDO presented in a frame of `n` bits that a reset abandoned: up to the reset those of the response that stood held
then, and zeros after it (R138). -/
def cutBits (frame : PortFrame) (n : Nat) (p : Port) : List Bool :=
  shiftOut p.lost (min frame.cut n) ++ List.replicate (n - frame.cut) false

/-! ### Own alarms (section 7.2)

What a change of an own alarm makes of the table, the history list, the number counter and the ALARM part of the notice queue. `s` is
the station before the event and `t` after it. -/

/-- The ALARM part once a notice of this content is handed: hand-offs are taken in the listen phase and in RUNNING (R60). -/
def handedTo (s : State) (c : AlarmContent) (part : List (Notice AlarmContent)) : List (Notice AlarmContent) :=
  if s.loader.run = .listen ∨ s.loader.run = .running then joinAlarm c part else part

/-- No own alarm changes and nothing is handed. -/
def OwnAlarmsStand (s t : State) : Prop :=
  t.alarms.table = s.alarms.table ∧ t.alarms.history = s.alarms.history ∧ t.alarms.nextNumber = s.alarms.nextNumber
    ∧ t.line.alarmPart = s.line.alarmPart

/-- `n` is the first number, from the counter on, that no own alarm of this table holds (R119). -/
def FirstFree (s : State) (table : List AlarmEntry) (n : Byte) : Prop :=
  (∀ e ∈ table, e.origin = s.loader.station → e.number ≠ n)
    ∧ ∃ j : Nat, n = s.alarms.nextNumber + BitVec.ofNat 8 j
      ∧ ∀ i, i < j → ∃ e ∈ table, e.origin = s.loader.station ∧ e.number = s.alarms.nextNumber + BitVec.ofNat 8 i

/-- A raise (R119, R120, R123): with four own alarms open the oldest in CLEARED_UNACK is first closed with reason FORCED. -/
def RaisedOwn (k : AlarmKind) (ps : PoleSet) (n : Byte) (s t : State) : Prop :=
  let own := s.alarms.table.filter fun e => e.origin == s.loader.station
  let entry : AlarmEntry := ⟨s.loader.station, n, k, ps, .activeUnack, some (now t), now t, .absent, false⟩
  let raised : AlarmContent := ⟨n, k, ps, .opened .activeUnack, now t⟩
  t.alarms.nextNumber = n + 1
    ∧ (own.length < 4 →
        FirstFree s s.alarms.table n ∧ t.alarms.table = s.alarms.table ++ [entry] ∧ t.alarms.history = s.alarms.history
        ∧ t.line.alarmPart = handedTo s raised s.line.alarmPart)
    ∧ (own.length = 4 → ∀ e, own.find? (fun e => e.phase == .clearedUnack) = some e →
        let rest := s.alarms.table.filter fun x => !(x.origin == e.origin && x.number == e.number)
        FirstFree s rest n ∧ t.alarms.table = rest ++ [entry]
        ∧ t.alarms.history =
            (⟨e.origin, e.number, e.kind, e.poles, e.raiseTime, now t, false, .forced⟩ :: s.alarms.history).take 16
        ∧ t.line.alarmPart = handedTo s raised
            (handedTo s ⟨e.number, e.kind, e.poles, .closed true, e.raiseTime.getD 0⟩ s.line.alarmPart))

/-- The own alarm `e` takes a new phase and set of poles in its place, and its notice is handed (R121, R122, R123). -/
def ChangedOwn (e : AlarmEntry) (p : Phase) (ps : PoleSet) (s t : State) : Prop :=
  t.alarms.table = (s.alarms.table.map fun x =>
      if x.origin = e.origin ∧ x.number = e.number then { x with phase := p, poles := ps } else x)
    ∧ t.alarms.history = s.alarms.history ∧ t.alarms.nextNumber = s.alarms.nextNumber
    ∧ t.line.alarmPart = handedTo s ⟨e.number, e.kind, ps, .opened p, e.raiseTime.getD 0⟩ s.line.alarmPart

/-- The own alarm `e` is closed with reason NORMAL, recorded as acknowledged, and its notice is handed (R121, R122, R123, R135). -/
def ClosedOwn (e : AlarmEntry) (s t : State) : Prop :=
  t.alarms.table = (s.alarms.table.filter fun x => !(x.origin == e.origin && x.number == e.number))
    ∧ t.alarms.history =
        (⟨e.origin, e.number, e.kind, e.poles, e.raiseTime, now t, true, .normal⟩ :: s.alarms.history).take 16
    ∧ t.alarms.nextNumber = s.alarms.nextNumber
    ∧ t.line.alarmPart = handedTo s ⟨e.number, e.kind, e.poles, .closed false, e.raiseTime.getD 0⟩ s.line.alarmPart

/-- A clear of the own alarm `e` (R121, Table 7-3). -/
def ClearedOwn (e : AlarmEntry) (s t : State) : Prop :=
  (e.phase = .activeUnack → ChangedOwn e .clearedUnack e.poles s t)
    ∧ (e.phase = .activeAcked → ClosedOwn e s t)
    ∧ (e.phase = .clearedUnack → OwnAlarmsStand s t)

/-- An acknowledge of the own alarm `e` (R122, Table 7-3). -/
def AckedOwn (e : AlarmEntry) (s t : State) : Prop :=
  (e.phase = .activeUnack → ChangedOwn e .activeAcked e.poles s t)
    ∧ (e.phase = .activeAcked → OwnAlarmsStand s t)
    ∧ (e.phase = .clearedUnack → ClosedOwn e s t)

/-- What the Alarm Table makes of the active-alarm record of one kind that an evaluation changes (R39 to R42). -/
def RecordActs (k : AlarmKind) (before after : Option ActiveAlarm) (s t : State) : Prop :=
  (∀ b, before = none → after = some b → RaisedOwn k b.poles b.number s t)
    ∧ ∀ a e, before = some a → findAlarm s s.loader.station a.number = some e →
        (∀ b, after = some b → b.poles ≠ a.poles → ChangedOwn e e.phase .both s t) ∧ (after = none → ClearedOwn e s t)

/-- The OFF_LINE shed and the entry that makes it (R17, R106). -/
def EnteredOffLine (s t : State) : Prop :=
  t.supply.view = .offLine ∧ t.supply.gapStart = none ∧ t.supply.records = [] ∧ t.poles.openGap = none
    ∧ t.shed.restore = none
    ∧ t.share.ceiling = min (record s).offWireCeiling s.share.cap ∧ t.share.floor = min (record s).cfgFloor t.share.ceiling
    ∧ t.share.grant = min s.share.grant t.share.floor ∧ t.share.pendingGrant = none

/-- The way out of GAP or OFF_LINE: RESTORING with its delay, or on to ON_LINE where the delay is 0 (R15, R18, R19, R110). -/
def LeftTheWait (s t : State) : Prop :=
  let delay := restoreRank s * (record s).slotLength
  t.supply.gapStart = none
    ∧ (delay = 0 → t.supply.view = .onLine ∧ t.shed.restore = none)
    ∧ (delay ≠ 0 → t.supply.view = .restoring ∧ t.shed.restore = some ⟨now t, restoreRank s, delay⟩)

/-! ### What a receiver may be handed (R159) -/

/-- A summary item that a frame may carry. -/
def SummaryItem.legal (i : SummaryItem) : Prop := polesFit i.kind i.poles = true

/-- The STATE fields that a frame of this source may carry. -/
def StateFields.legal (source : Station) (f : StateFields) : Prop :=
  f.cls ≤ 2 ∧ 1 ≤ f.weight ∧ f.weight ≤ 15 ∧ f.demand ≤ 1023 ∧ f.floor ≤ 1023 ∧ f.ceiling ≤ 1023 ∧ f.grant ≤ 1023
    ∧ (∀ v, f.voltage = some v → v ≤ 1200) ∧ (∀ d, f.discharge = some d → d ≤ 1023)
    ∧ f.summary.length ≤ 4 ∧ (∀ i ∈ f.summary, i.legal) ∧ (f.role = .col → source.val ≤ 1)

/-- A frame that a receiver may be handed. -/
def Frame.legal (f : Frame) : Prop :=
  match f.body with
  | .state x => x.legal f.source
  | .alarm a => polesFit a.kind a.poles = true
  | .ack _ | .gap _ => True

/-! ### Laws of the state -/

/-- TEC, REC and the count of STATE frames sent stay in their ranges (R50, R58, R66). -/
abbrev CountersBounded (s : State) : Prop := s.line.tec ≤ 32 ∧ s.line.recv ≤ 255 ∧ s.line.statesSent ≤ 3

/-- The notice queue holds at most one GAP, four ALARM and three ACK notices (R61 to R63); the one GAP is its type. -/
abbrev QueueBounded (s : State) : Prop := s.line.alarmPart.length ≤ 4 ∧ s.line.ackPart.length ≤ 3

/-- The transmitter sends in RUNNING only, a STATE waits in RUNNING only, the suspension timer runs in TX_SUSPENDED only, and a
silenced station holds no notice (R52, R57, R66, R68). -/
abbrev SilentWhenNotRunning (s : State) : Prop :=
  (s.line.attempt.isSome = true → s.loader.run = .running)
    ∧ (s.line.stateWaiting = true → s.loader.run = .running)
    ∧ (s.line.suspendedAt.isSome = true ↔ s.loader.run = .txSuspended)
    ∧ (isSilenced s = true → s.line.gapPart = none ∧ s.line.alarmPart = [] ∧ s.line.ackPart = [])

/-- The history list holds at most 16 records (R135). -/
abbrev HistoryBounded (s : State) : Prop := s.alarms.history.length ≤ 16

/-- At most four open alarms of one origin, the origins are 0 and 1, and a collector stands at 0 or 1 (R117, R120, R126). -/
abbrev AlarmTableBounded (s : State) : Prop :=
  (∀ o, (ofOrigin o s.alarms.table).length ≤ 4)
    ∧ (∀ e ∈ s.alarms.table, e.origin.val ≤ 1)
    ∧ (isCol s = true → s.loader.station.val ≤ 1)

/-- No two open alarms have the same origin and number (R118). -/
abbrev AlarmsDistinct (s : State) : Prop := (s.alarms.table.map fun e => (e.origin, e.number)).Nodup

/-- While a supply alarm is held the supply view is OFF_LINE (R17, R18). -/
abbrev OffLineUnderAlarm (s : State) : Prop := holdsSupplyAlarm s.alarms.table = true → s.supply.view = .offLine

/-- The Peer Table is kept by ascending station number with one entry per number, it is empty while the station is not live, and
the own entry, which never ages, is there in RUNNING, TX_SUSPENDED and CLASH (R70, R76). -/
abbrev PeerTableOk (s : State) : Prop :=
  (s.peers.map (·.station)).Pairwise (· < ·)
    ∧ (isLive s = false → s.peers = [])
    ∧ (hasOwn s = true → ∃ e, ownEntry s = some e ∧ e.freshness = .fresh ∧ e.age = 0)

/-- The own entry follows the station: grant, floor, ceiling, demand and view (R79). -/
abbrev OwnEntryFollows (s : State) : Prop :=
  hasOwn s = true → ∃ e, ownEntry s = some e ∧ e.fields.grant = s.share.grant ∧ e.fields.floor = s.share.floor
    ∧ e.fields.ceiling = s.share.ceiling ∧ e.fields.demand = s.share.demand ∧ e.fields.view = s.supply.view

/-- What a grant, in force or pending, may be in this view and run state (R87, R89, R107, R112). -/
def grantHeld (s : State) (g : Nat) : Prop :=
  g ≤ s.share.ceiling
    ∧ (s.supply.view = .gap → g ≤ if (record s).cls = 0 then s.share.floor else 0)
    ∧ (isSilenced s = true → g ≤ s.share.floor)
    ∧ (isLive s = false → g = 0)
    ∧ (s.loader.run = .listen → g = 0)

/-- The laws of the grant (R87, R99, R105, R108, R112). -/
def GrantLaw (s : State) : Prop :=
  s.share.floor ≤ s.share.ceiling
    ∧ grantHeld s s.share.grant
    ∧ ∀ p, s.share.pendingGrant = some p → grantHeld s p ∧ p ≤ s.share.grant + (record s).rampStep

/-- A retrieve output is asserted exactly while its pole is DEWIRED or LOWERED, from the first evaluation on (R37); no span's capture
outlives its evaluation, and no angle period is open before listen entry (R23). -/
abbrev RetrieveFollowsPole (s : State) : Prop :=
  ∀ q ∈ [s.poles.p, s.poles.n],
    (q.firstMark = true → q.state = .notEvaluated)
      ∧ (q.firstMark = false → q.retrieve = (q.state == .dewired || q.state == .lowered))
      ∧ q.capture = none
      ∧ (isLive s = false → q.state = .notEvaluated ∧ q.opened = none)

/-- The restore delay runs in RESTORING and only there, the gap timer in GAP and only there, and the view is GAP until listen
entry (R14, R16, R17, R110, R21). -/
abbrev TimersFollowView (s : State) : Prop :=
  (s.shed.restore.isSome = true ↔ s.supply.view = .restoring)
    ∧ (isLive s = true → (s.supply.gapStart.isSome = true ↔ s.supply.view = .gap))
    ∧ (isLive s = false → s.supply.view = .gap)

/-- The list of window voltages is in its range, and at a station with a voltage input voltage ok says that the run has reached
the confirm count (R1, R2, R4, R5). -/
abbrev WindowsOk (s : State) : Prop :=
  s.supply.volts.length ≤ 4 ∧ (∀ v ∈ s.supply.volts, v ≤ 1200) ∧ s.supply.count ≤ 65535
    ∧ (isLive s = false → s.supply.run = 0 ∧ s.supply.voltageOk = false)
    ∧ (isLive s = true → (record s).voltageInput = true →
        s.supply.voltageOk = (s.supply.run == confirmCount (record s)) ∧ s.supply.run ≤ confirmCount (record s))

/-- The run states of one step (Table 9-1), the resets apart: a boundary, a clash frame, the failures of the line and the end of
the read are all that move it. -/
def runStep : RunState → RunState → Bool
  | .configuring, .listen | .configuring, .configFault => true
  | .listen, .running | .listen, .clash => true
  | .running, .txSuspended | .running, .clash => true
  | .txSuspended, .running | .txSuspended, .clash => true
  | a, b => a == b

end Machine
end Sys2Proof
end

