-- ==== Sys2Proof/Certificates/Slice0/Obligations.lean ====
section
/-!
DEFINITION. The statements for the provers. `advance dt s` is the station once `dt` microseconds have passed and nothing else; a
statement that gives a next state as `advance dt s` with some blocks replaced says by that what the command leaves unchanged.
-/
open Sys2Proof Sys2Proof.Machine

/-! ### Steps and time -/

/-- A step is `exec` of the command at the front of the queue, on the station with the rest of the queue. -/
def Obligations.StepRunsFrontCommand : Prop :=
  ∀ (c : Instr) (s : State), step { s with pending := c :: s.pending } = exec c s

/-- The block idles on an empty queue. The model's choice: assumption log 1. -/
def Obligations.EmptyQueueIdles : Prop :=
  ∀ s : State, s.pending = [] → step s = .next s

/-- No command stops the controller, in any state, and none touches the queue. That no command faults or is refused is the model's
reading, assumption log 24; the queue is the model's own, assumption logs 1 and 28. -/
def Obligations.EveryCommandAnswersNext : Prop :=
  ∀ (c : Instr) (s : State), ∃ t, exec c s = .next t ∧ t.pending = s.pending

/-- While a reset is held, only the reset pin and the supply do anything, but that a request frame which ends then has been abandoned:
up to the reset it read the response that stood held, and zeros after it. The model's readings: assumption logs 5 and 10. -/
def Obligations.HeldResetStopsCommands : Prop :=
  ∀ (c : Instr) (dt : Nat) (s : State), inReset s = true → c.elapsed = some dt →
    (c.asFrame = none → exec c s = .next s)
    ∧ ∀ frame n, c.asFrame = some (frame, n) →
      exec c s = .next { s with port := { s.port with shifted := cutBits frame n s.port } }

/-- Station time counts the milliseconds that the commands bring, modulo 2^32, whatever else they do. That a
command brings the time before it is the model's choice, assumption log 1, and the count that does not wrap is its own,
assumption log 28. -/
def Obligations.StationTimeAdvances : Prop :=
  ∀ (c : Instr) (dt : Nat) (s t : State), inReset s = false → c.elapsed = some dt → c.isReset = false → exec c s = .next t →
    t.clock.ms.toNat = (s.clock.ms.toNat + (s.clock.us + dt) / 1000) % 2 ^ 32 ∧ t.clock.us = (s.clock.us + dt) % 1000
      ∧ t.clock.up = s.clock.up + (s.clock.us + dt) / 1000

/-! ### Resets -/

/-- The reset values that the manual gives, at `State.reset`. -/
def Obligations.ResetStateValues : Prop :=
  let s := State.reset
  s.clock.ms = 0 ∧ s.loader.run = .configuring ∧ s.loader.cause = .powerOn ∧ s.loader.fault = .none ∧ s.loader.locked = none
    ∧ s.loader.attempt = .inProgress
    ∧ s.supply.count = 0 ∧ s.supply.windowStart = none ∧ s.supply.volts = [] ∧ s.supply.run = 0 ∧ s.supply.voltageOk = false
    ∧ s.supply.hadPulses = true ∧ s.supply.view = .gap ∧ s.supply.gapStart = none ∧ s.supply.records = []
    ∧ (∀ q ∈ [s.poles.p, s.poles.n], q.state = .notEvaluated ∧ q.firstMark = true ∧ q.carried = false ∧ q.retrieve = false
        ∧ q.headCount = 0 ∧ q.headStart = none
        ∧ q.baseline = 0 ∧ q.calSum = 0 ∧ q.calTally = 0 ∧ q.verdict = .noEvidence ∧ q.anglePresent = true
        ∧ q.prevUsable = false ∧ q.opened = none ∧ q.capture = none ∧ q.runStart = none ∧ q.suspicionStart = none ∧ q.dewiredAt = none
        ∧ q.timedOut = false)
    ∧ s.poles.dewire = none ∧ s.poles.retrieveFail = none ∧ s.poles.lineDead = none ∧ s.poles.openGap = none
    ∧ s.poles.gapSerial = 0 ∧ s.poles.calStart = none
    ∧ s.line.rx = .hunting ∧ s.line.attempt = none ∧ s.line.stateWaiting = false ∧ s.line.gapPart = none
    ∧ s.line.alarmPart = [] ∧ s.line.ackPart = [] ∧ s.line.tec = 0 ∧ s.line.recv = 0 ∧ s.line.seq = 0
    ∧ s.line.statesSent = 0 ∧ s.line.suspendedAt = none
    ∧ s.peers = []
    ∧ s.share.boundaryAt = none ∧ s.share.grant = 0 ∧ s.share.pendingGrant = none ∧ s.share.target = 0 ∧ s.share.budget = 0
    ∧ s.share.demand = 0 ∧ s.share.discharge = 0 ∧ s.share.cap = 1023 ∧ s.share.ceiling = 0 ∧ s.share.floor = 0
    ∧ s.share.limitHigh = false
    ∧ s.shed.restore = none ∧ s.shed.demandSilence = 0 ∧ s.shed.demandTimedOut = false ∧ s.shed.sourceSilence = 0
    ∧ s.shed.sourceTimedOut = false
    ∧ s.alarms.table = [] ∧ s.alarms.nextNumber = 0 ∧ s.alarms.buttonArmed = false ∧ s.alarms.lamp = .off
    ∧ s.alarms.lampLit = false ∧ s.alarms.buzzer = false ∧ s.alarms.soundStart = none ∧ s.alarms.reminderStart = none
    ∧ s.alarms.history = []
    ∧ s.port.held = ⟨.noResponse, 0, []⟩ ∧ s.port.postedDemand = 0 ∧ s.port.postedSource = 0 ∧ s.port.postedCap = 1023
    ∧ (∀ c, isPending s.port c = true ↔ c = .restarted) ∧ s.port.sensorSource = none ∧ attentionLine s = true

/-- The end of a power-on reset, and the fall of the supply that holds one: every block at its power-on values. What a held reset
leaves in the Loader and the clock, and the part of the reset pin, are the model's readings: assumption logs 5 and 6. That the port
keeps the response it took away is the model's own, assumption logs 10 and 28; that no PWM period is open and that the line idle time
is 0 are its choices, assumption logs 19 and 36. -/
def Obligations.PowerOnResetEffect : Prop :=
  ∀ (straps : BitVec 3) (cs : Bool) (s : State),
    let lost := if inReset s = true ∨ s.port.abandoned = true then s.port.lost else s.port.held
    exec (.powerOnReset straps cs) s = .next { State.reset with
      loader := { State.reset.loader with
        station := straps.toFin, pin := if s.loader.pin = .released then .released else .absorbed }
      port := { State.reset.port with abandoned := cs, lost := lost }
      pending := s.pending }
    ∧ exec .supplyBelowOperatingLevel s = .next { State.reset with
      clock := s.clock
      loader := { s.loader with
        run := .configuring, supplyLow := true, pin := if s.loader.pin = .released then .released else .absorbed
        attempt := .idle, bus := [], received := [], locked := none }
      port := { State.reset.port with lost := lost }
      pending := s.pending }

/-- The module resets: by request, and by the reset pin, whose assertion holds one and whose release ends it. Every block takes its
reset values, but each retrieve output keeps its level and gives the carried mark, and the history list is kept. What a held reset
leaves in the Loader and the clock, and a pin that belongs to a power-on reset, are the model's readings: logs 5 and 6. That the port
keeps the response it took away is the model's own, logs 10 and 28; that no PWM period is open and that the line idle time is 0 are its
choices, logs 19 and 36. -/
def Obligations.ModuleResetEffect : Prop :=
  ∀ (frame : PortFrame) (straps : BitVec 3) (cs : Bool) (s : State),
    let lost := if inReset s = true ∨ s.port.abandoned = true then s.port.lost else s.port.held
    let carry (q : Pole) : Pole := { State.reset.poles.p with retrieve := q.retrieve, carried := q.retrieve }
    let poles : PoleWatch := { State.reset.poles with p := carry s.poles.p, n := carry s.poles.n }
    let alarms : Alarms := { State.reset.alarms with history := s.alarms.history }
    (PortReady s →
      exec (.moduleReset frame straps) s = .next { State.reset with
        loader := { State.reset.loader with station := straps.toFin, cause := .request, pin := s.loader.pin }
        poles := poles, alarms := alarms
        port := { State.reset.port with shifted := shiftOut s.port.held 8, lost := s.port.held }
        pending := s.pending })
    ∧ (s.loader.supplyLow = false → s.loader.pin ≠ .absorbed →
      exec (.resetPin straps cs) s = .next { State.reset with
        loader := { State.reset.loader with station := straps.toFin, cause := .resetPin }
        poles := poles, alarms := alarms
        port := { State.reset.port with abandoned := cs, lost := lost }
        pending := s.pending })
    ∧ (s.loader.supplyLow = false →
      exec .resetPinAsserted s = .next { State.reset with
        clock := s.clock
        loader := { s.loader with
          run := .configuring, supplyLow := false, pin := .holding, attempt := .idle, bus := [], received := [], locked := none }
        poles := poles, alarms := alarms
        port := { State.reset.port with lost := lost }
        pending := s.pending })

/-! ### Start-up -/

/-- A read attempt fails at the first of its five tests of the data line that fails, after the steps before it and with a stop
condition; it begins again 1 ms later; and the read fails with NO_ANSWER 20 ms after CONFIGURING began. -/
def Obligations.ReadAttemptsAndDeadline : Prop :=
  ∀ (dt : Nat) (s : State), inReset s = false → s.loader.run = .configuring →
    let read : List BusStep :=
      [.start, .address 0x50 false, .word 0, .start, .address 0x50 true] ++ List.replicate 53 (.read true) ++ [.read false, .stop]
    (s.loader.attempt = .inProgress → ∀ l : BusLevels,
      let failsAfter (steps : Nat) : Prop :=
        exec (.configAttemptFailed ⟨dt, l⟩) s = .next { advance dt s with
          loader := { s.loader with
            attempt := .failed (now (advance dt s)), bus := read.take steps ++ [.stop], received := [] } }
      (l.atStart = false → failsAfter 0)
      ∧ (l.atStart = true → l.atWriteAddress = true → failsAfter 2)
      ∧ (l.atStart = true → l.atWriteAddress = false → l.atWordAddress = true → failsAfter 3)
      ∧ (l.atStart = true → l.atWriteAddress = false → l.atWordAddress = false → l.atRestart = false → failsAfter 3)
      ∧ (l.atStart = true → l.atWriteAddress = false → l.atWordAddress = false → l.atRestart = true → l.atReadAddress = true →
          failsAfter 5))
    ∧ (∀ t0, s.loader.attempt = .failed t0 → 1 ≤ (now (advance dt s) - t0).toNat →
      exec (.configReadRetry dt) s = .next { advance dt s with loader := { s.loader with attempt := .inProgress } })
    ∧ (20 ≤ (now (advance dt s) - s.loader.readStart).toNat → ∀ done, done < 60 →
      exec (.configReadDeadline ⟨dt, done⟩) s = .next { advance dt s with
        loader := { s.loader with
          run := .configFault, fault := .noAnswer, attempt := .idle
          bus := if s.loader.attempt = .inProgress then read.take done ++ [.stop] else s.loader.bus }
        poles := { s.poles with p := unwatched s.poles.p, n := unwatched s.poles.n }
        port := { s.port with attention := s.port.attention ||| 2#12 } })

/-- A record that fails its check: CRC_FAULT on a CRC that differs, else the lowest-numbered bad field; the station enters
CONFIG_FAULT. -/
def Obligations.FailedRecordVerdict : Prop :=
  ∀ (dt : Nat) (bytes : List Byte) (s : State) (f : ConfigFault), Reading dt s → bytes.length = 54 →
    checkRecord bytes s.loader.station = .error f →
      exec (.configReadComplete dt bytes) s = .next { advance dt s with
        loader := { s.loader with
          run := .configFault, fault := f, attempt := .idle, bus := readTransaction, received := bytes }
        poles := { s.poles with p := unwatched s.poles.p, n := unwatched s.poles.n }
        port := { s.port with attention := s.port.attention ||| 2#12 } }
      ∧ (bytes.drop 52 ≠ crcBytes (bytes.take 52) → f = .crcFault)
      ∧ (bytes.drop 52 = crcBytes (bytes.take 52) →
          ∃ n, f = .field n ∧ (n, false) ∈ fieldChecks (decodeRecord bytes) s.loader.station
            ∧ ∀ m, (m, false) ∈ fieldChecks (decodeRecord bytes) s.loader.station → n ≤ m)

/-- A record that passes is locked, and the timed work of the blocks starts at that instant. -/
def Obligations.GoodRecordStartsListening : Prop :=
  ∀ (dt : Nat) (bytes : List Byte) (s : State) (r : Record), Reading dt s → bytes.length = 54 →
    checkRecord bytes s.loader.station = .ok r →
      ∃ t, exec (.configReadComplete dt bytes) s = .next t
        ∧ r = decodeRecord bytes ∧ bytes.drop 52 = crcBytes (bytes.take 52)
        ∧ t.loader = { s.loader with
            run := .listen, locked := some r, attempt := .idle, bus := readTransaction, received := bytes }
        ∧ t.share = { (advance dt s).share with boundaryAt := some (now t), boundaries := 0 }
        ∧ t.line = { s.line with idle := 0 } ∧ t.alarms = { s.alarms with debounceStart := t.clock.up }
        ∧ t.supply.voltageOk = !r.voltageInput
        ∧ t.supply.windowStart = (if r.voltageInput then some (now t) else none)
        ∧ (r.role = some .col →
            t.poles = { s.poles with
              p := { s.poles.p with headStart := some (now t) }, n := { s.poles.n with headStart := some (now t) }
              calStart := some (now t) })
        ∧ (r.role ≠ some .col → t.poles = { s.poles with p := unwatched s.poles.p, n := unwatched s.poles.n })
        ∧ (r.voltageInput = true →
            t.supply = { s.supply with windowStart := some (now t), voltageOk := false, gapStart := some (now t) }
              ∧ t.peers = s.peers ∧ t.shed = s.shed ∧ t.port = s.port)
        ∧ (r.voltageInput = false → s.supply.view = .gap → s.supply.records = [] → s.alarms.table = [] → s.peers = [] →
            t.supply.view = .onLine ∧ t.supply.gapStart = none ∧ isPending t.port .supplyViewChanged = true)
        ∧ t.clock = (advance dt s).clock ∧ t.pending = s.pending

/-! ### Local port -/

/-- POST_DEMAND and POST_SOURCE: the value is clamped at 1023, posted and marked as taken; POST_SOURCE at another role than BAT is
WRONG_ROLE and posts nothing. -/
def Obligations.PostsAreTaken : Prop :=
  ∀ (frame : PortFrame) (a : BitVec 16) (s : State), Working s → PortReady s →
    exec (.postDemand frame a) s = .next { advance frame.dt s with
      shed := { s.shed with demandTaken := true }
      port := answered (.postDemand a) .ok [] { s.port with postedDemand := if a.toNat ≤ 1023 then a.toNat else 1023 } }
    ∧ ((record s).role = some .bat →
      exec (.postSource frame a) s = .next { advance frame.dt s with
        shed := { s.shed with sourceTaken := true }
        port := answered (.postSource a) .ok [] { s.port with postedSource := if a.toNat ≤ 1023 then a.toNat else 1023 } })
    ∧ ((record s).role ≠ some .bat →
      exec (.postSource frame a) s = .next { advance frame.dt s with port := answered (.postSource a) .wrongRole [] s.port })

/-- CAP_CEILING lowers the posted cap or is NOT_ALLOWED. -/
def Obligations.CapCeilingOnlyLowers : Prop :=
  ∀ (frame : PortFrame) (a : BitVec 16) (s : State), Working s → PortReady s →
    (a.toNat ≤ s.port.postedCap →
      exec (.capCeiling frame a) s = .next { advance frame.dt s with
        port := answered (.capCeiling a) .ok [] { s.port with postedCap := a.toNat } })
    ∧ (s.port.postedCap < a.toNat →
      exec (.capCeiling frame a) s = .next { advance frame.dt s with port := answered (.capCeiling a) .notAllowed [] s.port })

/-- ACK_ALARM: no eligible entry, an own alarm of this COL station with its ALARM notice, an ACK notice that joins, and one that is
refused. -/
def Obligations.AckAlarmOutcomes : Prop :=
  ∀ (frame : PortFrame) (s : State), Working s → PortReady s → OffLineUnderAlarm s →
    (s.alarms.table.find? isEligible = none →
      exec (.ackAlarm frame) s = .next { advance frame.dt s with port := answered .ackAlarm .noTarget [] s.port })
    ∧ ∀ e, s.alarms.table.find? isEligible = some e → findAlarm s e.origin e.number = some e →
      (¬(isCol s = true ∧ e.origin = s.loader.station) → ackAccepted s = false →
        exec (.ackAlarm frame) s = .next { advance frame.dt s with port := answered .ackAlarm .queueFull [] s.port })
      ∧ (¬(isCol s = true ∧ e.origin = s.loader.station) → ackAccepted s = true →
        ∃ t, exec (.ackAlarm frame) s = .next t ∧ t.port.held = ⟨.ok, 0x10, []⟩
          ∧ t.line = { s.line with ackPart := s.line.ackPart ++ [⟨⟨e.origin, e.number⟩, 0, false, false⟩] }
          ∧ t.alarms.table = s.alarms.table.map (fun x => if isEntry e.origin e.number x then { x with ack := .queued } else x)
          ∧ t.alarms.history = s.alarms.history ∧ isPending t.port .alarmTableChanged = true
          ∧ t.supply = s.supply ∧ t.share = (advance frame.dt s).share ∧ t.peers = s.peers ∧ t.poles = s.poles ∧ t.shed = s.shed
          ∧ t.loader = s.loader)
      ∧ (isCol s = true → e.origin = s.loader.station → e.phase = .activeUnack →
        ∃ t, exec (.ackAlarm frame) s = .next t ∧ t.port.held = ⟨.ok, 0x10, []⟩
          ∧ t.alarms.table = s.alarms.table.map (fun x =>
              if isEntry e.origin e.number x then { x with phase := .activeAcked, poles := e.poles } else x)
          ∧ t.alarms.history = s.alarms.history ∧ t.line.ackPart = s.line.ackPart ∧ t.loader = s.loader
          ∧ t.line.alarmPart =
              (if s.loader.run = .listen ∨ s.loader.run = .running then
                joinAlarm ⟨e.number, e.kind, e.poles, .opened .activeAcked, e.raiseTime.getD 0⟩ s.line.alarmPart
              else s.line.alarmPart)
          ∧ t.share.target = s.share.target ∧ t.shed.demandSilence = s.shed.demandSilence)
      ∧ (isCol s = true → e.origin = s.loader.station → e.phase = .clearedUnack →
        ∃ t, exec (.ackAlarm frame) s = .next t ∧ t.port.held = ⟨.ok, 0x10, []⟩
          ∧ t.alarms.table = s.alarms.table.filter (fun x => !isEntry e.origin e.number x)
          ∧ t.alarms.history =
              (⟨e.origin, e.number, e.kind, e.poles, e.raiseTime, now t, true, .normal⟩ :: s.alarms.history).take 16
          ∧ t.line.alarmPart =
              (if s.loader.run = .listen ∨ s.loader.run = .running then
                joinAlarm ⟨e.number, e.kind, e.poles, .closed false, e.raiseTime.getD 0⟩ s.line.alarmPart
              else s.line.alarmPart)
          ∧ t.line.ackPart = s.line.ackPart ∧ t.loader = s.loader)

/-- RELEASE_RETRIEVE: argument 1 is pole P and 2 is pole N. WRONG_ROLE at another role than COL, NO_TARGET for no pole, WRONG_STATE for a
pole that is not LOWERED, and the release of one that is. A pole of an active RETRIEVE_FAIL takes its reached mark; when every pole of
the alarm then has its mark, the record is cleared and a clear is handed. -/
def Obligations.ReleaseRetrieveOutcomes : Prop :=
  ∀ (frame : PortFrame) (b : Byte) (s : State), Working s → PortReady s →
    (isCol s = false →
      exec (.releaseRetrieve frame b) s = .next { advance frame.dt s with
        port := answered (.releaseRetrieve b) .wrongRole [] s.port })
    ∧ (isCol s = true → b ≠ 1 → b ≠ 2 →
      exec (.releaseRetrieve frame b) s = .next { advance frame.dt s with
        port := answered (.releaseRetrieve b) .noTarget [] s.port })
    ∧ ∀ id, isCol s = true → (b = 1 ∧ id = .p) ∨ (b = 2 ∧ id = .n) →
      let released (w : PoleWatch) : PoleWatch :=
        setPole id { poleOf id s.poles with state := .stowed, retrieve := false, runStart := none, suspicionStart := none } w
      ((poleOf id s.poles).state ≠ .lowered →
        exec (.releaseRetrieve frame b) s = .next { advance frame.dt s with
          port := answered (.releaseRetrieve b) .wrongState [] s.port })
      ∧ ((poleOf id s.poles).state = .lowered → s.poles.retrieveFail = none →
        exec (.releaseRetrieve frame b) s = .next { advance frame.dt s with
          poles := released s.poles
          port := answered (.releaseRetrieve b) .ok [] s.port })
      ∧ ((poleOf id s.poles).state = .lowered → ∀ a, s.poles.retrieveFail = some a →
        let reachedP := a.reachedP || (id == .p && (a.poles == .p || a.poles == .both))
        let reachedN := a.reachedN || (id == .n && (a.poles == .n || a.poles == .both))
        let all := (a.poles = .p ∨ a.poles = .both → reachedP = true) ∧ (a.poles = .n ∨ a.poles = .both → reachedN = true)
        ∃ t, exec (.releaseRetrieve frame b) s = .next t ∧ t.port.held = ⟨.ok, 0x15, []⟩
          ∧ (¬all →
              t = { advance frame.dt s with
                poles := { released s.poles with retrieveFail := some { a with reachedP := reachedP, reachedN := reachedN } }
                port := answered (.releaseRetrieve b) .ok [] s.port })
          ∧ (all → OffLineUnderAlarm s →
            t.poles = { released s.poles with retrieveFail := none } ∧ t.loader = s.loader
            ∧ ∀ e, findAlarm s s.loader.station a.number = some e → e.kind = .retrieveFail → AlarmsDistinct s →
                ClearedOwn e s t ∧ t.supply = s.supply ∧ t.share = (advance frame.dt s).share ∧ t.peers = s.peers
                ∧ t.shed = s.shed))

/-- The four reads answer a snapshot and change nothing but the port's own exchange; the bytes of each payload stand where Tables 10-8
and 10-9 put them. -/
def Obligations.ReadsAreSnapshots : Prop :=
  (∀ (frame : PortFrame) (x : Byte) (s : State), PortReady s →
    exec (.readStatus frame) s = .next { advance frame.dt s with
        port := answered .readStatus .ok (statusPayload (advance frame.dt s)) s.port }
    ∧ exec (.readAlarms frame) s = .next { advance frame.dt s with
        port := answered .readAlarms .ok (alarmsPayload s.alarms.table) s.port }
    ∧ (∀ e, s.peers.find? (fun e => e.station.val == x.toNat) = some e →
        exec (.readPeer frame x) s = .next { advance frame.dt s with port := answered (.readPeer x) .ok (peerPayload e) s.port })
    ∧ ((∀ e ∈ s.peers, e.station.val ≠ x.toNat) →
        exec (.readPeer frame x) s = .next { advance frame.dt s with port := answered (.readPeer x) .noTarget [] s.port })
    ∧ (∀ h, s.alarms.history[x.toNat]? = some h →
        exec (.readHistory frame x) s = .next { advance frame.dt s with port := answered (.readHistory x) .ok (historyPayload h) s.port })
    ∧ (s.alarms.history.length ≤ x.toNat →
        exec (.readHistory frame x) s = .next { advance frame.dt s with port := answered (.readHistory x) .noTarget [] s.port }))
  ∧ (∀ s : State,
    let p := statusPayload s
    let word (n : Nat) : List Byte := [BitVec.ofNat 8 (n / 256), BitVec.ofNat 8 n]
    p.length = 23
    ∧ p.take 4 = [BitVec.ofNat 8 s.loader.station.val, roleByte s, BitVec.ofNat 8 (runCode s.loader.run),
        BitVec.ofNat 8 (viewCode s.supply.view)]
    ∧ (isCol s = true → (p.drop 4).take 1 = [BitVec.ofNat 8 (poleCode s.poles.p.state * 16 + poleCode s.poles.n.state)])
    ∧ (isCol s = false → (p.drop 4).take 1 = [0])
    ∧ (p.drop 5).take 2 = word s.share.grant ∧ (p.drop 7).take 2 = word (s.share.pendingGrant.getD 65535)
    ∧ (p.drop 9).take 2 = word s.share.target ∧ (p.drop 11).take 2 = word s.share.budget
    ∧ (p.drop 13).take 2 = word s.share.cap
    ∧ (p.drop 15).take 4 = [BitVec.ofNat 8 s.line.tec, BitVec.ofNat 8 s.line.recv, BitVec.ofNat 8 (causeCode s.loader.cause),
        BitVec.ofNat 8 (faultCode s.loader.fault)]
    ∧ (p.drop 19).take 2 = word s.port.attention.toNat
    ∧ (p.drop 21).take 2 = [BitVec.ofNat 8 (sensorCode s.port.sensorSource),
        BitVec.ofNat 8 (((selectedCause s).map causeNumber).getD 255)])
  ∧ (∀ e : Peer,
    let p := peerPayload e
    p.take 2 = [if e.freshness = .fresh then 1 else 2, BitVec.ofNat 8 e.age] ∧ (p.drop 2).take 4 = bytes32 e.heard
    ∧ (e.freshness = .fresh → (p.drop 6).take 2 = [0xFF, 0xFF])
    ∧ (∀ c, e.freshness = .stale c → (p.drop 6).take 2 = [BitVec.ofNat 8 (c / 256), BitVec.ofNat 8 c])
    ∧ p.drop 8 = statePayload e.fields)
  ∧ (∀ table : List AlarmEntry,
    (alarmsPayload table).length = 1 + 7 * table.length ∧ (alarmsPayload table).head? = some (BitVec.ofNat 8 table.length)
    ∧ ∀ k e, table[k]? = some e → e.origin.val ≤ 1 → ∃ b0 b1 b2 : Byte,
        ((alarmsPayload table).drop (1 + 7 * k)).take 7 = [b0, b1, b2] ++ bytes32 (e.raiseTime.getD 0)
        ∧ b0.toNat / 128 = e.origin.val ∧ b0.getLsbD 6 = e.raiseTime.isSome ∧ b0.getLsbD 5 = e.orphaned
        ∧ b0.toNat / 8 % 4 = (match e.ack with | .absent => 0 | .queued => 1 | .sent _ => 2)
        ∧ (∀ k, e.ack = .sent k → k < 4 → b0.toNat % 4 = k)
        ∧ b1 = e.number ∧ b2.toNat = kindCode e.kind * 16 + phaseCode e.phase * 4 + polesCode e.poles)
  ∧ ∀ h : HistoryRecord, ∃ flags : Byte,
      historyPayload h = [BitVec.ofNat 8 h.origin.val, h.number, kindByte h.kind h.poles, flags]
        ++ bytes32 (h.raiseTime.getD 0) ++ bytes32 h.closeTime
      ∧ flags.getLsbD 7 = h.raiseTime.isSome ∧ flags.getLsbD 6 = h.acknowledged
      ∧ flags.toNat % 4 = (match h.reason with | .normal => 0 | .forced => 1 | .originRestarted => 2)

/-- CLEAR_ATTENTION, CLEAR_COUNTERS, and a frame that fails the length or the request-known check. The attention line is asserted while
a pending cause has a level below 3, and the selected cause is the pending one of the lowest level and, in it, the lowest number. ATTN
is low when asserted, CS is low in a frame, and SDO is driven in a frame only: bit by bit the status code, the echo and the payload,
most significant bit first and zeros beyond them, or zeros in a reset that is held and in a frame that a reset has abandoned. That a
frame which begins in a held reset reads zeros too is the model's: assumption log 10 (DESIGN CHOICE, unsafe). That `pins` is told at
which bit a frame stands is assumption log 20. -/
def Obligations.ClearsAndUnknownRequests : Prop :=
  (∀ s : State,
    let level (c : Cause) : Nat :=
      match s.loader.locked with
      | none => 0
      | some r =>
        if c = .configFault then 0 else if c = .restarted then r.levels.getD 0 0 else r.levels.getD (causeNumber c - 1) 0
    (attentionLine s = true ↔ ∃ c, isPending s.port c = true ∧ level c < 3)
    ∧ (∀ c, selectedCause s = some c ↔ isPending s.port c = true
        ∧ ∀ d, isPending s.port d = true → level c < level d ∨ (level c = level d ∧ causeNumber c ≤ causeNumber d))
    ∧ (selectedCause s = none ↔ ∀ c, isPending s.port c = false)
    ∧ (∀ frame, (pins frame s).attn = !attentionLine s)
    ∧ (pins none s).cs = true ∧ (pins none s).sdo = none
    ∧ ∀ k, (pins (some k) s).cs = false
        ∧ (inReset s = true ∨ s.port.abandoned = true → (pins (some k) s).sdo = some false)
        ∧ (PortReady s →
            let response := BitVec.ofNat 8 (statusCode s.port.held.status) :: s.port.held.echo :: s.port.held.payload
            (pins (some k) s).sdo = some ((response.getD (k / 8) 0).getLsbD (7 - k % 8))
            ∧ ∀ n, k < n → (shiftOut s.port.held n)[k]? = (pins (some k) s).sdo))
  ∧ ∀ (frame : PortFrame) (x : Byte) (s : State), PortReady s →
    (∀ c, causeNumber c = x.toNat →
      ∃ t, exec (.clearAttention frame x) s = .next t ∧ t = { advance frame.dt s with port := t.port }
        ∧ t.port.held = ⟨.ok, 0x29, []⟩ ∧ (∀ d, isPending t.port d = (isPending s.port d && d != c))
        ∧ t.port.sensorSource = (if c = .sensorFault then none else s.port.sensorSource)
        ∧ t.port.postedDemand = s.port.postedDemand ∧ t.port.postedSource = s.port.postedSource
        ∧ t.port.postedCap = s.port.postedCap)
    ∧ (11 < x.toNat →
      exec (.clearAttention frame x) s = .next { advance frame.dt s with
        port := answered (.clearAttention x) .noTarget [] s.port })
    ∧ exec (.clearCounters frame) s = .next { advance frame.dt s with
        line := { s.line with recv := 0 }, port := answered .clearCounters .ok [] s.port }
    ∧ ∀ bytes stray st, decodeRequest bytes stray = .error st →
      exec (.unknownRequest frame bytes stray) s = .next { advance frame.dt s with
        port := { s.port with
          request := bytes, shifted := shiftOut s.port.held (8 * bytes.length + stray), held := ⟨st, bytes.headD 0, []⟩ } }

/-- The running check (R140), and a frame of any request command that a reset has abandoned (R138): neither changes anything outside the
port's own exchange. The abandoned frame is not taken: it read the response that stood held up to the reset, and zeros after it. That
its bits are shown whole at its end, that the command says how many of them came before the reset, and that a frame which began in a
held reset reads zeros throughout are the model's: assumption log 10 (DESIGN CHOICE). -/
def Obligations.RefusedAndAbandonedFrames : Prop :=
  ∀ (frame : PortFrame) (s : State), inReset s = false →
    (∀ c r, c.asRequest = some (frame, r) → s.port.abandoned = false → isLive s = false →
      (∃ a, r = .postDemand a ∨ r = .postSource a ∨ r = .capCeiling a) ∨ r = .ackAlarm ∨ (∃ x, r = .releaseRetrieve x) →
        exec c s = .next { advance frame.dt s with port := answered r .notRunning [] s.port })
    ∧ ∀ c n, c.asFrame = some (frame, n) → s.port.abandoned = true →
      (∀ bytes stray r, c = .unknownRequest frame bytes stray → decodeRequest bytes stray ≠ .ok r) →
        exec c s = .next { advance frame.dt s with
          port := { s.port with abandoned := false, request := [], shifted := cutBits frame n s.port } }

/-- The bytes of a frame and the request they name: each determines the other. -/
def Obligations.RequestCodingRoundTrip : Prop :=
  ∀ (bytes : List Byte) (r : Request), decodeRequest bytes 0 = .ok r ↔ bytes = requestBytes r

/-! ### The station line -/

/-- The receiver reads back every frame that a transmitter may build. -/
def Obligations.FrameCodingRoundTrip : Prop :=
  ∀ f : Frame, f.legal → examine (frameBytes f) = .good f

/-- Whatever bytes come, a frame that passes the receive checks holds defined values only. -/
def Obligations.ReceivedFramesAreLegal : Prop :=
  ∀ (bytes : List Byte) (f : Frame), examine bytes = .good f → f.legal

/-- A frame with a receive fault, and one truncated by more than 20 idle bit times, raise REC by 1 up to 255 and do nothing else. -/
def Obligations.ReceiveFaultsAreCounted : Prop :=
  ∀ (dt idle : Nat) (bytes : List Byte) (s : State), Hearing s idle → bytes ≠ [] →
    (∀ framing k, (if framing then examineFraming bytes else examine bytes) = .fault k →
      exec (.receiveFault dt idle bytes framing) s = .next { advance dt s with
        line := { s.line with rx := .hunting, idle := 0, recv := if s.line.recv < 255 then s.line.recv + 1 else 255 } })
    ∧ (∀ gap, examine bytes = .incomplete → 20 < gap →
      exec (.frameTruncation dt idle bytes gap) s = .next { advance dt s with
        line := { s.line with rx := .hunting, idle := gap, recv := if s.line.recv < 255 then s.line.recv + 1 else 255 } })

/-- A STATE frame of another station, of a role other than COL: it creates the entry, is accepted in the sequence window or as a
rejoin, or is discarded as old. Where the role was COL before, every open alarm of that origin is closed as ORIGIN_RESTARTED. -/
def Obligations.StateFrameUpdatesPeer : Prop :=
  ∀ (dt idle : Nat) (bytes : List Byte) (src : Station) (f : StateFields) (s : State), Hearing s idle →
    examine bytes = .good ⟨src, .state f⟩ → src ≠ s.loader.station →
      (peerOf s src = none → f.role ≠ .col →
        exec (.stateFrame dt idle bytes) s = .next { advance dt s with
          line := afterFrame s.line
          peers := putPeer ⟨src, f, now (advance dt s), 0, .fresh⟩ s.peers
          port := { s.port with attention := s.port.attention ||| 32#12 } })
      ∧ ∀ e, peerOf s src = some e →
        (e.fields.role ≠ .col → f.role ≠ .col →
          f.boot = true ∨ (1 ≤ (f.seq - e.fields.seq).toNat ∧ (f.seq - e.fields.seq).toNat ≤ 127) →
            exec (.stateFrame dt idle bytes) s = .next { advance dt s with
              line := afterFrame s.line, peers := putPeer ⟨src, f, now (advance dt s), 0, .fresh⟩ s.peers })
        ∧ (e.fields.role = .col → f.role ≠ .col → HistoryBounded s →
          f.boot = true ∨ (1 ≤ (f.seq - e.fields.seq).toNat ∧ (f.seq - e.fields.seq).toNat ≤ 127) →
            ∃ t, exec (.stateFrame dt idle bytes) s = .next t
              ∧ t.alarms.table = s.alarms.table.filter (fun a => a.origin != src)
              ∧ t.alarms.history =
                  (((s.alarms.table.filter fun a => a.origin == src).reverse.map fun a =>
                      (⟨a.origin, a.number, a.kind, a.poles, a.raiseTime, now t, a.phase == .activeAcked, .originRestarted⟩
                        : HistoryRecord))
                    ++ s.alarms.history).take 16
              ∧ peerOf t src = some ⟨src, f, now t, 0, .fresh⟩ ∧ t.loader = s.loader ∧ t.line = afterFrame s.line)
        ∧ (f.boot = false → f.seq = e.fields.seq ∨ 128 ≤ (f.seq - e.fields.seq).toNat →
            exec (.stateFrame dt idle bytes) s = .next { advance dt s with line := afterFrame s.line })

/-- An accepted STATE of a COL station (the first of its source, one with the boot flag, or one in the sequence window): afterwards
each open alarm of that origin is one that its summary lists, in the phase and with the poles listed, and none of them is orphaned;
each item of a summary with distinct numbers is there; the alarms it does not list enter the history list, NORMAL or, at a rejoin,
ORIGIN_RESTARTED; other origins' alarms stand, and the entry holds the frame's fields. -/
def Obligations.SummaryReconciled : Prop :=
  ∀ (dt idle : Nat) (bytes : List Byte) (src : Station) (f : StateFields) (s : State), Hearing s idle →
    examine bytes = .good ⟨src, .state f⟩ → src ≠ s.loader.station → f.role = .col →
    (∀ e, peerOf s src = some e → f.boot = true ∨ 1 ≤ (f.seq - e.fields.seq).toNat ∧ (f.seq - e.fields.seq).toNat ≤ 127) →
      ∃ t, exec (.stateFrame dt idle bytes) s = .next t
        ∧ (∀ e ∈ t.alarms.table, e.origin = src → e.orphaned = false ∧
            ∃ i ∈ f.summary, e.number = i.number ∧ e.kind = i.kind ∧ e.poles = i.poles ∧ e.phase = i.phase)
        ∧ ((f.summary.map (·.number)).Nodup → ((ofOrigin src s.alarms.table).map (·.number)).Nodup →
            (∀ i ∈ f.summary, ∃ e ∈ t.alarms.table,
              e.origin = src ∧ e.number = i.number ∧ e.kind = i.kind ∧ e.poles = i.poles ∧ e.phase = i.phase)
            ∧ (HistoryBounded s →
              let rejoin := f.boot = true ∧ (peerOf s src).isSome = true
              let gone := (ofOrigin src s.alarms.table).filter fun a =>
                !f.summary.any fun i => a.number == i.number && a.kind == i.kind
              t.alarms.history = ((gone.reverse.map fun a =>
                  (⟨a.origin, a.number, a.kind, a.poles, a.raiseTime, now t,
                    a.phase == .activeAcked || (a.phase == .clearedUnack && !decide rejoin),
                    if rejoin then .originRestarted else .normal⟩ : HistoryRecord)) ++ s.alarms.history).take 16))
        ∧ t.alarms.table.filter (fun e => e.origin != src) = s.alarms.table.filter (fun e => e.origin != src)
        ∧ peerOf t src = some ⟨src, f, now t, 0, .fresh⟩ ∧ t.loader = s.loader ∧ t.line = afterFrame s.line

/-- An ALARM frame from a collector. An alarm not held is added, and a fifth one of its origin puts out the oldest CLEARED_UNACK or else
the oldest of the four; an open notice of a held alarm updates it; a notice of a differing alarm under a held number closes the
held one as NORMAL and counts as new; a CLOSED notice removes its alarm and enters it in the history list. When the last supply
alarm ends so, with voltage ok and no record, the view leaves OFF_LINE. -/
def Obligations.AlarmNoticeTaken : Prop :=
  ∀ (dt idle : Nat) (bytes : List Byte) (src : Station) (c : AlarmContent) (s : State), Hearing s idle →
    examine bytes = .good ⟨src, .alarm c⟩ → src ≠ s.loader.station → noticeSource s src = true →
      let others := s.alarms.table.filter fun x => !(x.origin == src && x.number == c.number)
      let fresh (p : Phase) (t : State) : AlarmEntry :=
        ⟨src, c.number, c.kind, c.poles, p, some c.raiseTime, now t, .absent, (peerOf s src).isNone⟩
      let closed (e : AlarmEntry) (acknowledged : Bool) (reason : CloseReason) (t : State) : List HistoryRecord :=
        (⟨e.origin, e.number, e.kind, e.poles, e.raiseTime, now t, acknowledged, reason⟩ :: s.alarms.history).take 16
      let same (e : AlarmEntry) : Prop := e.kind = c.kind ∧ (e.raiseTime = none ∨ e.raiseTime = some c.raiseTime)
      (∀ p, c.phase = .opened p → findAlarm s src c.number = none → (ofOrigin src s.alarms.table).length < 4 →
        ∃ t, exec (.alarmFrame dt idle bytes) s = .next t
          ∧ t.alarms.table = s.alarms.table ++ [fresh p t]
          ∧ t.alarms.history = s.alarms.history ∧ isPending t.port .alarmTableChanged = true
          ∧ (c.kind ≠ .retrieveFail → p ≠ .clearedUnack → t.supply.view = .offLine)
          ∧ (p = .activeUnack → (record s).lampEnabled = true → t.alarms.lamp = .flashing)
          ∧ (p = .activeUnack → (record s).buzzerEnabled = true → t.alarms.buzzer = true ∧ t.alarms.soundStart = some (now t)
              ∧ ((record s).reminder ≠ 0 → t.alarms.reminderStart = some (now t)))
          ∧ t.line = afterFrame s.line ∧ t.loader = s.loader)
      ∧ (∀ p, c.phase = .opened p → findAlarm s src c.number = none → 4 ≤ (ofOrigin src s.alarms.table).length →
        ∀ old, ((ofOrigin src s.alarms.table).find? (fun e => e.phase == .clearedUnack) = some old
            ∨ ((∀ e ∈ ofOrigin src s.alarms.table, e.phase ≠ .clearedUnack)
              ∧ (ofOrigin src s.alarms.table).head? = some old)) →
          ∃ t, exec (.alarmFrame dt idle bytes) s = .next t
            ∧ t.alarms.table =
                s.alarms.table.filter (fun x => !(x.origin == src && x.number == old.number)) ++ [fresh p t]
            ∧ t.alarms.history = closed old (old.phase == .activeAcked) .forced t
            ∧ t.line = afterFrame s.line ∧ t.loader = s.loader)
      ∧ (∀ p e, c.phase = .opened p → findAlarm s src c.number = some e → same e →
        ∃ t, exec (.alarmFrame dt idle bytes) s = .next t
          ∧ t.alarms.table = s.alarms.table.map (fun x =>
              if x.origin = src ∧ x.number = c.number then
                { x with
                  phase := p, poles := c.poles, raiseTime := some (x.raiseTime.getD c.raiseTime)
                  ack := if p = .activeAcked then .absent else x.ack }
              else x)
          ∧ t.alarms.history = s.alarms.history ∧ t.line = afterFrame s.line ∧ t.loader = s.loader)
      ∧ (∀ e, findAlarm s src c.number = some e → ¬same e → (ofOrigin src s.alarms.table).length ≤ 4 →
        ∃ t, exec (.alarmFrame dt idle bytes) s = .next t
          ∧ (∀ p, c.phase = .opened p → t.alarms.table = others ++ [fresh p t])
          ∧ (∀ forced, c.phase = .closed forced → t.alarms.table = others)
          ∧ t.alarms.history = closed e (e.phase != .activeUnack) .normal t
          ∧ t.line = afterFrame s.line ∧ t.loader = s.loader)
      ∧ (∀ forced e, c.phase = .closed forced → findAlarm s src c.number = some e → same e →
        ∃ t, exec (.alarmFrame dt idle bytes) s = .next t
          ∧ t.alarms.table = others
          ∧ t.alarms.history = closed e (e.phase == .activeAcked || (e.phase == .clearedUnack && !forced))
              (if forced then .forced else .normal) t
          ∧ (s.supply.view = .offLine → isSupplyAlarm e = true → s.supply.voltageOk = true → s.supply.records = [] →
              (∀ x ∈ others, isSupplyAlarm x = false) →
              (restoreRank s * (record s).slotLength = 0 → t.supply.view = .onLine ∧ t.shed.restore = none)
              ∧ (restoreRank s * (record s).slotLength ≠ 0 → t.supply.view = .restoring ∧
                  t.shed.restore = some ⟨now t, restoreRank s, restoreRank s * (record s).slotLength⟩))
          ∧ (s.supply.view = .offLine → (∃ x ∈ others, isSupplyAlarm x = true) → t.supply.view = .offLine)
          ∧ t.line = afterFrame s.line ∧ t.loader = s.loader)

/-- An ACK frame for an own alarm of a COL station, in each of the three phases, with the ALARM notice that is then handed; for another
origin it is ignored. The ALARM part at a hand-off: a new alarm joins at the end, a fifth puts out the oldest CLOSED notice, and an
alarm that has a notice renews it in its place, marked where that notice is in an attempt. -/
def Obligations.AckFrameAtOrigin : Prop :=
  (∀ (c : AlarmContent) (part : List (Notice AlarmContent)),
    let closed (n : Notice AlarmContent) : Prop := ∃ forced, n.content.phase = .closed forced
    ((∀ n ∈ part, n.content.number ≠ c.number) → part.length < 4 → joinAlarm c part = part ++ [⟨c, 0, false, false⟩])
    ∧ (∀ before n after, part = before ++ n :: after → (∀ m ∈ part, m.content.number ≠ c.number) → 4 ≤ part.length →
        (∀ m ∈ before, ¬closed m) → closed n → joinAlarm c part = before ++ after ++ [⟨c, 0, false, false⟩])
    ∧ (∀ before n after, part = before ++ n :: after → n.content.number = c.number →
        (∀ m ∈ before ++ after, m.content.number ≠ c.number) →
          joinAlarm c part = before ++ ⟨c, 0, n.onWire, n.onWire⟩ :: after))
  ∧ ∀ (dt idle : Nat) (bytes : List Byte) (src : Station) (c : AckContent) (s : State), Hearing s idle →
    examine bytes = .good ⟨src, .ack c⟩ → src ≠ s.loader.station →
      (¬(isCol s = true ∧ c.origin = s.loader.station) →
        exec (.ackFrame dt idle bytes) s = .next { advance dt s with line := afterFrame s.line })
      ∧ ∀ e, isCol s = true → c.origin = s.loader.station → findAlarm s c.origin c.number = some e →
        (e.phase = .activeAcked → exec (.ackFrame dt idle bytes) s = .next { advance dt s with line := afterFrame s.line })
        ∧ (e.phase = .activeUnack →
          ∃ t, exec (.ackFrame dt idle bytes) s = .next t
            ∧ t.alarms.table = s.alarms.table.map (fun x =>
                if isEntry c.origin c.number x then { x with phase := .activeAcked, poles := e.poles } else x)
            ∧ t.alarms.history = s.alarms.history ∧ t.line.tec = s.line.tec ∧ t.loader = s.loader
            ∧ t.line.alarmPart =
                (if s.loader.run = .listen ∨ s.loader.run = .running then
                  joinAlarm ⟨e.number, e.kind, e.poles, .opened .activeAcked, e.raiseTime.getD 0⟩ s.line.alarmPart
                else s.line.alarmPart))
        ∧ (e.phase = .clearedUnack →
          ∃ t, exec (.ackFrame dt idle bytes) s = .next t
            ∧ t.alarms.table = s.alarms.table.filter (fun x => !isEntry c.origin c.number x)
            ∧ t.alarms.history =
                (⟨e.origin, e.number, e.kind, e.poles, e.raiseTime, now t, true, .normal⟩ :: s.alarms.history).take 16
            ∧ t.line.tec = s.line.tec ∧ t.loader = s.loader
            ∧ t.line.alarmPart =
                (if s.loader.run = .listen ∨ s.loader.run = .running then
                  joinAlarm ⟨e.number, e.kind, e.poles, .closed false, e.raiseTime.getD 0⟩ s.line.alarmPart
                else s.line.alarmPart))

/-- GAP frames of another station. Without a COL entry of the source nothing but the reception takes place. A GAP_START of a FRESH entry
enters the one record of its source, of a STALE entry none; either takes ON_LINE and RESTORING to GAP with the GAP shed, and moves no
other view. A GAP_END releases the record of its source and serial; where none is left, voltage is ok and no supply alarm is held, GAP
and OFF_LINE are left for RESTORING, or ON_LINE where the delay is 0, and otherwise the view stands. One without that record does
nothing. -/
def Obligations.GapFramesMoveView : Prop :=
  ∀ (dt idle : Nat) (bytes : List Byte) (src : Station) (n : Byte) (s : State), Hearing s idle → src ≠ s.loader.station →
    let heard : State := { advance dt s with line := afterFrame s.line }
    let mine : GapRecord := ⟨src, n⟩
    ((∀ e, peerOf s src = some e → e.fields.role ≠ .col) →
      (examine bytes = .good ⟨src, .gap ⟨true, n⟩⟩ → exec (.gapStartFrame dt idle bytes) s = .next heard)
      ∧ (examine bytes = .good ⟨src, .gap ⟨false, n⟩⟩ → exec (.gapEndFrame dt idle bytes) s = .next heard))
    ∧ (∀ r, r ∈ putRecord mine s.supply.records ↔ r = mine ∨ (r ∈ s.supply.records ∧ r.source ≠ src))
    ∧ ∀ e, peerOf s src = some e → e.fields.role = .col →
      (examine bytes = .good ⟨src, .gap ⟨true, n⟩⟩ →
        let records := if e.freshness = .fresh then putRecord mine s.supply.records else s.supply.records
        (s.supply.view = .onLine ∨ s.supply.view = .restoring →
          ∃ t, exec (.gapStartFrame dt idle bytes) s = .next t
            ∧ t.supply = { s.supply with view := .gap, gapStart := some (now t), records := records }
            ∧ t.share.grant = (if (record s).cls = 0 then min s.share.grant s.share.floor else 0)
            ∧ t.share.pendingGrant = none ∧ t.share.ceiling = s.share.ceiling ∧ t.share.floor = s.share.floor
            ∧ t.shed = { s.shed with restore := none }
            ∧ t.port = { s.port with attention := s.port.attention ||| 128#12 }
            ∧ t.line = afterFrame s.line ∧ t.poles = s.poles ∧ t.alarms = s.alarms ∧ t.loader = s.loader)
        ∧ (s.supply.view = .gap ∨ s.supply.view = .offLine →
          exec (.gapStartFrame dt idle bytes) s = .next { heard with supply := { s.supply with records := records } }))
      ∧ (examine bytes = .good ⟨src, .gap ⟨false, n⟩⟩ →
        let left := s.supply.records.filter fun r => !(r.source == src && r.serial == n)
        (mine ∈ s.supply.records → left = [] → s.supply.view = .gap ∨ s.supply.view = .offLine → s.supply.voltageOk = true →
          holdsSupplyAlarm s.alarms.table = false →
          ∃ t, exec (.gapEndFrame dt idle bytes) s = .next t ∧ LeftTheWait s t
            ∧ t.supply = { s.supply with view := t.supply.view, gapStart := none, records := [] }
            ∧ t.port = { s.port with attention := s.port.attention ||| 128#12 }
            ∧ t.share = (advance dt s).share ∧ t.line = afterFrame s.line ∧ t.poles = s.poles ∧ t.alarms = s.alarms
            ∧ t.loader = s.loader)
        ∧ (mine ∈ s.supply.records →
          left ≠ [] ∨ s.supply.voltageOk = false ∨ holdsSupplyAlarm s.alarms.table = true ∨ s.supply.view = .onLine
            ∨ s.supply.view = .restoring →
          exec (.gapEndFrame dt idle bytes) s = .next { heard with supply := { s.supply with records := left } })
        ∧ (mine ∉ s.supply.records → exec (.gapEndFrame dt idle bytes) s = .next heard))

/-- A frame that carries the own number declares CLASH: the transmitter is emptied and the grant is held to the floor. In CLASH
already, it does nothing. -/
def Obligations.ClashFrameSilences : Prop :=
  ∀ (dt idle : Nat) (bytes : List Byte) (f : Frame) (s : State), Hearing s idle → examine bytes = .good f →
    f.source = s.loader.station →
      (s.loader.run = .clash → exec (.clashFrame dt idle bytes) s = .next { advance dt s with line := afterFrame s.line })
      ∧ (s.loader.run ≠ .clash → OffLineUnderAlarm s →
        ∃ t, exec (.clashFrame dt idle bytes) s = .next t
          ∧ t.loader = { s.loader with run := .clash }
          ∧ t.line = { afterFrame s.line with
              stateWaiting := false, gapPart := none, gapPairing := false, alarmPart := [], ackPart := []
              suspendedAt := none, stateFirst := false }
          ∧ t.share.grant = min s.share.grant s.share.floor ∧ t.share.pendingGrant = none
          ∧ isPending t.port .stationClash = true ∧ (s.loader.run = .listen → (ownEntry t).isSome = true)
          ∧ t.supply = s.supply ∧ t.poles = s.poles ∧ t.shed = s.shed ∧ t.alarms.history = s.alarms.history)

/-- The idle time reaching the deferral of the frame that stands first starts its attempt; short of it, or with nothing to send, only
the idle time grows. First stands the GAP notice, then the oldest ALARM, the oldest ACK and the waiting STATE; after a suspension the
STATE alone may be first. A STATE is built from the station's values of that instant; demand, floor and ceiling are those of the own
entry, which a station that is RUNNING has. A frame that is open on the line is truncated by the attempt's start bit, or by more than
20 idle bit times, and counted. -/
def Obligations.DeferralStartsFirstFrame : Prop :=
  ∀ (dt idle : Nat) (s : State), inReset s = false → s.loader.run = .running → s.line.attempt = none →
    let total := s.line.idle + idle
    let counted := if s.line.recv < 255 then s.line.recv + 1 else 255
    let first : Option Waiting :=
      if s.line.stateFirst = true then (if s.line.stateWaiting = true then some .state else none)
      else if s.line.gapPart ≠ none then some .gap
      else if s.line.alarmPart ≠ [] then some .alarm
      else if s.line.ackPart ≠ [] then some .ack
      else if s.line.stateWaiting = true then some .state
      else none
    let deferred (w : Waiting) : Nat :=
      12 + (match w with | .gap => 0 | .alarm => 0 | .ack => 8 | .state => 16) + s.loader.station.val
    ((∀ w, first = some w → total < deferred w) →
      (s.line.rx = .hunting →
        exec (.deferralReached dt idle) s = .next { advance dt s with line := { s.line with idle := total } })
      ∧ (∀ bytes, s.line.rx = .inFrame bytes →
        exec (.deferralReached dt idle) s = .next { advance dt s with
          line :=
            if 20 < total then { s.line with rx := .hunting, idle := total, recv := counted }
            else { s.line with idle := total } }))
    ∧ ∀ w, first = some w → deferred w ≤ total →
      (s.line.rx = .hunting →
        let started (l : Line) (what : Sending) (body : Body) : Line :=
          { l with
            attempt := some ⟨what, frameBytes ⟨s.loader.station, body⟩, .hunting, total, s.line.recv⟩
            sentAt := none, rx := .inFrame [], idle := 0 }
        (∀ own, w = .state → s.peers.find? (fun e => e.station == s.loader.station) = some own →
          let r := record s
          let ownAlarms := s.alarms.table.filter fun e => e.origin == s.loader.station
          exec (.deferralReached dt idle) s = .next { advance dt s with
            line := started { s.line with stateWaiting := false, seq := s.line.seq + 1 }
              (.state (s.line.statesSent < 3))
              (.state {
                boot := decide (s.line.statesSent < 3)
                timedOut := s.shed.demandTimedOut
                role := r.role.getD .gen
                cls := r.cls
                weight := r.weight
                seq := s.line.seq
                view := s.supply.view
                demand := own.fields.demand
                floor := own.fields.floor
                ceiling := own.fields.ceiling
                grant := s.share.grant
                voltage :=
                  if r.voltageInput = true then
                    some (if s.supply.volts = [] then 0 else s.supply.volts.sum / s.supply.volts.length)
                  else none
                discharge := if r.role = some .bat then some s.share.discharge else none
                summary :=
                  if r.role = some .col then (ownAlarms.take 4).map fun e => ⟨e.number, e.kind, e.poles, e.phase⟩ else [] }) })
        ∧ (∀ n, w = .gap → s.line.gapPart = some n →
          exec (.deferralReached dt idle) s = .next { advance dt s with
            line := started
              { s.line with
                gapPart := some { n with attempts := n.attempts + 1, onWire := true, renewed := false }, gapPairing := false }
              .gap (.gap n.content) })
        ∧ (∀ n rest, w = .alarm → s.line.alarmPart = n :: rest →
          exec (.deferralReached dt idle) s = .next { advance dt s with
            line := started
              { s.line with alarmPart := { n with attempts := n.attempts + 1, onWire := true, renewed := false } :: rest }
              .alarm (.alarm n.content) })
        ∧ (∀ n rest, w = .ack → s.line.ackPart = n :: rest →
          exec (.deferralReached dt idle) s = .next { advance dt s with
            line := started { s.line with ackPart := { n with attempts := n.attempts + 1, onWire := true } :: rest }
              .ack (.ack n.content) }))
      ∧ (∀ bytes, s.line.rx = .inFrame bytes →
        ∃ t, exec (.deferralReached dt idle) s = .next t ∧ t.line.attempt.isSome = true ∧ t.line.rx = .inFrame []
          ∧ t.line.idle = 0 ∧ t.line.recv = counted)

/-- The ends of an attempt. A success and an abort of a STATE, and of an ALARM notice: sent, it leaves; failed, it waits again, or at
its 16th attempt leaves; renewed during the attempt, it stays. The receiver keeps the whole bytes taken before the bit of an abort;
the start bit read as 1 is a glitch, and the line stays as idle as it was, which is the model's reading of that corner, assumption log
9. TXEN is asserted until the last stop bit has been sent; its level is the model's choice, assumption log 34. -/
def Obligations.AttemptEnds : Prop :=
  ∀ (dt : Nat) (a : Attempt) (s : State), inReset s = false → s.line.attempt = some a →
    let sent : Line := { s.line with
      attempt := none, sentAt := some (micros (advance dt s).clock), rx := .hunting, idle := 0, tec := s.line.tec - 1 }
    let aborted (bit : Nat) : Line :=
      if bit = 0 then { s.line with
        attempt := none, rx := a.rxBefore, idle := a.idleBefore, recv := min s.line.recv a.recvBefore, tec := s.line.tec + 1 }
      else { s.line with attempt := none, rx := .inFrame (a.bytes.take (bit / 10)), tec := s.line.tec + 1 }
    (∀ boot, a.what = .state boot →
      exec (.transmitSuccess dt) s = .next { advance dt s with
        line := { sent with
          statesSent := if s.line.statesSent < 3 then s.line.statesSent + 1 else 3, stateFirst := false } }
      ∧ ∀ bit, bit + 1 < 10 * a.bytes.length → s.line.tec < 31 →
        exec (.collisionAbort dt bit) s = .next { advance dt s with
          line := { aborted bit with stateWaiting := true, stateFirst := false } })
    ∧ (∀ n rest, a.what = .alarm → s.line.alarmPart = n :: rest → n.onWire = true →
      (∀ m ∈ rest, m.onWire = false ∧ m.renewed = false) →
      exec (.transmitSuccess dt) s = .next { advance dt s with
        line := { sent with
          alarmPart := if n.renewed then { n with onWire := false, renewed := false } :: rest else rest } }
      ∧ ∀ bit, bit + 1 < 10 * a.bytes.length → s.line.tec < 31 →
        exec (.collisionAbort dt bit) s = .next { advance dt s with
          line := { aborted bit with
            alarmPart :=
              if n.renewed = false ∧ 16 ≤ n.attempts then rest
              else { n with onWire := false, renewed := false } :: rest } })
    ∧ (∀ frame, (pins frame s).txen = true)
    ∧ (s.loader.run = .running → ∃ t, exec (.transmitSuccess dt) s = .next t
        ∧ ∀ later frame, (pins frame (advance later t)).txen = decide (later < 2))

/-- The ends of an attempt of a notice. An ACK that is sent leaves and its alarm's ack pending is SENT; one that fails waits again, or
at its 16th attempt is discarded and its ack pending ends. A GAP notice likewise; renewed, or a GAP_END that pairs with the GAP_START
on the wire, it outlives a success, and the pairing one leaves at an abort. What the receiver keeps at an abort on the first bit is
the model's reading, assumption log 9. -/
def Obligations.NoticeAttemptEnds : Prop :=
  ∀ (dt bit : Nat) (a : Attempt) (s : State), inReset s = false → s.line.attempt = some a → bit + 1 < 10 * a.bytes.length →
    s.line.tec < 31 →
      let sent : Line := { s.line with
        attempt := none, sentAt := some (micros (advance dt s).clock), rx := .hunting, idle := 0, tec := s.line.tec - 1 }
      let aborted : Line := { receiverAfterAbort bit a s.line with tec := s.line.tec + 1 }
      (∀ n rest e, a.what = .ack → s.line.ackPart = n :: rest → n.onWire = true → n.renewed = false →
        (∀ m ∈ rest, m.onWire = false ∧ m.renewed = false) →
        findAlarm s n.content.origin n.content.number = some e → e.ack = .queued →
          (∃ t, exec (.transmitSuccess dt) s = .next t ∧ t.line = { sent with ackPart := rest }
            ∧ findAlarm t e.origin e.number = some { e with ack := .sent 0 })
          ∧ (n.attempts < 16 →
              exec (.collisionAbort dt bit) s = .next { advance dt s with
                line := { aborted with ackPart := { n with onWire := false } :: rest } })
          ∧ (16 ≤ n.attempts → ∃ t, exec (.collisionAbort dt bit) s = .next t ∧ t.line = { aborted with ackPart := rest }
            ∧ findAlarm t e.origin e.number = some { e with ack := .absent }))
      ∧ (∀ n, a.what = .gap → s.line.gapPart = some n → n.onWire = true →
          let kept := some { n with onWire := false, renewed := false }
          exec (.transmitSuccess dt) s = .next { advance dt s with
            line := { sent with
              gapPart := if s.line.gapPairing = true ∨ n.renewed = true then kept else none, gapPairing := false } }
          ∧ exec (.collisionAbort dt bit) s = .next { advance dt s with
            line := { aborted with
              gapPart :=
                if s.line.gapPairing = true ∨ (n.renewed = false ∧ 16 ≤ n.attempts) then none else kept
              gapPairing := false } })

/-- The 32nd error enters TX_SUSPENDED with the queue emptied and the grant at the floor or below; 1000 ms later the station
returns to RUNNING with TEC 16, and its next frame is a STATE. What the receiver keeps at an abort on the first bit is the model's
reading, assumption log 9. -/
def Obligations.SuspensionCycle : Prop :=
  ∀ (dt : Nat) (s : State), inReset s = false →
    (∀ a bit, s.line.attempt = some a → bit + 1 < 10 * a.bytes.length → s.line.tec = 31 → OffLineUnderAlarm s →
      ∃ t, exec (.collisionAbort dt bit) s = .next t
        ∧ t.loader = { s.loader with run := .txSuspended }
        ∧ t.line = { receiverAfterAbort bit a s.line with
            tec := 32, stateWaiting := false, gapPart := none
            gapPairing := false, alarmPart := [], ackPart := [], suspendedAt := some (now t), stateFirst := false }
        ∧ t.share.grant = min s.share.grant s.share.floor ∧ t.share.pendingGrant = none
        ∧ isPending t.port .txSuspended = true ∧ t.supply = s.supply ∧ t.poles = s.poles ∧ t.shed = s.shed)
    ∧ (∀ t0, s.loader.run = .txSuspended → s.line.suspendedAt = some t0 → 1000 ≤ (now (advance dt s) - t0).toNat →
      exec (.suspensionExpiry dt) s = .next { advance dt s with
        loader := { s.loader with run := .running }
        line := { s.line with tec := 16, suspendedAt := none, stateFirst := true }
        port := { s.port with attention := s.port.attention ||| 16#12 } })

/-! ### Supply Watch and Pole Watch -/

/-- A window completion: the voltage by the count, the list of four, the run and voltage ok, and the input fault. At the window at which
voltage ok returns, a view in GAP or OFF_LINE with no record and, after the evaluation of a COL station, no supply alarm goes to
RESTORING, or on to ON_LINE where the delay is 0; with a record it stands, and under a supply alarm it is OFF_LINE. A COL station with
an open gap record and both poles ON_WIRE hands GAP_END. At a station that does not watch poles, without a loss and without voltage ok
returning, nothing else changes. -/
def Obligations.WindowCompletionMeasures : Prop :=
  ∀ (dt : Nat) (i : WindowInput) (w : StationTime) (s : State), Working s → s.supply.windowStart = some w →
    10 ≤ (now (advance dt s) - w).toNat →
      let n := min 65535 (s.supply.count + i.edges)
      let v := if n * 100 ≤ (record s).fzero then 0 else min 1200 ((n * 100 - (record s).fzero) / (record s).kv)
      let run := if (record s).vReturn ≤ v then min (s.supply.run + 1) (((record s).returnConfirm + 9) / 10) else 0
      let ok := run == ((record s).returnConfirm + 9) / 10
      let volts := (s.supply.volts ++ [v]).drop (s.supply.volts.length - 3)
      ∃ t, exec (.windowCompletion dt i) s = .next t
        ∧ t.supply.count = 0 ∧ t.supply.windowStart = some (w + 10) ∧ t.supply.volts = volts
        ∧ t.supply.run = run ∧ t.supply.voltageOk = ok ∧ t.supply.hadPulses = (n != 0)
        ∧ (n = 0 → s.supply.hadPulses = true → isPending t.port .sensorFault = true)
        ∧ t.clock = (advance dt s).clock ∧ t.loader = s.loader
        ∧ (isCol s = false → t.alarms = s.alarms)
        ∧ (s.supply.view = .gap ∨ s.supply.view = .offLine → s.supply.voltageOk = false → ok = true →
            isCol s = false ∨ (record s).vGap ≤ v →
            (holdsSupplyAlarm t.alarms.table = false →
              (s.supply.records = [] → LeftTheWait s t)
              ∧ (s.supply.records ≠ [] →
                  t.supply.view = s.supply.view ∧ t.supply.gapStart = s.supply.gapStart ∧ t.supply.records = s.supply.records
                  ∧ t.shed = s.shed))
            ∧ (holdsSupplyAlarm t.alarms.table = true →
              (isCol s = false ∨ s.supply.view = .offLine →
                t.supply.view = s.supply.view ∧ t.supply.gapStart = s.supply.gapStart ∧ t.supply.records = s.supply.records
                ∧ t.shed = s.shed)
              ∧ (OffLineUnderAlarm s → t.supply.view = .offLine)))
        ∧ (∀ g, isCol s = true → OffLineUnderAlarm s → s.poles.openGap = some g → s.supply.voltageOk = false → ok = true →
            bothOnWire t = true → s.line.gapPart = none → acceptsNotices s = true →
              t.poles.openGap = none ∧ t.line.gapPart = some ⟨⟨false, g⟩, 0, false, false⟩)
        ∧ (isCol s = false → (record s).vGap ≤ v → (ok = true → s.supply.voltageOk = true) → n ≠ 0 →
            t = { advance dt s with supply := { s.supply with
              count := 0, windowStart := some (w + 10), volts := volts, run := run, voltageOk := ok, hadPulses := true } })

/-- A loss takes ON_LINE and RESTORING to GAP and makes the GAP shed, at every station that holds no supply alarm after its evaluation;
where that evaluation raised one, the view is OFF_LINE, with the off-wire ceiling and floor also before the first stage 2 (assumption
log 32, DEDUCED). A COL station whose poles are then both ON_WIRE also hands a GAP_START under the next serial; with a pole off the
wire it hands none. -/
def Obligations.LossEntersGap : Prop :=
  ∀ (dt : Nat) (i : WindowInput) (s : State), Working s → OffLineUnderAlarm s → windowDue (advance dt s) = true →
    windowVoltage i.edges s < (record s).vGap → s.supply.view = .onLine ∨ s.supply.view = .restoring →
      ∃ t, exec (.windowCompletion dt i) s = .next t
        ∧ (isCol s = false ∨ bothOnWire t = true → holdsSupplyAlarm t.alarms.table = false)
        ∧ (holdsSupplyAlarm t.alarms.table = false →
            t.supply.view = .gap ∧ t.supply.gapStart = some (now t) ∧ t.supply.records = s.supply.records
            ∧ t.share.grant = (if (record s).cls = 0 then min s.share.grant s.share.floor else 0)
            ∧ t.share.pendingGrant = none ∧ t.share.ceiling = s.share.ceiling ∧ t.share.floor = s.share.floor
            ∧ t.shed.restore = none ∧ isPending t.port .supplyViewChanged = true)
        ∧ (holdsSupplyAlarm t.alarms.table = true → EnteredOffLine s t)
        ∧ (isCol s = false → t.poles = s.poles ∧ t.line = s.line ∧ t.alarms = s.alarms)
        ∧ (isCol s = true → bothOnWire t = true → s.poles.openGap = none → s.line.gapPart = none → acceptsNotices s = true →
            t.poles.openGap = some s.poles.gapSerial ∧ t.poles.gapSerial = s.poles.gapSerial + 1
            ∧ t.line.gapPart = some ⟨⟨true, s.poles.gapSerial⟩, 0, false, false⟩)
        ∧ (isCol s = true → bothOnWire t = false →
            t.poles.openGap = none ∧ t.poles.gapSerial = s.poles.gapSerial ∧ t.line.gapPart = s.line.gapPart)

/-- An evaluation of one pole: the states of Table 2-5, the retrieve output and what is kept of the angle. REWIRE_CONFIRM and
SUSPICION_CONFIRM are the window completion that confirms: the model's reading, assumption log 3. The first evaluation of a pole, and
its return from UNWATCHED, give the state of R31's table with or without the carried mark; an angle fault with baseline 0, or while the
pole has no state, gives UNWATCHED. -/
def Obligations.PoleConfirmations : Prop :=
  ∀ (dt : Nat) (i : WindowInput) (id : PoleId) (s : State), Working s → isCol s = true → windowDue (advance dt s) = true →
    let q := poleOf id s.poles
    let r := record s
    let angle := spanAngle q (edgesOf id i)
    (∀ t0 a, q.state = .raising → q.runStart = some t0 → r.rewireConfirm ≤ (now (advance dt s) - t0).toNat →
      angle = some a → r.amin ≤ a → a ≤ r.amax → r.adown < a →
      q.verdict ≠ .low → r.vReturn ≤ windowVoltage i.edges s → confirmCount r ≤ s.supply.run + 1 →
        ∃ t, exec (.rewireConfirm dt i id) s = .next t ∧ exec (.windowCompletion dt i) s = .next t
          ∧ (poleOf id t.poles).state = .onWire ∧ (poleOf id t.poles).runStart = none ∧ (poleOf id t.poles).retrieve = false)
    ∧ (∀ t0, q.state = .suspect → q.suspicionStart = some t0 →
      r.suspicionConfirm ≤ (now (advance dt s) - t0).toNat →
      (angle = none → q.baseline ≠ 0) →
      ∀ k, k = termsOf r q angle →
        (k.h = true ∨ k.aOut = true) → k.aFast = false → ¬(k.h = true ∧ k.aOut = true) →
        ∃ t, exec (.suspicionConfirm dt i id) s = .next t ∧ exec (.windowCompletion dt i) s = .next t
          ∧ (poleOf id t.poles).state = .dewired ∧ (poleOf id t.poles).dewiredAt = some (now t)
          ∧ (poleOf id t.poles).retrieve = true ∧ t.poles.dewire.isSome = true)
    ∧ (∀ a, q.state = .notEvaluated ∨ q.state = .unwatched → angle = some a →
      ∃ t, exec (.windowCompletion dt i) s = .next t
        ∧ (let q' := poleOf id t.poles
          let inWindow := r.amin ≤ a ∧ a ≤ r.amax
          q'.firstMark = false ∧ q'.carried = false
          ∧ q'.state = (if q.carried then if a ≤ r.adown then .lowered else .dewired
              else if a ≤ r.adown then .stowed
              else if inWindow ∧ q.verdict ≠ .low then .onWire else .raising)
          ∧ q'.retrieve = q.carried
          ∧ (q.carried = true → r.adown < a → q'.dewiredAt = some (now t) ∧ t.poles.dewire.isSome = true)))
    ∧ (angle = none → q.baseline = 0 ∨ q.state = .notEvaluated ∨ q.state = .unwatched →
      ∃ t, exec (.windowCompletion dt i) s = .next t
        ∧ (let q' := poleOf id t.poles
          q'.state = .unwatched ∧ q'.firstMark = false ∧ q'.retrieve = false ∧ q'.runStart = none ∧ q'.suspicionStart = none
          ∧ q'.carried = (q.carried || q.state == .dewired || q.state == .lowered)))
    ∧ ∃ t, exec (.windowCompletion dt i) s = .next t
      ∧ (let q' := poleOf id t.poles
        q'.retrieve = (q'.state == .dewired || q'.state == .lowered)
        ∧ q'.capture = none ∧ q'.opened = (takeEdges (edgesOf id i) q).opened
        ∧ (angle = none → q'.anglePresent = false ∧ q'.prevUsable = false ∧ q'.prevAngle = q.prevAngle
            ∧ (q.anglePresent = true → isPending t.port .sensorFault = true))
        ∧ (∀ a, angle = some a → q'.anglePresent = true ∧ q'.prevUsable = true ∧ q'.prevAngle = some a)
        ∧ (q.state ≠ .dewired → q'.state = .dewired →
            q'.dewiredAt = some (now t) ∧ q'.runStart = none ∧ q'.suspicionStart = none ∧ t.poles.dewire.isSome = true
            ∧ (0 < r.retrieveTimeout → q'.timedOut = false))
        ∧ (¬(angle = none ∧ q.baseline = 0) →
          let h := q.verdict = .low
          let out := ∃ a, angle = some a ∧ (a < r.amin ∨ r.amax < a)
          let fast := ∃ a b, angle = some a ∧ q.prevAngle = some b ∧ q.prevUsable = true
            ∧ (r.rateLimit < a - b ∨ r.rateLimit < b - a)
          let down := ∃ a, angle = some a ∧ a ≤ r.adown
          let qualifies := (∃ a, angle = some a ∧ r.amin ≤ a ∧ a ≤ r.amax) ∧ ¬h ∧ t.supply.voltageOk = true
          let dewires := (h ∧ out) ∨ fast
          (q.state = .stowed →
            ((∃ a, angle = some a ∧ r.adown < a) → q'.state = .raising ∧ q'.runStart = none)
            ∧ (angle = none ∨ down → q'.state = .stowed))
          ∧ (q.state = .raising →
            (down → q'.state = .stowed ∧ q'.runStart = none)
            ∧ (¬down → ¬qualifies → q'.state = .raising ∧ q'.runStart = none)
            ∧ (¬down → qualifies →
                let start := q.runStart.getD (now t)
                (r.rewireConfirm ≤ (now t - start).toNat → q'.state = .onWire ∧ q'.runStart = none)
                ∧ ((now t - start).toNat < r.rewireConfirm → q'.state = .raising ∧ q'.runStart = some start)))
          ∧ (q.state = .onWire →
            (dewires → q'.state = .dewired)
            ∧ (¬dewires → h ∨ out → q'.state = .suspect ∧ q'.suspicionStart = some (now t))
            ∧ (¬h → ¬out → ¬fast → q'.state = .onWire))
          ∧ (q.state = .suspect →
            (dewires → q'.state = .dewired)
            ∧ (¬h → ¬out → ¬fast → q'.state = .onWire ∧ q'.suspicionStart = none)
            ∧ (¬dewires → h ∨ out → ∀ t0, q.suspicionStart = some t0 →
                (r.suspicionConfirm ≤ (now t - t0).toNat → q'.state = .dewired)
                ∧ ((now t - t0).toNat < r.suspicionConfirm → q'.state = .suspect ∧ q'.suspicionStart = some t0)))
          ∧ (q.state = .dewired →
            (down → q'.state = .lowered) ∧ (¬down → q'.state = .dewired ∧ q'.dewiredAt = q.dewiredAt))
          ∧ (q.state = .lowered → q'.state = .lowered)))

/-- RETRIEVE_TIMEOUT: the window completion at which a pole that is still DEWIRED times out; RETRIEVE_FAIL is then active. That
the row is that whole window completion is the model's reading: assumption log 3. At every evaluation the three active-alarm records
follow the poles: DEWIRE is raised or widened by the poles that entered DEWIRED and cleared with all of its poles ON_WIRE;
RETRIEVE_FAIL is raised or widened by the poles that timed out, whose reached marks are clear again, and cleared when every pole of
it has reached LOWERED or STOWED; LINE_DEAD is cleared with voltage ok. Where one kind of alarm acts in an evaluation, the table, the
history, the number counter and the notice queue change as the raise, the widening or the clear says, and where none acts they stand.
A DEWIRE raise takes the view to OFF_LINE with the shed of R106; that the shed sets the off-wire ceiling and floor also before the
first stage 2, as for a carried pole at its first evaluation, is the model's reading: assumption log 32 (DEDUCED). When the last supply
alarm ends, OFF_LINE is left where voltage is ok, no record is outstanding and the window was no loss, and stays where voltage is not
ok or a record is outstanding. -/
def Obligations.RetrieveTimeoutRaisesAlarm : Prop :=
  (∀ (dt : Nat) (i : WindowInput) (id : PoleId) (t0 : StationTime) (s : State), Working s → isCol s = true →
    windowDue (advance dt s) = true →
    let q := poleOf id s.poles
    q.state = .dewired → q.timedOut = false → q.dewiredAt = some t0 →
    (record s).retrieveTimeout ≤ (now (advance dt s) - t0).toNat →
    (spanAngle q (edgesOf id i) = none → q.baseline ≠ 0) →
    (∀ a, spanAngle q (edgesOf id i) = some a → (record s).adown < a) →
      ∃ t, exec (.retrieveTimeout dt i id) s = .next t ∧ exec (.windowCompletion dt i) s = .next t
        ∧ (poleOf id t.poles).state = .dewired ∧ (poleOf id t.poles).timedOut = true ∧ (poleOf id t.poles).retrieve = true
        ∧ t.poles.retrieveFail.isSome = true)
  ∧ ∀ (dt : Nat) (i : WindowInput) (s : State), Working s → isCol s = true → windowDue (advance dt s) = true →
    ∃ t, exec (.windowCompletion dt i) s = .next t
      ∧ (let entered := poleSet (s.poles.p.state != .dewired && t.poles.p.state == .dewired)
          (s.poles.n.state != .dewired && t.poles.n.state == .dewired)
        (s.poles.dewire = none → entered = .none → t.poles.dewire = none)
        ∧ (s.poles.dewire = none → entered ≠ .none → ∃ n, t.poles.dewire = some ⟨n, entered, false, false⟩)
        ∧ ∀ a, s.poles.dewire = some a → a.poles ≠ .none →
            let poles := poleSet (hasP a.poles || hasP entered) (hasN a.poles || hasN entered)
            t.poles.dewire =
              if (hasP poles = true → t.poles.p.state = .onWire) ∧ (hasN poles = true → t.poles.n.state = .onWire) then none
              else some { a with poles := poles })
      ∧ (let timed := poleSet (!s.poles.p.timedOut && t.poles.p.timedOut) (!s.poles.n.timedOut && t.poles.n.timedOut)
        let down (q : Pole) : Bool := q.state == .lowered || q.state == .stowed
        (s.poles.retrieveFail = none → timed = .none → t.poles.retrieveFail = none)
        ∧ (s.poles.retrieveFail = none → timed ≠ .none → ∃ n, t.poles.retrieveFail = some ⟨n, timed, false, false⟩)
        ∧ ∀ a, s.poles.retrieveFail = some a → a.poles ≠ .none →
            let poles := poleSet (hasP a.poles || hasP timed) (hasN a.poles || hasN timed)
            let reachedP := (a.reachedP && !hasP timed) || (hasP poles && down t.poles.p)
            let reachedN := (a.reachedN && !hasN timed) || (hasN poles && down t.poles.n)
            t.poles.retrieveFail =
              if (hasP poles = true → reachedP = true) ∧ (hasN poles = true → reachedN = true) then none
              else some ⟨a.number, poles, reachedP, reachedN⟩)
      ∧ t.poles.lineDead = (if t.supply.voltageOk = true then none else s.poles.lineDead)
      ∧ (AlarmsDistinct s → HistoryBounded s →
          let w := s.poles
          let w' := t.poles
          (w'.retrieveFail = w.retrieveFail → w'.lineDead = w.lineDead → RecordActs .dewire w.dewire w'.dewire s t)
          ∧ (w'.dewire = w.dewire → w'.lineDead = w.lineDead → RecordActs .retrieveFail w.retrieveFail w'.retrieveFail s t)
          ∧ (w'.dewire = w.dewire → w'.retrieveFail = w.retrieveFail → RecordActs .lineDead w.lineDead w'.lineDead s t)
          ∧ (w'.dewire = w.dewire → w'.retrieveFail = w.retrieveFail → w'.lineDead = w.lineDead → OwnAlarmsStand s t))
      ∧ (OffLineUnderAlarm s → s.supply.view ≠ .offLine →
          holdsSupplyAlarm t.alarms.table = true ∨ (s.poles.dewire = none ∧ t.poles.dewire.isSome = true
            ∧ t.poles.retrieveFail = s.poles.retrieveFail ∧ t.poles.lineDead = s.poles.lineDead) →
          EnteredOffLine s t)
      ∧ (s.supply.view = .offLine → holdsSupplyAlarm s.alarms.table = true → holdsSupplyAlarm t.alarms.table = false →
          (t.supply.voltageOk = true → s.supply.records = [] → (record s).vGap ≤ windowVoltage i.edges s → LeftTheWait s t)
          ∧ (t.supply.voltageOk = false ∨ s.supply.records ≠ [] → t.supply.view = .offLine))

/-- A head window: the verdict by baseline and count, and the calibration sums where the window is eligible. -/
def Obligations.HeadWindowVerdict : Prop :=
  ∀ (dt : Nat) (id : PoleId) (edges : Nat) (t0 : StationTime) (s : State), Working s → isCol s = true →
    let q := poleOf id s.poles
    q.headStart = some t0 → (record s).headWindow ≤ (now (advance dt s) - t0).toNat →
      let count := if q.headCount + edges ≤ 65535 then q.headCount + edges else 65535
      let verdict : Verdict :=
        if q.baseline = 0 then .noEvidence
        else if count < q.baseline * (record s).sensitivity / 16 then .low else .present
      let eligible := q.state = .onWire ∧ s.supply.voltageOk = true ∧ ownAlarms s = []
      exec (.headWindowCompletion dt id edges) s = .next { advance dt s with
        poles := setPole id { q with
          headCount := 0, headStart := some (t0 + BitVec.ofNat 32 (record s).headWindow), verdict := verdict
          calSum := if eligible then q.calSum + count else q.calSum
          calTally := if eligible then q.calTally + 1 else q.calTally } s.poles }

/-- The end of a calibration interval: a pole with eligible windows takes the mean whole from baseline 0, or an eighth of the
difference truncated toward zero; a pole with none, or UNWATCHED, keeps its baseline. The baseline stays within 65 535, and the
verdict already formed stands. -/
def Obligations.CalibrationStep : Prop :=
  ∀ (dt : Nat) (t0 : StationTime) (s : State), Working s → isCol s = true → s.poles.calStart = some t0 →
    (record s).calInterval ≤ (now (advance dt s) - t0).toNat →
      let step (q : Pole) : Nat :=
        if q.calTally = 0 ∨ q.state = .unwatched then q.baseline
        else if q.baseline = 0 then q.calSum / q.calTally
        else ((q.baseline : Int) + Int.tdiv (((q.calSum / q.calTally : Nat) : Int) - q.baseline) 8).toNat
      let after (q : Pole) : Pole := { q with calSum := 0, calTally := 0, baseline := step q }
      exec (.calibrationIntervalEnd dt) s = .next { advance dt s with
        poles := { s.poles with
          p := after s.poles.p, n := after s.poles.n
          calStart := some (t0 + BitVec.ofNat 32 (record s).calInterval) } }
      ∧ ∀ q, q.baseline ≤ 65535 → q.calSum ≤ 65535 * q.calTally → step q ≤ 65535

/-- The angle of a pole's evaluation, from the edges of its span in nanoseconds, which is assumption log 27 (DEDUCED). The capture: a span without a rising edge completes no period; the first rising edge since listen
entry completes none and opens one; at each later one a period closes, and the last of the span counts, in whole microseconds, also
where an earlier span opened it or saw its falling edge. The angle of that period is in tenths of a degree. -/
def Obligations.AngleOfPeriod : Prop :=
  ∀ (q : Pole) (edges : List AngleEdge),
    let last := (takeEdges edges q).capture
    let left := (takeEdges edges q).opened
    ((∀ e ∈ edges, e.rising = false) → last = q.capture)
    ∧ (∀ g rest, q.opened = none → edges = ⟨true, g⟩ :: rest → (∀ e ∈ rest, e.rising = false) → last = q.capture)
    ∧ (∀ before g h l after, edges = before ++ [⟨true, g⟩, ⟨false, h⟩, ⟨true, l⟩] ++ after → (∀ e ∈ after, e.rising = false) →
        last = some ⟨h / 1000, (h + l) / 1000⟩)
    ∧ (∀ o h l after, q.opened = some ⟨o, none⟩ → edges = [⟨false, h⟩, ⟨true, l⟩] ++ after →
        (∀ e ∈ after, e.rising = false) → last = some ⟨(o + h) / 1000, (o + h + l) / 1000⟩)
    ∧ (∀ o h l after, q.opened = some ⟨o, some h⟩ → edges = ⟨true, l⟩ :: after → (∀ e ∈ after, e.rising = false) →
        last = some ⟨h / 1000, (o + l) / 1000⟩)
    ∧ (edges = [] → left = q.opened)
    ∧ (∀ before g, edges = before ++ [⟨true, g⟩] → left = some ⟨0, none⟩)
    ∧ (∀ before g h, edges = before ++ [⟨true, g⟩, ⟨false, h⟩] → left = some ⟨h, some h⟩)
    ∧ (∀ o h, q.opened = some ⟨o, none⟩ → edges = [⟨false, h⟩] → left = some ⟨o + h, some (o + h)⟩)
    ∧ (last = none → spanAngle q edges = none)
    ∧ ∀ p, last = some p →
      (p.period < 500 ∨ 2000 < p.period → spanAngle q edges = none)
      ∧ (500 ≤ p.period → p.period ≤ 2000 → ∀ duty, duty = p.high * 1000 / p.period →
          (duty < 50 ∨ 950 < duty → spanAngle q edges = none)
          ∧ (50 ≤ duty → duty ≤ 99 → spanAngle q edges = some 0)
          ∧ (901 ≤ duty → duty ≤ 950 → spanAngle q edges = some 900)
          ∧ (100 ≤ duty → duty ≤ 900 → spanAngle q edges = some ((duty - 100) * 900 / 800)))
      ∧ ∀ a, spanAngle q edges = some a → a ≤ 900

/-- The gap limit: OFF_LINE, with the records released and the OFF_LINE shed made; at a COL station with both poles ON_WIRE and no
LINE_DEAD active, LINE_DEAD is raised, and at any other the alarms stand. With voltage ok and no supply alarm the view goes on to
RESTORING, or ON_LINE where the delay is 0, if a record was released or the station has no voltage input; else it stays OFF_LINE
(assumption log 12). -/
def Obligations.GapLimitEntersOffLine : Prop :=
  ∀ (dt : Nat) (t0 : StationTime) (s : State), Working s → s.supply.view = .gap → s.supply.gapStart = some t0 →
    (record s).gapLimit ≤ (now (advance dt s) - t0).toNat →
      ∃ t, exec (.gapLimitExpiry dt) s = .next t
        ∧ t.share.ceiling = min (record s).offWireCeiling s.share.cap
        ∧ t.share.floor = min (record s).cfgFloor t.share.ceiling
        ∧ t.share.grant = min s.share.grant t.share.floor ∧ t.share.pendingGrant = none
        ∧ t.poles.openGap = none ∧ t.supply.records = [] ∧ t.supply.gapStart = none
        ∧ isPending t.port .supplyViewChanged = true ∧ t.loader = s.loader
        ∧ (s.supply.voltageOk = false ∨ (s.supply.records = [] ∧ (record s).voltageInput = true) →
            t.supply = { s.supply with view := .offLine, gapStart := none, records := [] }
              ∧ t.shed = { s.shed with restore := none })
        ∧ (s.supply.voltageOk = true → s.supply.records ≠ [] ∨ (record s).voltageInput = false →
            ¬(isCol s = true ∧ bothOnWire s = true ∧ s.poles.lineDead = none) → holdsSupplyAlarm s.alarms.table = false →
              LeftTheWait s t)
        ∧ (isCol s = true → bothOnWire s = true → s.poles.lineDead = none →
            holdsSupplyAlarm t.alarms.table = true ∧ t.supply.view = .offLine
            ∧ ∃ n, t.poles.lineDead = some ⟨n, .none, false, false⟩ ∧ RaisedOwn .lineDead .none n s t)
        ∧ (¬(isCol s = true ∧ bothOnWire s = true ∧ s.poles.lineDead = none) → t.alarms = s.alarms ∧ t.line = s.line)

/-- The restore delay runs out in RESTORING: the view becomes ON_LINE, and the grant and the pending grant stand. -/
def Obligations.RestoreDelayExpiryEntersOnLine : Prop :=
  ∀ (dt : Nat) (d : RestoreDelay) (s : State), Working s → s.supply.view = .restoring → s.shed.restore = some d →
    d.delay ≤ (now (advance dt s) - d.start).toNat →
      exec (.restoreDelayExpiry dt) s = .next { advance dt s with
        supply := { s.supply with view := .onLine }
        shed := { s.shed with restore := none }
        peers := s.peers.map fun e =>
          if e.station = s.loader.station then { e with fields := { e.fields with view := .onLine } } else e
        port := { s.port with attention := s.port.attention ||| 128#12 } }

/-! ### The period boundary -/

/-- Stages 1 and 2 of a boundary, and what the boundary leaves as it stands. -/
def Obligations.BoundaryLatchesAndLimits : Prop :=
  ∀ (dt : Nat) (b : StationTime) (s : State), Working s → OffLineUnderAlarm s → s.share.boundaryAt = some b →
    (record s).period ≤ (now (advance dt s) - b).toNat →
      let r := record s
      let count := if s.shed.demandTaken then 0 else min (s.shed.demandSilence + 1) r.demandTimeout
      let ceiling := min (if s.supply.view = .offLine then r.offWireCeiling else r.onLineCeiling) s.port.postedCap
      let floor := min r.cfgFloor ceiling
      let taken := match s.share.pendingGrant with
        | some p => min p s.share.ceiling
        | none => s.share.grant
      let ended := s.loader.run = .listen ∧ r.lostCount ≤ s.share.boundaries + 1
      let sources := if s.shed.sourceTaken then 0 else min (s.shed.sourceSilence + 1) r.demandTimeout
      ∃ t, exec (.periodBoundary dt) s = .next t
        ∧ t.share.boundaryAt = some (b + BitVec.ofNat 32 r.period) ∧ t.share.boundaries = s.share.boundaries + 1
        ∧ t.shed.demandSilence = count ∧ t.shed.demandTimedOut = (count == r.demandTimeout) ∧ t.shed.demandTaken = false
        ∧ t.share.demand = (if count = r.demandTimeout then r.cfgFloor else s.port.postedDemand)
        ∧ (isBat s = true →
            t.shed.sourceSilence = sources ∧ t.shed.sourceTimedOut = (sources == r.demandTimeout) ∧ t.shed.sourceTaken = false
            ∧ t.share.discharge = if sources = r.demandTimeout then 0 else s.port.postedSource)
        ∧ (isBat s = false → t.share.discharge = 0 ∧ t.shed.sourceSilence = s.shed.sourceSilence)
        ∧ t.share.cap = s.port.postedCap ∧ t.share.ceiling = ceiling ∧ t.share.floor = floor
        ∧ t.share.grant = min taken (if (r.cls = 0 ∧ s.supply.view = .gap) ∨ isSilenced s = true then floor else ceiling)
        ∧ t.loader = { s.loader with run := if ended then .running else s.loader.run }
        ∧ t.line = { s.line with
            stateWaiting := s.line.stateWaiting || decide (s.loader.run = .running ∨ ended) }
        ∧ t.poles = s.poles ∧ t.alarms.history = s.alarms.history ∧ t.clock = (advance dt s).clock
        ∧ t.supply.volts = s.supply.volts ∧ t.supply.voltageOk = s.supply.voltageOk
        ∧ t.port.postedDemand = s.port.postedDemand ∧ t.port.postedSource = s.port.postedSource
        ∧ t.port.postedCap = s.port.postedCap ∧ t.port.held = s.port.held

/-- The budget, the target and the pending grant that a boundary forms: the ordinary rule, the hold values of GAP and RESTORING,
the floor limit of TX_SUSPENDED and CLASH, and 0 in the listen phase. All of them use the view as the boundary finds it; that a
record's release by the ageing moves the view only after the stages is the model's reading, assumption log 13. The budget is the curve
at the own smoothed voltage or at that of the lowest FRESH entry with a voltage, the floors of all entries where there is none, or the
discharge limits of the FRESH BAT entries. -/
def Obligations.BoundaryFormsPending : Prop :=
  ∀ (dt : Nat) (s : State), Working s → OffLineUnderAlarm s → boundaryDue (advance dt s) = true →
    ∃ t, exec (.periodBoundary dt) s = .next t
      ∧ (let runs := t.loader.run ≠ .listen ∧ s.supply.view ≠ .gap
        let budget := if runs ∧ s.supply.view = .offLine then batteryBudget t.peers else supplyBudget t
        let grants := allocate budget (t.peers.map claimant)
        let held := if (record t).cls = 0 then min t.share.grant t.share.floor else 0
        let free :=
          if s.supply.view = .gap ∨ s.supply.view = .restoring then held
          else if t.share.grant < t.share.target then min t.share.target (t.share.grant + (record t).rampStep)
          else t.share.target
        t.share.budget = budget
          ∧ t.share.target = (if runs then grantOf t.loader.station grants.1 else s.share.target)
          ∧ (runs → grants.2 = true → isPending t.port .grantShort = true)
          ∧ t.share.pendingGrant = some (
              if t.loader.run = .listen then 0 else if isSilenced t = true then min free t.share.floor else free))
      ∧ (let r := record s
        let curve (u : Nat) : Nat :=
          if r.vknee ≤ u then r.lmax else if r.vfloor < u then r.lmax * (u - r.vfloor) / (r.vknee - r.vfloor) else 0
        (r.voltageInput = true →
          supplyBudget t = curve (if s.supply.volts = [] then 0 else s.supply.volts.sum / s.supply.volts.length))
        ∧ (∀ e ∈ t.peers, ∀ u, r.voltageInput = false → PeerTableOk s → e.freshness = .fresh → e.fields.voltage = some u →
            (∀ x ∈ t.peers, x.freshness = .fresh → x.fields.voltage.isSome = true → e.station ≤ x.station) →
              supplyBudget t = curve u)
        ∧ (r.voltageInput = false → (∀ e ∈ t.peers, e.freshness = .fresh → e.fields.voltage = none) →
            supplyBudget t = (t.peers.map fun e => e.fields.floor).sum)
        ∧ batteryBudget t.peers = (t.peers.map fun e =>
            if e.freshness = .fresh ∧ e.fields.role = .bat then e.fields.discharge.getD 0 else 0).sum)

/-- Every boundary row ages the entries of the other stations by 1: at the stale count a FRESH entry becomes STALE with its claim
frozen, and at the lost count an entry is removed and PEER_LOST raised. PEER_STALE and PEER_LOST are such boundaries by the model's
reading, assumption log 3. -/
def Obligations.BoundaryAgesPeers : Prop :=
  ∀ (dt : Nat) (e : Peer) (s : State), Working s → PeerTableOk s → boundaryDue (advance dt s) = true →
    peerOf s e.station = some e → e.station ≠ s.loader.station →
      ∃ t, exec (.periodBoundary dt) s = .next t
        ∧ (e.age + 1 < (record s).lostCount →
            peerOf t e.station = some { e with
              age := e.age + 1
              freshness :=
                if e.freshness = .fresh ∧ (record s).staleCount ≤ e.age + 1 then .stale e.fields.grant else e.freshness }
            ∧ (e.freshness = .fresh → (record s).staleCount ≤ e.age + 1 → exec (.peerStale dt e.station) s = .next t
                ∧ ∀ x ∈ t.supply.records, x.source ≠ e.station))
        ∧ ((record s).lostCount ≤ e.age + 1 →
            peerOf t e.station = none ∧ isPending t.port .peerLost = true ∧ exec (.peerLost dt e.station) s = .next t
            ∧ (e.fields.role = .col → ∀ a ∈ t.alarms.table, a.origin = e.station → a.orphaned = true))

/-- The other rows that name what comes about at a boundary: the end of the listen phase, the two timeouts and the lapse of an ack
pending. Each is the boundary; that they are one event with it is the model's reading, assumption log 3. -/
def Obligations.BoundaryRowsComeAbout : Prop :=
  ∀ (dt : Nat) (s : State), Working s → boundaryDue (advance dt s) = true →
    ∃ t, exec (.periodBoundary dt) s = .next t
      ∧ (s.loader.run = .listen → (record s).lostCount ≤ s.share.boundaries + 1 →
          exec (.listenPhaseEnd dt) s = .next t ∧ t.loader.run = .running ∧ t.line.stateWaiting = true
            ∧ (ownEntry t).isSome = true)
      ∧ (s.shed.demandTimedOut = false → s.shed.demandTaken = false → (record s).demandTimeout ≤ s.shed.demandSilence + 1 →
          exec (.demandTimeout dt) s = .next t ∧ t.shed.demandTimedOut = true ∧ t.share.demand = (record s).cfgFloor
            ∧ isPending t.port .demandTimeout = true)
      ∧ (isBat s = true → s.shed.sourceTimedOut = false → s.shed.sourceTaken = false →
          (record s).demandTimeout ≤ s.shed.sourceSilence + 1 →
          exec (.sourceTimeout dt) s = .next t ∧ t.shed.sourceTimedOut = true ∧ t.share.discharge = 0
            ∧ isPending t.port .demandTimeout = true)
      ∧ (∀ o n a k, findAlarm s o n = some a → a.ack = .sent k → 3 ≤ k →
          exec (.ackPendingLapse dt o n) s = .next t
            ∧ ∃ a', findAlarm t o n = some a' ∧ a'.ack = .absent ∧ a'.phase = a.phase)

/-! ### The allocation -/

/-- The grants that a station computes at one boundary sum to no more than its budget. -/
def Obligations.AllocationWithinBudget : Prop :=
  ∀ (budget : Nat) (peers : List Peer), (((allocate budget (peers.map claimant)).1).map (·.g)).sum ≤ budget

/-- No entry is granted more than its effective demand, and a STALE entry no more than its claim; with no shortfall every entry of
classes 0 to 2 has at least its floor part. -/
def Obligations.GrantsBetweenFloorAndDemand : Prop :=
  ∀ (budget : Nat) (peers : List Peer) (c : Claimant), c ∈ (allocate budget (peers.map claimant)).1 →
    c.g ≤ c.d ∧ (c.takesExcess = false → c.g ≤ c.f)
      ∧ ((allocate budget (peers.map claimant)).2 = false → c.cls ≤ 2 → c.f ≤ c.g)

/-- The excess pass. A class whose excess wanted fits in Rem gets all of it; else it is water-filled, and the pass ends. In a round each
entry of A has the share floor(Rem × weight / WA); those whose excess wanted is at most their share are satisfied and leave A, and
Rem falls by what they take; a round that satisfies none raises each grant of A by its share. A water-filling over at most 8 entries
whose excess wanted exceeds Rem ends within 8 rounds: more rounds would change nothing. -/
def Obligations.WaterFillingEndsInEightRounds : Prop :=
  (∀ (c rem more : Nat) (es : List Claimant), es.length ≤ 8 → rem < wantedSum c es →
    waterFill c (8 + more) rem es = waterFill c 8 rem es)
  ∧ (∀ (c fuel rem : Nat) (es : List Claimant),
    let wants (e : Claimant) : Bool := decide (e.cls = c ∧ e.takesExcess = true ∧ e.g < e.d)
    let weights := ((es.filter wants).map (·.weight)).sum
    let share (e : Claimant) : Nat := rem * e.weight / weights
    let satisfied (e : Claimant) : Bool := wants e && decide (e.d - e.g ≤ share e)
    (es.filter satisfied = [] →
      waterFill c (fuel + 1) rem es =
        (es.map fun e => if wants e then { e with g := e.g + share e } else e, rem - ((es.filter wants).map share).sum))
    ∧ (es.filter satisfied ≠ [] →
      waterFill c (fuel + 1) rem es =
        waterFill c fuel (rem - ((es.filter satisfied).map fun e => e.d - e.g).sum)
          (es.map fun e => if satisfied e then { e with g := e.d } else e)))
  ∧ (∀ (c : Nat) (x : Division),
    let wants (e : Claimant) : Bool := decide (e.cls = c ∧ e.takesExcess = true ∧ e.g < e.d)
    let total := ((x.entries.filter wants).map fun e => e.d - e.g).sum
    (x.stopped = true → excessClass x c = x)
    ∧ (x.stopped = false → total ≤ x.rem →
      excessClass x c = ⟨x.entries.map fun e => if wants e then { e with g := e.d } else e, x.rem - total, false⟩)
    ∧ (x.stopped = false → x.rem < total →
      excessClass x c = ⟨(waterFill c 8 x.rem x.entries).1, (waterFill c 8 x.rem x.entries).2, true⟩))
  ∧ (∀ x : Division, excessPass x = excessClass (excessClass (excessClass x 0) 1) 2)
  ∧ ∀ (budget : Nat) (peers : List Peer),
    let floors := floorsPass budget (peers.map claimant)
    allocate budget (peers.map claimant) = if floors.stopped then (floors.entries, true) else ((excessPass floors).entries, false)

/-- The floors pass: the classes in turn, each with whole floor parts or, at a shortfall, their shares in proportion; Rem falls by
exactly what is given, no entry has more than its floor part, and one that no shortfall touched has it whole. -/
def Obligations.FloorsClassRule : Prop :=
  (∀ (c : Nat) (x : Division), x.stopped = false →
    let total := ((x.entries.filter fun e => e.cls == c).map (·.f)).sum
    let y := floorsClass x c
    (total ≤ x.rem →
      y = ⟨x.entries.map fun e => if e.cls = c then { e with g := e.f } else e, x.rem - total, false⟩)
    ∧ (x.rem < total →
      y.stopped = true
        ∧ y.entries = x.entries.map fun e => if e.cls = c then { e with g := e.f * x.rem / total } else e)
    ∧ y.rem + ((y.entries.filter fun e => e.cls == c).map (·.g)).sum = x.rem
    ∧ ∀ e ∈ y.entries, e.cls = c → e.g ≤ e.f)
  ∧ ∀ (budget : Nat) (peers : List Peer),
    let start : Division := ⟨peers.map claimant, budget, false⟩
    floorsPass budget (peers.map claimant) = floorsClass (floorsClass (floorsClass start 0) 1) 2
    ∧ (∀ e ∈ (floorsPass budget (peers.map claimant)).entries, e.g ≤ e.f)
    ∧ ∀ n, n ≤ 3 → ((List.range n).foldl floorsClass start).stopped = false →
        ∀ e ∈ (floorsPass budget (peers.map claimant)).entries, e.cls < n → e.g = e.f ∧ e.f ≤ e.d

/-! ### Annunciation and the limit output -/

/-- A press that is accepted latches the button logic and acknowledges as a request does: with no eligible entry nothing else changes; an
own alarm of this COL station is acknowledged; for another origin's an ACK notice joins, and where it is refused nothing else changes.
A release arms the logic. That a command brings how long the level has stood, counted from the last accepted change at the earliest, is
the model's choice: assumption log 17. -/
def Obligations.ButtonPressAndRelease : Prop :=
  ∀ (dt stood : Nat) (s : State), Working s → (record s).ackButton = true → 20 ≤ stood →
    20 ≤ (advance dt s).clock.up - s.alarms.debounceStart →
      (s.alarms.buttonArmed = true →
        let latched : State := { advance dt s with
          alarms := { s.alarms with buttonArmed := false, debounceStart := (advance dt s).clock.up } }
        ∃ t, exec (.ackButtonPress dt stood) s = .next t ∧ t.alarms.buttonArmed = false ∧ t.alarms.debounceStart = t.clock.up
          ∧ (s.alarms.table.find? isEligible = none → t = latched)
          ∧ ∀ e, s.alarms.table.find? isEligible = some e →
            (¬(isCol s = true ∧ e.origin = s.loader.station) → ackAccepted s = false → t = latched)
            ∧ (¬(isCol s = true ∧ e.origin = s.loader.station) → ackAccepted s = true →
                t.line = { s.line with ackPart := s.line.ackPart ++ [⟨⟨e.origin, e.number⟩, 0, false, false⟩] }
                ∧ t.alarms.table =
                    s.alarms.table.map (fun x => if isEntry e.origin e.number x then { x with ack := .queued } else x)
                ∧ t.alarms.history = s.alarms.history)
            ∧ (isCol s = true → e.origin = s.loader.station → findAlarm s e.origin e.number = some e →
                AckedOwn e s t ∧ t.line.ackPart = s.line.ackPart))
      ∧ (s.alarms.buttonArmed = false →
        exec (.ackButtonRelease dt stood) s = .next { advance dt s with
          alarms := { s.alarms with buttonArmed := true, debounceStart := (advance dt s).clock.up } })

/-- At the end of an event that changed the alarm table the lamp is OFF on an empty table, FLASHING while an entry is not ACTIVE_ACKED,
else STEADY, and entering a state sets its output; the buzzer is silent, its timers stopped, when no entry is ACTIVE_UNACK, and the
reminder timer starts when the table comes to hold one. The lamp toggles every 500 ms in FLASHING; the sounding timer silences the
buzzer; the reminder sounds it again while an ACTIVE_UNACK entry is held. -/
def Obligations.AnnunciatorTimers : Prop :=
  (∀ (before : List AlarmEntry) (s : State), s.alarms.table ≠ before →
    let t := endAlarmEvent before s
    let lamp : Lamp :=
      if s.alarms.table = [] then .off
      else if ∃ e ∈ s.alarms.table, e.phase ≠ .activeAcked then .flashing else .steady
    t.alarms.table = s.alarms.table ∧ isPending t.port .alarmTableChanged = true
    ∧ ((record s).lampEnabled = true → t.alarms.lamp = lamp
        ∧ (s.alarms.lamp = lamp → t.alarms.lampLit = s.alarms.lampLit ∧ t.alarms.flashStart = s.alarms.flashStart)
        ∧ (s.alarms.lamp ≠ lamp → t.alarms.lampLit = decide (lamp ≠ .off)
            ∧ t.alarms.flashStart = if lamp = .flashing then some (now s) else none))
    ∧ ((record s).lampEnabled = false → t.alarms.lamp = s.alarms.lamp ∧ t.alarms.lampLit = s.alarms.lampLit
        ∧ t.alarms.flashStart = s.alarms.flashStart)
    ∧ ((record s).buzzerEnabled = true → (∀ e ∈ s.alarms.table, e.phase ≠ .activeUnack) →
        t.alarms.buzzer = false ∧ t.alarms.soundStart = none ∧ t.alarms.reminderStart = none)
    ∧ ((∃ e ∈ s.alarms.table, e.phase = .activeUnack) →
        t.alarms.buzzer = s.alarms.buzzer ∧ t.alarms.soundStart = s.alarms.soundStart
        ∧ t.alarms.reminderStart =
            if (record s).buzzerEnabled = true ∧ (record s).reminder ≠ 0 ∧ (∀ e ∈ before, e.phase ≠ .activeUnack)
            then some (now s) else s.alarms.reminderStart)
    ∧ ((record s).buzzerEnabled = false →
        t.alarms.buzzer = s.alarms.buzzer ∧ t.alarms.soundStart = s.alarms.soundStart
        ∧ t.alarms.reminderStart = s.alarms.reminderStart))
  ∧ ∀ (dt : Nat) (t0 : StationTime) (s : State), inReset s = false →
    (s.alarms.lamp = .flashing → s.alarms.flashStart = some t0 → 500 ≤ (now (advance dt s) - t0).toNat →
      exec (.flashClockToggle dt) s = .next { advance dt s with
        alarms := { s.alarms with lampLit := !s.alarms.lampLit, flashStart := some (t0 + 500) } })
    ∧ (s.alarms.soundStart = some t0 → (record s).buzzDuration ≤ (now (advance dt s) - t0).toNat →
      exec (.soundingTimerExpiry dt) s = .next { advance dt s with
        alarms := { s.alarms with buzzer := false, soundStart := none } })
    ∧ (s.alarms.reminderStart = some t0 → (record s).reminder * 1000 ≤ (now (advance dt s) - t0).toNat →
      (record s).buzzerEnabled = true → (record s).reminder ≠ 0 → (∃ e ∈ s.alarms.table, e.phase = .activeUnack) →
      exec (.reminderTimerExpiry dt) s = .next { advance dt s with
        alarms := { s.alarms with
          buzzer := true, soundStart := some (now (advance dt s)), reminderStart := some (now (advance dt s)) } })

/-- A PWM period opens high unless the duty is 0, and the output goes low when the time in it has reached the duty. That a period
may first open at any time is the model's choice: assumption log 19. -/
def Obligations.LimitOutputFollowsDuty : Prop :=
  ∀ (dt us : Nat) (s : State), inReset s = false → s.share.limitElapsed = some us →
    let duty := if s.share.ceiling = 0 then 0 else s.share.grant * 1000 / s.share.ceiling
    (us + dt = 1000 →
      exec (.limitPeriodOpens dt) s = .next { advance dt s with
        share := { s.share with limitElapsed := some 0, limitHigh := decide (0 < duty) } })
    ∧ (us + dt < 1000 →
      exec (.limitDutyReached dt) s = .next { advance dt s with
        share := { s.share with
          limitElapsed := some (us + dt), limitHigh := s.share.limitHigh && decide (us + dt < duty) } })

/-! ### Laws that every step keeps -/

/-- Every law holds right after a power-on reset. -/
def Obligations.LawsHoldAtReset : Prop :=
  let s := State.reset
  CountersBounded s ∧ QueueBounded s ∧ SilentWhenNotRunning s ∧ HistoryBounded s ∧ AlarmTableBounded s ∧ AlarmsDistinct s ∧ OffLineUnderAlarm s
    ∧ PeerTableOk s ∧ OwnEntryFollows s ∧ GrantLaw s ∧ RetrieveFollowsPole s ∧ TimersFollowView s ∧ WindowsOk s

/-- TEC, REC, the notice queue, the history list and the silence of a station that is not RUNNING. -/
def Obligations.LineLawsKept : Prop :=
  ∀ s t : State, step s = .next t →
    (CountersBounded s → CountersBounded t) ∧ (QueueBounded s → QueueBounded t) ∧ (HistoryBounded s → HistoryBounded t)
      ∧ (SilentWhenNotRunning s → SilentWhenNotRunning t)

/-- The alarm table never holds more than four alarms of one origin, nor two of one origin and number, and a supply alarm held means
OFF_LINE. -/
def Obligations.AlarmLawsKept : Prop :=
  ∀ s t : State, step s = .next t →
    (AlarmTableBounded s → AlarmTableBounded t) ∧ (AlarmTableBounded s → AlarmsDistinct s → AlarmsDistinct t)
      ∧ (OffLineUnderAlarm s → OffLineUnderAlarm t)

/-- The Peer Table holds one entry per number, with the own entry wherever the manual says so, and the own entry follows the
station. -/
def Obligations.PeerLawsKept : Prop :=
  ∀ s t : State, SilentWhenNotRunning s → PeerTableOk s → step s = .next t → PeerTableOk t ∧ (OwnEntryFollows s → OwnEntryFollows t)

/-- The grant in force never exceeds the effective ceiling, is 0 or within the floor in GAP, within the floor in TX_SUSPENDED and
CLASH and 0 outside; the pending grant keeps the same bounds and one ramp step. -/
def Obligations.GrantLawKept : Prop :=
  ∀ s t : State, GrantLaw s → step s = .next t → GrantLaw t

/-- The retrieve outputs follow the poles, the two timers of the view follow the view, and the windows stay in range. -/
def Obligations.WatchLawsKept : Prop :=
  ∀ s t : State, SilentWhenNotRunning s → step s = .next t →
    (RetrieveFollowsPole s → RetrieveFollowsPole t) ∧ (TimersFollowView s → TimersFollowView t) ∧ (WindowsOk s → WindowsOk t)

/-- A station's grant in force rises only at a period boundary, and by no more than its ramp step. -/
def Obligations.GrantRisesOnlyAtBoundary : Prop :=
  ∀ (c : Instr) (s t : State), GrantLaw s → exec c s = .next t →
    (c.asBoundary = none → t.share.grant ≤ s.share.grant) ∧ t.share.grant ≤ s.share.grant + (record s).rampStep

/-- The run states move as Table 9-1 gives, the posted cap only falls, TEC moves only with an attempt's end or a suspension's, and
REC rises only with reception or the start of an attempt, all between resets. -/
def Obligations.OnlyTheseCommandsMove : Prop :=
  ∀ (c : Instr) (s t : State), SilentWhenNotRunning s → c.isReset = false → exec c s = .next t →
    runStep s.loader.run t.loader.run = true
      ∧ t.port.postedCap ≤ s.port.postedCap
      ∧ (t.line.tec ≠ s.line.tec →
          (∃ dt bit, c = .collisionAbort dt bit) ∨ (∃ dt, c = .transmitSuccess dt) ∨ ∃ dt, c = .suspensionExpiry dt)
      ∧ (s.line.recv < t.line.recv → c.isReception = true ∨ ∃ dt idle, c = .deferralReached dt idle)
      ∧ t.loader.station = s.loader.station ∧ t.loader.cause = s.loader.cause
end

