-- ==== Sys2Proof/Laws/State.lean ====
section
/-!
SUPPORT. One lemma per block and per block update, each true by unfolding: no later proof unfolds a record update.
-/
namespace Sys2Proof.Machine

variable (s : State)

@[simp] theorem State.withClock_clock (x : Clock) : (s.withClock x).clock = x := rfl
@[simp] theorem State.withClock_loader (x : Clock) : (s.withClock x).loader = s.loader := rfl
@[simp] theorem State.withClock_supply (x : Clock) : (s.withClock x).supply = s.supply := rfl
@[simp] theorem State.withClock_poles (x : Clock) : (s.withClock x).poles = s.poles := rfl
@[simp] theorem State.withClock_line (x : Clock) : (s.withClock x).line = s.line := rfl
@[simp] theorem State.withClock_peers (x : Clock) : (s.withClock x).peers = s.peers := rfl
@[simp] theorem State.withClock_share (x : Clock) : (s.withClock x).share = s.share := rfl
@[simp] theorem State.withClock_shed (x : Clock) : (s.withClock x).shed = s.shed := rfl
@[simp] theorem State.withClock_alarms (x : Clock) : (s.withClock x).alarms = s.alarms := rfl
@[simp] theorem State.withClock_port (x : Clock) : (s.withClock x).port = s.port := rfl
@[simp] theorem State.withClock_pending (x : Clock) : (s.withClock x).pending = s.pending := rfl
@[simp] theorem State.withClock_self : s.withClock s.clock = s := rfl
@[simp] theorem State.withClock_withClock (x y : Clock) : (s.withClock x).withClock y = s.withClock y := rfl

@[simp] theorem State.withLoader_clock (x : Loader) : (s.withLoader x).clock = s.clock := rfl
@[simp] theorem State.withLoader_loader (x : Loader) : (s.withLoader x).loader = x := rfl
@[simp] theorem State.withLoader_supply (x : Loader) : (s.withLoader x).supply = s.supply := rfl
@[simp] theorem State.withLoader_poles (x : Loader) : (s.withLoader x).poles = s.poles := rfl
@[simp] theorem State.withLoader_line (x : Loader) : (s.withLoader x).line = s.line := rfl
@[simp] theorem State.withLoader_peers (x : Loader) : (s.withLoader x).peers = s.peers := rfl
@[simp] theorem State.withLoader_share (x : Loader) : (s.withLoader x).share = s.share := rfl
@[simp] theorem State.withLoader_shed (x : Loader) : (s.withLoader x).shed = s.shed := rfl
@[simp] theorem State.withLoader_alarms (x : Loader) : (s.withLoader x).alarms = s.alarms := rfl
@[simp] theorem State.withLoader_port (x : Loader) : (s.withLoader x).port = s.port := rfl
@[simp] theorem State.withLoader_pending (x : Loader) : (s.withLoader x).pending = s.pending := rfl
@[simp] theorem State.withLoader_self : s.withLoader s.loader = s := rfl
@[simp] theorem State.withLoader_withLoader (x y : Loader) : (s.withLoader x).withLoader y = s.withLoader y := rfl

@[simp] theorem State.withSupply_clock (x : Supply) : (s.withSupply x).clock = s.clock := rfl
@[simp] theorem State.withSupply_loader (x : Supply) : (s.withSupply x).loader = s.loader := rfl
@[simp] theorem State.withSupply_supply (x : Supply) : (s.withSupply x).supply = x := rfl
@[simp] theorem State.withSupply_poles (x : Supply) : (s.withSupply x).poles = s.poles := rfl
@[simp] theorem State.withSupply_line (x : Supply) : (s.withSupply x).line = s.line := rfl
@[simp] theorem State.withSupply_peers (x : Supply) : (s.withSupply x).peers = s.peers := rfl
@[simp] theorem State.withSupply_share (x : Supply) : (s.withSupply x).share = s.share := rfl
@[simp] theorem State.withSupply_shed (x : Supply) : (s.withSupply x).shed = s.shed := rfl
@[simp] theorem State.withSupply_alarms (x : Supply) : (s.withSupply x).alarms = s.alarms := rfl
@[simp] theorem State.withSupply_port (x : Supply) : (s.withSupply x).port = s.port := rfl
@[simp] theorem State.withSupply_pending (x : Supply) : (s.withSupply x).pending = s.pending := rfl
@[simp] theorem State.withSupply_self : s.withSupply s.supply = s := rfl
@[simp] theorem State.withSupply_withSupply (x y : Supply) : (s.withSupply x).withSupply y = s.withSupply y := rfl

@[simp] theorem State.withPoles_clock (x : PoleWatch) : (s.withPoles x).clock = s.clock := rfl
@[simp] theorem State.withPoles_loader (x : PoleWatch) : (s.withPoles x).loader = s.loader := rfl
@[simp] theorem State.withPoles_supply (x : PoleWatch) : (s.withPoles x).supply = s.supply := rfl
@[simp] theorem State.withPoles_poles (x : PoleWatch) : (s.withPoles x).poles = x := rfl
@[simp] theorem State.withPoles_line (x : PoleWatch) : (s.withPoles x).line = s.line := rfl
@[simp] theorem State.withPoles_peers (x : PoleWatch) : (s.withPoles x).peers = s.peers := rfl
@[simp] theorem State.withPoles_share (x : PoleWatch) : (s.withPoles x).share = s.share := rfl
@[simp] theorem State.withPoles_shed (x : PoleWatch) : (s.withPoles x).shed = s.shed := rfl
@[simp] theorem State.withPoles_alarms (x : PoleWatch) : (s.withPoles x).alarms = s.alarms := rfl
@[simp] theorem State.withPoles_port (x : PoleWatch) : (s.withPoles x).port = s.port := rfl
@[simp] theorem State.withPoles_pending (x : PoleWatch) : (s.withPoles x).pending = s.pending := rfl
@[simp] theorem State.withPoles_self : s.withPoles s.poles = s := rfl
@[simp] theorem State.withPoles_withPoles (x y : PoleWatch) : (s.withPoles x).withPoles y = s.withPoles y := rfl

@[simp] theorem State.withLine_clock (x : Line) : (s.withLine x).clock = s.clock := rfl
@[simp] theorem State.withLine_loader (x : Line) : (s.withLine x).loader = s.loader := rfl
@[simp] theorem State.withLine_supply (x : Line) : (s.withLine x).supply = s.supply := rfl
@[simp] theorem State.withLine_poles (x : Line) : (s.withLine x).poles = s.poles := rfl
@[simp] theorem State.withLine_line (x : Line) : (s.withLine x).line = x := rfl
@[simp] theorem State.withLine_peers (x : Line) : (s.withLine x).peers = s.peers := rfl
@[simp] theorem State.withLine_share (x : Line) : (s.withLine x).share = s.share := rfl
@[simp] theorem State.withLine_shed (x : Line) : (s.withLine x).shed = s.shed := rfl
@[simp] theorem State.withLine_alarms (x : Line) : (s.withLine x).alarms = s.alarms := rfl
@[simp] theorem State.withLine_port (x : Line) : (s.withLine x).port = s.port := rfl
@[simp] theorem State.withLine_pending (x : Line) : (s.withLine x).pending = s.pending := rfl
@[simp] theorem State.withLine_self : s.withLine s.line = s := rfl
@[simp] theorem State.withLine_withLine (x y : Line) : (s.withLine x).withLine y = s.withLine y := rfl

@[simp] theorem State.withPeers_clock (x : List Peer) : (s.withPeers x).clock = s.clock := rfl
@[simp] theorem State.withPeers_loader (x : List Peer) : (s.withPeers x).loader = s.loader := rfl
@[simp] theorem State.withPeers_supply (x : List Peer) : (s.withPeers x).supply = s.supply := rfl
@[simp] theorem State.withPeers_poles (x : List Peer) : (s.withPeers x).poles = s.poles := rfl
@[simp] theorem State.withPeers_line (x : List Peer) : (s.withPeers x).line = s.line := rfl
@[simp] theorem State.withPeers_peers (x : List Peer) : (s.withPeers x).peers = x := rfl
@[simp] theorem State.withPeers_share (x : List Peer) : (s.withPeers x).share = s.share := rfl
@[simp] theorem State.withPeers_shed (x : List Peer) : (s.withPeers x).shed = s.shed := rfl
@[simp] theorem State.withPeers_alarms (x : List Peer) : (s.withPeers x).alarms = s.alarms := rfl
@[simp] theorem State.withPeers_port (x : List Peer) : (s.withPeers x).port = s.port := rfl
@[simp] theorem State.withPeers_pending (x : List Peer) : (s.withPeers x).pending = s.pending := rfl
@[simp] theorem State.withPeers_self : s.withPeers s.peers = s := rfl
@[simp] theorem State.withPeers_withPeers (x y : List Peer) : (s.withPeers x).withPeers y = s.withPeers y := rfl

@[simp] theorem State.withShare_clock (x : Share) : (s.withShare x).clock = s.clock := rfl
@[simp] theorem State.withShare_loader (x : Share) : (s.withShare x).loader = s.loader := rfl
@[simp] theorem State.withShare_supply (x : Share) : (s.withShare x).supply = s.supply := rfl
@[simp] theorem State.withShare_poles (x : Share) : (s.withShare x).poles = s.poles := rfl
@[simp] theorem State.withShare_line (x : Share) : (s.withShare x).line = s.line := rfl
@[simp] theorem State.withShare_peers (x : Share) : (s.withShare x).peers = s.peers := rfl
@[simp] theorem State.withShare_share (x : Share) : (s.withShare x).share = x := rfl
@[simp] theorem State.withShare_shed (x : Share) : (s.withShare x).shed = s.shed := rfl
@[simp] theorem State.withShare_alarms (x : Share) : (s.withShare x).alarms = s.alarms := rfl
@[simp] theorem State.withShare_port (x : Share) : (s.withShare x).port = s.port := rfl
@[simp] theorem State.withShare_pending (x : Share) : (s.withShare x).pending = s.pending := rfl
@[simp] theorem State.withShare_self : s.withShare s.share = s := rfl
@[simp] theorem State.withShare_withShare (x y : Share) : (s.withShare x).withShare y = s.withShare y := rfl

@[simp] theorem State.withShed_clock (x : Shed) : (s.withShed x).clock = s.clock := rfl
@[simp] theorem State.withShed_loader (x : Shed) : (s.withShed x).loader = s.loader := rfl
@[simp] theorem State.withShed_supply (x : Shed) : (s.withShed x).supply = s.supply := rfl
@[simp] theorem State.withShed_poles (x : Shed) : (s.withShed x).poles = s.poles := rfl
@[simp] theorem State.withShed_line (x : Shed) : (s.withShed x).line = s.line := rfl
@[simp] theorem State.withShed_peers (x : Shed) : (s.withShed x).peers = s.peers := rfl
@[simp] theorem State.withShed_share (x : Shed) : (s.withShed x).share = s.share := rfl
@[simp] theorem State.withShed_shed (x : Shed) : (s.withShed x).shed = x := rfl
@[simp] theorem State.withShed_alarms (x : Shed) : (s.withShed x).alarms = s.alarms := rfl
@[simp] theorem State.withShed_port (x : Shed) : (s.withShed x).port = s.port := rfl
@[simp] theorem State.withShed_pending (x : Shed) : (s.withShed x).pending = s.pending := rfl
@[simp] theorem State.withShed_self : s.withShed s.shed = s := rfl
@[simp] theorem State.withShed_withShed (x y : Shed) : (s.withShed x).withShed y = s.withShed y := rfl

@[simp] theorem State.withAlarms_clock (x : Alarms) : (s.withAlarms x).clock = s.clock := rfl
@[simp] theorem State.withAlarms_loader (x : Alarms) : (s.withAlarms x).loader = s.loader := rfl
@[simp] theorem State.withAlarms_supply (x : Alarms) : (s.withAlarms x).supply = s.supply := rfl
@[simp] theorem State.withAlarms_poles (x : Alarms) : (s.withAlarms x).poles = s.poles := rfl
@[simp] theorem State.withAlarms_line (x : Alarms) : (s.withAlarms x).line = s.line := rfl
@[simp] theorem State.withAlarms_peers (x : Alarms) : (s.withAlarms x).peers = s.peers := rfl
@[simp] theorem State.withAlarms_share (x : Alarms) : (s.withAlarms x).share = s.share := rfl
@[simp] theorem State.withAlarms_shed (x : Alarms) : (s.withAlarms x).shed = s.shed := rfl
@[simp] theorem State.withAlarms_alarms (x : Alarms) : (s.withAlarms x).alarms = x := rfl
@[simp] theorem State.withAlarms_port (x : Alarms) : (s.withAlarms x).port = s.port := rfl
@[simp] theorem State.withAlarms_pending (x : Alarms) : (s.withAlarms x).pending = s.pending := rfl
@[simp] theorem State.withAlarms_self : s.withAlarms s.alarms = s := rfl
@[simp] theorem State.withAlarms_withAlarms (x y : Alarms) : (s.withAlarms x).withAlarms y = s.withAlarms y := rfl

@[simp] theorem State.withPort_clock (x : Port) : (s.withPort x).clock = s.clock := rfl
@[simp] theorem State.withPort_loader (x : Port) : (s.withPort x).loader = s.loader := rfl
@[simp] theorem State.withPort_supply (x : Port) : (s.withPort x).supply = s.supply := rfl
@[simp] theorem State.withPort_poles (x : Port) : (s.withPort x).poles = s.poles := rfl
@[simp] theorem State.withPort_line (x : Port) : (s.withPort x).line = s.line := rfl
@[simp] theorem State.withPort_peers (x : Port) : (s.withPort x).peers = s.peers := rfl
@[simp] theorem State.withPort_share (x : Port) : (s.withPort x).share = s.share := rfl
@[simp] theorem State.withPort_shed (x : Port) : (s.withPort x).shed = s.shed := rfl
@[simp] theorem State.withPort_alarms (x : Port) : (s.withPort x).alarms = s.alarms := rfl
@[simp] theorem State.withPort_port (x : Port) : (s.withPort x).port = x := rfl
@[simp] theorem State.withPort_pending (x : Port) : (s.withPort x).pending = s.pending := rfl
@[simp] theorem State.withPort_self : s.withPort s.port = s := rfl
@[simp] theorem State.withPort_withPort (x y : Port) : (s.withPort x).withPort y = s.withPort y := rfl

end Sys2Proof.Machine
end

