-- ==== Sys2Proof/Laws/Ops.lean ====
section
/-!
SUPPORT. The shared operations of Machine/Ops.lean: for each, which blocks of the state it leaves as they stand
(`<operation>_keeps`), and what it does to the others.
-/
namespace Sys2Proof.Machine

/-! ### Time and attention -/

@[simp] theorem advance_keeps (dt : Nat) (s : State) :
    (advance dt s).loader = s.loader ∧ (advance dt s).supply = s.supply ∧ (advance dt s).poles = s.poles ∧
    (advance dt s).line = s.line ∧ (advance dt s).peers = s.peers ∧ (advance dt s).shed = s.shed ∧
    (advance dt s).alarms = s.alarms ∧ (advance dt s).port = s.port ∧ (advance dt s).pending = s.pending := by
  exact ⟨rfl, rfl, rfl, rfl, rfl, rfl, rfl, rfl, rfl⟩

@[simp] theorem raise_keeps (c : Cause) (s : State) :
    (raise c s).clock = s.clock ∧ (raise c s).loader = s.loader ∧ (raise c s).supply = s.supply ∧
    (raise c s).poles = s.poles ∧ (raise c s).line = s.line ∧ (raise c s).peers = s.peers ∧ (raise c s).share = s.share ∧
    (raise c s).shed = s.shed ∧ (raise c s).alarms = s.alarms ∧ (raise c s).pending = s.pending := by
  exact ⟨rfl, rfl, rfl, rfl, rfl, rfl, rfl, rfl, rfl, rfl⟩

@[simp] theorem raiseSensor_keeps (src : SensorSource) (s : State) :
    (raiseSensor src s).clock = s.clock ∧ (raiseSensor src s).loader = s.loader ∧ (raiseSensor src s).supply = s.supply ∧
    (raiseSensor src s).poles = s.poles ∧ (raiseSensor src s).line = s.line ∧ (raiseSensor src s).peers = s.peers ∧
    (raiseSensor src s).share = s.share ∧ (raiseSensor src s).shed = s.shed ∧ (raiseSensor src s).alarms = s.alarms ∧
    (raiseSensor src s).pending = s.pending := by
  exact ⟨rfl, rfl, rfl, rfl, rfl, rfl, rfl, rfl, rfl, rfl⟩

@[simp] theorem mapOwn_keeps (f : StateFields → StateFields) (s : State) :
    (mapOwn f s).clock = s.clock ∧ (mapOwn f s).loader = s.loader ∧ (mapOwn f s).supply = s.supply ∧
    (mapOwn f s).poles = s.poles ∧ (mapOwn f s).line = s.line ∧ (mapOwn f s).share = s.share ∧ (mapOwn f s).shed = s.shed ∧
    (mapOwn f s).alarms = s.alarms ∧ (mapOwn f s).port = s.port ∧ (mapOwn f s).pending = s.pending := by
  exact ⟨rfl, rfl, rfl, rfl, rfl, rfl, rfl, rfl, rfl, rfl⟩

@[simp] theorem setGrant_keeps (g : Nat) (s : State) :
    (setGrant g s).clock = s.clock ∧ (setGrant g s).loader = s.loader ∧ (setGrant g s).supply = s.supply ∧
    (setGrant g s).poles = s.poles ∧ (setGrant g s).line = s.line ∧ (setGrant g s).shed = s.shed ∧
    (setGrant g s).alarms = s.alarms ∧ (setGrant g s).port = s.port ∧ (setGrant g s).pending = s.pending := by
  exact ⟨rfl, rfl, rfl, rfl, rfl, rfl, rfl, rfl, rfl⟩

@[simp] theorem lowerGrant_keeps (b : Nat) (s : State) :
    (lowerGrant b s).clock = s.clock ∧ (lowerGrant b s).loader = s.loader ∧ (lowerGrant b s).supply = s.supply ∧
    (lowerGrant b s).poles = s.poles ∧ (lowerGrant b s).line = s.line ∧ (lowerGrant b s).shed = s.shed ∧
    (lowerGrant b s).alarms = s.alarms ∧ (lowerGrant b s).port = s.port ∧ (lowerGrant b s).pending = s.pending := by
  simp [lowerGrant]

@[simp] theorem floorHold_keeps (s : State) :
    (floorHold s).clock = s.clock ∧ (floorHold s).loader = s.loader ∧ (floorHold s).supply = s.supply ∧
    (floorHold s).poles = s.poles ∧ (floorHold s).line = s.line ∧ (floorHold s).shed = s.shed ∧
    (floorHold s).alarms = s.alarms ∧ (floorHold s).port = s.port ∧ (floorHold s).pending = s.pending := by
  simp [floorHold]

@[simp] theorem gapShed_keeps (s : State) :
    (gapShed s).clock = s.clock ∧ (gapShed s).loader = s.loader ∧ (gapShed s).supply = s.supply ∧
    (gapShed s).poles = s.poles ∧ (gapShed s).line = s.line ∧ (gapShed s).shed = s.shed ∧ (gapShed s).alarms = s.alarms ∧
    (gapShed s).port = s.port ∧ (gapShed s).pending = s.pending := by
  simp [gapShed]

@[simp] theorem offLineShed_keeps (s : State) :
    (offLineShed s).clock = s.clock ∧ (offLineShed s).loader = s.loader ∧ (offLineShed s).supply = s.supply ∧
    (offLineShed s).poles = s.poles ∧ (offLineShed s).line = s.line ∧ (offLineShed s).shed = s.shed ∧
    (offLineShed s).alarms = s.alarms ∧ (offLineShed s).port = s.port ∧ (offLineShed s).pending = s.pending := by
  simp [offLineShed]

@[simp] theorem handAlarm_keeps (c : AlarmContent) (s : State) :
    (handAlarm c s).clock = s.clock ∧ (handAlarm c s).loader = s.loader ∧ (handAlarm c s).supply = s.supply ∧
    (handAlarm c s).poles = s.poles ∧ (handAlarm c s).peers = s.peers ∧ (handAlarm c s).share = s.share ∧
    (handAlarm c s).shed = s.shed ∧ (handAlarm c s).alarms = s.alarms ∧ (handAlarm c s).port = s.port ∧
    (handAlarm c s).pending = s.pending := by
  unfold handAlarm; split <;> simp

@[simp] theorem handGap_keeps (c : GapContent) (s : State) :
    (handGap c s).clock = s.clock ∧ (handGap c s).loader = s.loader ∧ (handGap c s).supply = s.supply ∧
    (handGap c s).poles = s.poles ∧ (handGap c s).peers = s.peers ∧ (handGap c s).share = s.share ∧
    (handGap c s).shed = s.shed ∧ (handGap c s).alarms = s.alarms ∧ (handGap c s).port = s.port ∧
    (handGap c s).pending = s.pending := by
  unfold handGap; split <;> simp

@[simp] theorem joinAck_keeps (c : AckContent) (s : State) :
    (joinAck c s).clock = s.clock ∧ (joinAck c s).loader = s.loader ∧ (joinAck c s).supply = s.supply ∧
    (joinAck c s).poles = s.poles ∧ (joinAck c s).peers = s.peers ∧ (joinAck c s).share = s.share ∧
    (joinAck c s).shed = s.shed ∧ (joinAck c s).alarms = s.alarms ∧ (joinAck c s).port = s.port ∧
    (joinAck c s).pending = s.pending := by
  exact ⟨rfl, rfl, rfl, rfl, rfl, rfl, rfl, rfl, rfl, rfl⟩

@[simp] theorem setView_keeps (v : View) (s : State) :
    (setView v s).clock = s.clock ∧ (setView v s).loader = s.loader ∧ (setView v s).poles = s.poles ∧
    (setView v s).line = s.line ∧ (setView v s).share = s.share ∧ (setView v s).shed = s.shed ∧
    (setView v s).alarms = s.alarms ∧ (setView v s).pending = s.pending := by
  simp [setView]

@[simp] theorem stopRestore_keeps (s : State) :
    (stopRestore s).clock = s.clock ∧ (stopRestore s).loader = s.loader ∧ (stopRestore s).supply = s.supply ∧
    (stopRestore s).poles = s.poles ∧ (stopRestore s).line = s.line ∧ (stopRestore s).peers = s.peers ∧
    (stopRestore s).share = s.share ∧ (stopRestore s).alarms = s.alarms ∧ (stopRestore s).port = s.port ∧
    (stopRestore s).pending = s.pending := by
  exact ⟨rfl, rfl, rfl, rfl, rfl, rfl, rfl, rfl, rfl, rfl⟩

@[simp] theorem enterGap_keeps (s : State) :
    (enterGap s).clock = s.clock ∧ (enterGap s).loader = s.loader ∧ (enterGap s).poles = s.poles ∧
    (enterGap s).line = s.line ∧ (enterGap s).alarms = s.alarms ∧ (enterGap s).pending = s.pending := by
  simp [enterGap]

@[simp] theorem enterOffLine_keeps (s : State) :
    (enterOffLine s).clock = s.clock ∧ (enterOffLine s).loader = s.loader ∧ (enterOffLine s).line = s.line ∧
    (enterOffLine s).alarms = s.alarms ∧ (enterOffLine s).pending = s.pending := by
  simp [enterOffLine]

@[simp] theorem enterRestoring_keeps (s : State) :
    (enterRestoring s).clock = s.clock ∧ (enterRestoring s).loader = s.loader ∧ (enterRestoring s).poles = s.poles ∧
    (enterRestoring s).line = s.line ∧ (enterRestoring s).share = s.share ∧ (enterRestoring s).alarms = s.alarms ∧
    (enterRestoring s).pending = s.pending := by
  unfold enterRestoring; dsimp only; split <;> simp

@[simp] theorem examineExit_keeps (s : State) :
    (examineExit s).clock = s.clock ∧ (examineExit s).loader = s.loader ∧ (examineExit s).poles = s.poles ∧
    (examineExit s).line = s.line ∧ (examineExit s).share = s.share ∧ (examineExit s).alarms = s.alarms ∧
    (examineExit s).pending = s.pending := by
  unfold examineExit; split <;> simp

@[simp] theorem releaseRecords_keeps (p : GapRecord → Bool) (s : State) :
    (releaseRecords p s).clock = s.clock ∧ (releaseRecords p s).loader = s.loader ∧ (releaseRecords p s).poles = s.poles ∧
    (releaseRecords p s).line = s.line ∧ (releaseRecords p s).share = s.share ∧ (releaseRecords p s).alarms = s.alarms ∧
    (releaseRecords p s).pending = s.pending := by
  unfold releaseRecords; split <;> [(dsimp only; split <;> simp); simp]

@[simp] theorem raise_fields (c : Cause) (s : State) :
    (raise c s).port.abandoned = s.port.abandoned ∧ (raise c s).port.request = s.port.request ∧
    (raise c s).port.held = s.port.held ∧ (raise c s).port.lost = s.port.lost ∧ (raise c s).port.shifted = s.port.shifted ∧
    (raise c s).port.postedDemand = s.port.postedDemand ∧ (raise c s).port.postedSource = s.port.postedSource ∧
    (raise c s).port.postedCap = s.port.postedCap ∧ (raise c s).port.sensorSource = s.port.sensorSource := by
  exact ⟨rfl, rfl, rfl, rfl, rfl, rfl, rfl, rfl, rfl⟩

@[simp] theorem raiseSensor_fields (src : SensorSource) (s : State) :
    (raiseSensor src s).port.abandoned = s.port.abandoned ∧ (raiseSensor src s).port.request = s.port.request ∧
    (raiseSensor src s).port.held = s.port.held ∧ (raiseSensor src s).port.lost = s.port.lost ∧
    (raiseSensor src s).port.shifted = s.port.shifted ∧
    (raiseSensor src s).port.postedDemand = s.port.postedDemand ∧
    (raiseSensor src s).port.postedSource = s.port.postedSource ∧ (raiseSensor src s).port.postedCap = s.port.postedCap := by
  unfold raiseSensor raiseSensorIn; split <;> simp [raiseIn]

@[simp] theorem setGrant_fields (g : Nat) (s : State) :
    (setGrant g s).share.boundaryAt = s.share.boundaryAt ∧ (setGrant g s).share.boundaries = s.share.boundaries ∧
    (setGrant g s).share.target = s.share.target ∧ (setGrant g s).share.budget = s.share.budget ∧
    (setGrant g s).share.demand = s.share.demand ∧ (setGrant g s).share.discharge = s.share.discharge ∧
    (setGrant g s).share.cap = s.share.cap ∧ (setGrant g s).share.limitElapsed = s.share.limitElapsed ∧
    (setGrant g s).share.ceiling = s.share.ceiling ∧ (setGrant g s).share.floor = s.share.floor := by
  exact ⟨rfl, rfl, rfl, rfl, rfl, rfl, rfl, rfl, rfl, rfl⟩

@[simp] theorem lowerGrant_fields (b : Nat) (s : State) :
    (lowerGrant b s).share.boundaryAt = s.share.boundaryAt ∧ (lowerGrant b s).share.boundaries = s.share.boundaries ∧
    (lowerGrant b s).share.target = s.share.target ∧ (lowerGrant b s).share.budget = s.share.budget ∧
    (lowerGrant b s).share.demand = s.share.demand ∧ (lowerGrant b s).share.discharge = s.share.discharge ∧
    (lowerGrant b s).share.cap = s.share.cap ∧ (lowerGrant b s).share.limitElapsed = s.share.limitElapsed ∧
    (lowerGrant b s).share.ceiling = s.share.ceiling ∧ (lowerGrant b s).share.floor = s.share.floor := by
  simp [lowerGrant]

@[simp] theorem floorHold_fields (s : State) :
    (floorHold s).share.boundaryAt = s.share.boundaryAt ∧ (floorHold s).share.boundaries = s.share.boundaries ∧
    (floorHold s).share.target = s.share.target ∧ (floorHold s).share.budget = s.share.budget ∧
    (floorHold s).share.demand = s.share.demand ∧ (floorHold s).share.discharge = s.share.discharge ∧
    (floorHold s).share.cap = s.share.cap ∧ (floorHold s).share.limitElapsed = s.share.limitElapsed ∧
    (floorHold s).share.ceiling = s.share.ceiling ∧ (floorHold s).share.floor = s.share.floor := by
  simp [floorHold]

@[simp] theorem gapShed_fields (s : State) :
    (gapShed s).share.boundaryAt = s.share.boundaryAt ∧ (gapShed s).share.boundaries = s.share.boundaries ∧
    (gapShed s).share.target = s.share.target ∧ (gapShed s).share.budget = s.share.budget ∧
    (gapShed s).share.demand = s.share.demand ∧ (gapShed s).share.discharge = s.share.discharge ∧
    (gapShed s).share.cap = s.share.cap ∧ (gapShed s).share.limitElapsed = s.share.limitElapsed ∧
    (gapShed s).share.ceiling = s.share.ceiling ∧ (gapShed s).share.floor = s.share.floor := by
  simp [gapShed]

@[simp] theorem offLineShed_fields (s : State) :
    (offLineShed s).share.boundaryAt = s.share.boundaryAt ∧ (offLineShed s).share.boundaries = s.share.boundaries ∧
    (offLineShed s).share.target = s.share.target ∧ (offLineShed s).share.budget = s.share.budget ∧
    (offLineShed s).share.demand = s.share.demand ∧ (offLineShed s).share.discharge = s.share.discharge ∧
    (offLineShed s).share.cap = s.share.cap ∧ (offLineShed s).share.limitElapsed = s.share.limitElapsed := by
  simp [offLineShed, setCeilings, settleLimit]

@[simp] theorem handAlarm_fields (c : AlarmContent) (s : State) :
    (handAlarm c s).line.rx = s.line.rx ∧ (handAlarm c s).line.idle = s.line.idle ∧
    (handAlarm c s).line.attempt = s.line.attempt ∧
    (handAlarm c s).line.sentAt = s.line.sentAt ∧ (handAlarm c s).line.stateWaiting = s.line.stateWaiting ∧
    (handAlarm c s).line.gapPart = s.line.gapPart ∧ (handAlarm c s).line.gapPairing = s.line.gapPairing ∧
    (handAlarm c s).line.ackPart = s.line.ackPart ∧ (handAlarm c s).line.tec = s.line.tec ∧
    (handAlarm c s).line.recv = s.line.recv ∧ (handAlarm c s).line.seq = s.line.seq ∧
    (handAlarm c s).line.statesSent = s.line.statesSent ∧ (handAlarm c s).line.suspendedAt = s.line.suspendedAt ∧
    (handAlarm c s).line.stateFirst = s.line.stateFirst := by
  unfold handAlarm; split <;> simp

@[simp] theorem handGap_fields (c : GapContent) (s : State) :
    (handGap c s).line.rx = s.line.rx ∧ (handGap c s).line.idle = s.line.idle ∧
    (handGap c s).line.attempt = s.line.attempt ∧
    (handGap c s).line.sentAt = s.line.sentAt ∧ (handGap c s).line.stateWaiting = s.line.stateWaiting ∧
    (handGap c s).line.alarmPart = s.line.alarmPart ∧ (handGap c s).line.ackPart = s.line.ackPart ∧
    (handGap c s).line.tec = s.line.tec ∧ (handGap c s).line.recv = s.line.recv ∧ (handGap c s).line.seq = s.line.seq ∧
    (handGap c s).line.statesSent = s.line.statesSent ∧ (handGap c s).line.suspendedAt = s.line.suspendedAt ∧
    (handGap c s).line.stateFirst = s.line.stateFirst := by
  unfold handGap; split
  · unfold joinGap; split
    · simp
    · split
      · split <;> simp
      · simp
  · simp

@[simp] theorem joinAck_fields (c : AckContent) (s : State) :
    (joinAck c s).line.rx = s.line.rx ∧ (joinAck c s).line.idle = s.line.idle ∧
    (joinAck c s).line.attempt = s.line.attempt ∧
    (joinAck c s).line.sentAt = s.line.sentAt ∧ (joinAck c s).line.stateWaiting = s.line.stateWaiting ∧
    (joinAck c s).line.gapPart = s.line.gapPart ∧ (joinAck c s).line.gapPairing = s.line.gapPairing ∧
    (joinAck c s).line.alarmPart = s.line.alarmPart ∧ (joinAck c s).line.tec = s.line.tec ∧
    (joinAck c s).line.recv = s.line.recv ∧ (joinAck c s).line.seq = s.line.seq ∧
    (joinAck c s).line.statesSent = s.line.statesSent ∧ (joinAck c s).line.suspendedAt = s.line.suspendedAt ∧
    (joinAck c s).line.stateFirst = s.line.stateFirst := by
  exact ⟨rfl, rfl, rfl, rfl, rfl, rfl, rfl, rfl, rfl, rfl, rfl, rfl, rfl, rfl⟩

@[simp] theorem setView_fields (v : View) (s : State) :
    (setView v s).supply.count = s.supply.count ∧ (setView v s).supply.windowStart = s.supply.windowStart ∧
    (setView v s).supply.volts = s.supply.volts ∧ (setView v s).supply.run = s.supply.run ∧
    (setView v s).supply.voltageOk = s.supply.voltageOk ∧ (setView v s).supply.hadPulses = s.supply.hadPulses ∧
    (setView v s).supply.records = s.supply.records ∧ (setView v s).port.abandoned = s.port.abandoned ∧
    (setView v s).port.request = s.port.request ∧ (setView v s).port.held = s.port.held ∧ (setView v s).port.lost = s.port.lost ∧
    (setView v s).port.shifted = s.port.shifted ∧ (setView v s).port.postedDemand = s.port.postedDemand ∧
    (setView v s).port.postedSource = s.port.postedSource ∧ (setView v s).port.postedCap = s.port.postedCap ∧
    (setView v s).port.sensorSource = s.port.sensorSource := by
  simp [setView]

@[simp] theorem stopRestore_fields (s : State) :
    (stopRestore s).shed.demandSilence = s.shed.demandSilence ∧
    (stopRestore s).shed.demandTimedOut = s.shed.demandTimedOut ∧
    (stopRestore s).shed.sourceSilence = s.shed.sourceSilence ∧
    (stopRestore s).shed.sourceTimedOut = s.shed.sourceTimedOut ∧ (stopRestore s).shed.demandTaken = s.shed.demandTaken ∧
    (stopRestore s).shed.sourceTaken = s.shed.sourceTaken := by
  exact ⟨rfl, rfl, rfl, rfl, rfl, rfl⟩

@[simp] theorem enterGap_fields (s : State) :
    (enterGap s).supply.count = s.supply.count ∧ (enterGap s).supply.windowStart = s.supply.windowStart ∧
    (enterGap s).supply.volts = s.supply.volts ∧ (enterGap s).supply.run = s.supply.run ∧
    (enterGap s).supply.voltageOk = s.supply.voltageOk ∧ (enterGap s).supply.hadPulses = s.supply.hadPulses ∧
    (enterGap s).supply.records = s.supply.records ∧ (enterGap s).port.abandoned = s.port.abandoned ∧
    (enterGap s).port.request = s.port.request ∧ (enterGap s).port.held = s.port.held ∧ (enterGap s).port.lost = s.port.lost ∧
    (enterGap s).port.shifted = s.port.shifted ∧ (enterGap s).port.postedDemand = s.port.postedDemand ∧
    (enterGap s).port.postedSource = s.port.postedSource ∧ (enterGap s).port.postedCap = s.port.postedCap ∧
    (enterGap s).port.sensorSource = s.port.sensorSource ∧ (enterGap s).shed.demandSilence = s.shed.demandSilence ∧
    (enterGap s).shed.demandTimedOut = s.shed.demandTimedOut ∧ (enterGap s).shed.sourceSilence = s.shed.sourceSilence ∧
    (enterGap s).shed.sourceTimedOut = s.shed.sourceTimedOut ∧ (enterGap s).shed.demandTaken = s.shed.demandTaken ∧
    (enterGap s).shed.sourceTaken = s.shed.sourceTaken ∧ (enterGap s).share.boundaryAt = s.share.boundaryAt ∧
    (enterGap s).share.boundaries = s.share.boundaries ∧ (enterGap s).share.target = s.share.target ∧
    (enterGap s).share.budget = s.share.budget ∧ (enterGap s).share.demand = s.share.demand ∧
    (enterGap s).share.discharge = s.share.discharge ∧ (enterGap s).share.cap = s.share.cap ∧
    (enterGap s).share.limitElapsed = s.share.limitElapsed ∧ (enterGap s).share.ceiling = s.share.ceiling ∧
    (enterGap s).share.floor = s.share.floor := by
  simp [enterGap]

@[simp] theorem enterOffLine_fields (s : State) :
    (enterOffLine s).supply.count = s.supply.count ∧ (enterOffLine s).supply.windowStart = s.supply.windowStart ∧
    (enterOffLine s).supply.volts = s.supply.volts ∧ (enterOffLine s).supply.run = s.supply.run ∧
    (enterOffLine s).supply.voltageOk = s.supply.voltageOk ∧ (enterOffLine s).supply.hadPulses = s.supply.hadPulses ∧
    (enterOffLine s).port.abandoned = s.port.abandoned ∧ (enterOffLine s).port.request = s.port.request ∧
    (enterOffLine s).port.held = s.port.held ∧ (enterOffLine s).port.lost = s.port.lost ∧
    (enterOffLine s).port.shifted = s.port.shifted ∧
    (enterOffLine s).port.postedDemand = s.port.postedDemand ∧ (enterOffLine s).port.postedSource = s.port.postedSource ∧
    (enterOffLine s).port.postedCap = s.port.postedCap ∧ (enterOffLine s).port.sensorSource = s.port.sensorSource ∧
    (enterOffLine s).poles.p = s.poles.p ∧ (enterOffLine s).poles.n = s.poles.n ∧
    (enterOffLine s).poles.dewire = s.poles.dewire ∧ (enterOffLine s).poles.retrieveFail = s.poles.retrieveFail ∧
    (enterOffLine s).poles.lineDead = s.poles.lineDead ∧ (enterOffLine s).poles.gapSerial = s.poles.gapSerial ∧
    (enterOffLine s).poles.calStart = s.poles.calStart ∧ (enterOffLine s).shed.demandSilence = s.shed.demandSilence ∧
    (enterOffLine s).shed.demandTimedOut = s.shed.demandTimedOut ∧
    (enterOffLine s).shed.sourceSilence = s.shed.sourceSilence ∧
    (enterOffLine s).shed.sourceTimedOut = s.shed.sourceTimedOut ∧ (enterOffLine s).shed.demandTaken = s.shed.demandTaken ∧
    (enterOffLine s).shed.sourceTaken = s.shed.sourceTaken ∧ (enterOffLine s).share.boundaryAt = s.share.boundaryAt ∧
    (enterOffLine s).share.boundaries = s.share.boundaries ∧ (enterOffLine s).share.target = s.share.target ∧
    (enterOffLine s).share.budget = s.share.budget ∧ (enterOffLine s).share.demand = s.share.demand ∧
    (enterOffLine s).share.discharge = s.share.discharge ∧ (enterOffLine s).share.cap = s.share.cap ∧
    (enterOffLine s).share.limitElapsed = s.share.limitElapsed := by
  simp [enterOffLine]

@[simp] theorem enterRestoring_fields (s : State) :
    (enterRestoring s).supply.count = s.supply.count ∧ (enterRestoring s).supply.windowStart = s.supply.windowStart ∧
    (enterRestoring s).supply.volts = s.supply.volts ∧ (enterRestoring s).supply.run = s.supply.run ∧
    (enterRestoring s).supply.voltageOk = s.supply.voltageOk ∧ (enterRestoring s).supply.hadPulses = s.supply.hadPulses ∧
    (enterRestoring s).supply.records = s.supply.records ∧ (enterRestoring s).port.abandoned = s.port.abandoned ∧
    (enterRestoring s).port.request = s.port.request ∧ (enterRestoring s).port.held = s.port.held ∧
    (enterRestoring s).port.lost = s.port.lost ∧
    (enterRestoring s).port.shifted = s.port.shifted ∧ (enterRestoring s).port.postedDemand = s.port.postedDemand ∧
    (enterRestoring s).port.postedSource = s.port.postedSource ∧ (enterRestoring s).port.postedCap = s.port.postedCap ∧
    (enterRestoring s).port.sensorSource = s.port.sensorSource ∧
    (enterRestoring s).shed.demandSilence = s.shed.demandSilence ∧
    (enterRestoring s).shed.demandTimedOut = s.shed.demandTimedOut ∧
    (enterRestoring s).shed.sourceSilence = s.shed.sourceSilence ∧
    (enterRestoring s).shed.sourceTimedOut = s.shed.sourceTimedOut ∧
    (enterRestoring s).shed.demandTaken = s.shed.demandTaken ∧ (enterRestoring s).shed.sourceTaken = s.shed.sourceTaken := by
  unfold enterRestoring; dsimp only; split <;> simp

@[simp] theorem examineExit_fields (s : State) :
    (examineExit s).supply.count = s.supply.count ∧ (examineExit s).supply.windowStart = s.supply.windowStart ∧
    (examineExit s).supply.volts = s.supply.volts ∧ (examineExit s).supply.run = s.supply.run ∧
    (examineExit s).supply.voltageOk = s.supply.voltageOk ∧ (examineExit s).supply.hadPulses = s.supply.hadPulses ∧
    (examineExit s).supply.records = s.supply.records ∧ (examineExit s).port.abandoned = s.port.abandoned ∧
    (examineExit s).port.request = s.port.request ∧ (examineExit s).port.held = s.port.held ∧
    (examineExit s).port.lost = s.port.lost ∧
    (examineExit s).port.shifted = s.port.shifted ∧ (examineExit s).port.postedDemand = s.port.postedDemand ∧
    (examineExit s).port.postedSource = s.port.postedSource ∧ (examineExit s).port.postedCap = s.port.postedCap ∧
    (examineExit s).port.sensorSource = s.port.sensorSource ∧ (examineExit s).shed.demandSilence = s.shed.demandSilence ∧
    (examineExit s).shed.demandTimedOut = s.shed.demandTimedOut ∧
    (examineExit s).shed.sourceSilence = s.shed.sourceSilence ∧
    (examineExit s).shed.sourceTimedOut = s.shed.sourceTimedOut ∧ (examineExit s).shed.demandTaken = s.shed.demandTaken ∧
    (examineExit s).shed.sourceTaken = s.shed.sourceTaken := by
  unfold examineExit; split <;> simp

@[simp] theorem releaseRecords_fields (p : GapRecord → Bool) (s : State) :
    (releaseRecords p s).supply.count = s.supply.count ∧ (releaseRecords p s).supply.windowStart = s.supply.windowStart ∧
    (releaseRecords p s).supply.volts = s.supply.volts ∧ (releaseRecords p s).supply.run = s.supply.run ∧
    (releaseRecords p s).supply.voltageOk = s.supply.voltageOk ∧
    (releaseRecords p s).supply.hadPulses = s.supply.hadPulses ∧ (releaseRecords p s).port.abandoned = s.port.abandoned ∧
    (releaseRecords p s).port.request = s.port.request ∧ (releaseRecords p s).port.held = s.port.held ∧
    (releaseRecords p s).port.lost = s.port.lost ∧
    (releaseRecords p s).port.shifted = s.port.shifted ∧ (releaseRecords p s).port.postedDemand = s.port.postedDemand ∧
    (releaseRecords p s).port.postedSource = s.port.postedSource ∧ (releaseRecords p s).port.postedCap = s.port.postedCap ∧
    (releaseRecords p s).port.sensorSource = s.port.sensorSource ∧
    (releaseRecords p s).shed.demandSilence = s.shed.demandSilence ∧
    (releaseRecords p s).shed.demandTimedOut = s.shed.demandTimedOut ∧
    (releaseRecords p s).shed.sourceSilence = s.shed.sourceSilence ∧
    (releaseRecords p s).shed.sourceTimedOut = s.shed.sourceTimedOut ∧
    (releaseRecords p s).shed.demandTaken = s.shed.demandTaken ∧ (releaseRecords p s).shed.sourceTaken = s.shed.sourceTaken := by
  unfold releaseRecords; split <;> [(dsimp only; split <;> simp); simp]


end Sys2Proof.Machine
end

