-- ==== Sys2Proof/Laws/View.lean ====
section
/-!
SUPPORT. What the shared operations of Machine/Flags.lean and Machine/Ops.lean do: the attention set, the own entry, the grant in
force, the notice queue, and the supply view. One lemma says all that an operation can do.
-/
namespace Sys2Proof.Machine

/-! ### Attention -/

theorem causeNumber_inj {c d : Cause} (h : causeNumber c = causeNumber d) : c = d := by
  cases c <;> cases d <;> first | rfl | exact absurd h (by decide)

@[simp] theorem isPending_raiseIn (p : Port) (c d : Cause) : isPending (raiseIn p c) d = (isPending p d || d == c) := by
  cases c <;> cases d <;> simp [isPending, raiseIn, causeBit, causeNumber]

@[simp] theorem isPending_clearIn (p : Port) (c d : Cause) : isPending (clearIn p c) d = (isPending p d && d != c) := by
  cases c <;> cases d <;> simp [isPending, clearIn, causeBit, causeNumber]

@[simp] theorem raiseIn_fields (p : Port) (c : Cause) :
    (raiseIn p c).abandoned = p.abandoned ∧ (raiseIn p c).request = p.request ∧ (raiseIn p c).held = p.held ∧ (raiseIn p c).lost = p.lost ∧
    (raiseIn p c).shifted = p.shifted ∧ (raiseIn p c).postedDemand = p.postedDemand ∧
    (raiseIn p c).postedSource = p.postedSource ∧ (raiseIn p c).postedCap = p.postedCap ∧
    (raiseIn p c).sensorSource = p.sensorSource := ⟨rfl, rfl, rfl, rfl, rfl, rfl, rfl, rfl, rfl⟩

@[simp] theorem raiseSensorIn_fields (p : Port) (src : SensorSource) :
    (raiseSensorIn p src).abandoned = p.abandoned ∧ (raiseSensorIn p src).request = p.request ∧
    (raiseSensorIn p src).held = p.held ∧ (raiseSensorIn p src).lost = p.lost ∧ (raiseSensorIn p src).shifted = p.shifted ∧
    (raiseSensorIn p src).postedDemand = p.postedDemand ∧ (raiseSensorIn p src).postedSource = p.postedSource ∧
    (raiseSensorIn p src).postedCap = p.postedCap := by
  unfold raiseSensorIn
  split <;> simp

@[simp] theorem raise_port (c : Cause) (s : State) : (raise c s).port = raiseIn s.port c := rfl

@[simp] theorem isPending_raiseSensorIn (p : Port) (src : SensorSource) (d : Cause) :
    isPending (raiseSensorIn p src) d = (isPending p d || d == .sensorFault) := by
  unfold raiseSensorIn
  split
  · cases d <;> simp_all
  · exact isPending_raiseIn p .sensorFault d

@[simp] theorem raiseSensor_port (src : SensorSource) (s : State) : (raiseSensor src s).port = raiseSensorIn s.port src := rfl

/-! ### What depends on the loader alone -/

theorem record_of_loader {s t : State} (h : t.loader = s.loader) : record t = record s := by simp [record, h]

theorem isCol_of_loader {s t : State} (h : t.loader = s.loader) : isCol t = isCol s := by simp [isCol, record_of_loader h]

theorem isBat_of_loader {s t : State} (h : t.loader = s.loader) : isBat t = isBat s := by simp [isBat, record_of_loader h]

theorem isLive_of_loader {s t : State} (h : t.loader = s.loader) : isLive t = isLive s := by simp [isLive, h]

theorem isSilenced_of_loader {s t : State} (h : t.loader = s.loader) : isSilenced t = isSilenced s := by simp [isSilenced, h]

theorem acceptsNotices_of_loader {s t : State} (h : t.loader = s.loader) : acceptsNotices t = acceptsNotices s := by
  simp [acceptsNotices, h]

theorem inReset_of_loader {s t : State} (h : t.loader = s.loader) : inReset t = inReset s := by simp [inReset, h]

/-! ### Time -/

theorem now_of_clock {s t : State} (h : t.clock = s.clock) : now t = now s := by simp [now, h]

theorem reached_of {a b : StationTime} {d : Nat} (h : d ≤ (a - b).toNat) : reached a b d = true := decide_eq_true h

theorem expired_of {a b : StationTime} {d : Nat} {o : Option StationTime} (e : o = some b) (h : d ≤ (a - b).toNat) :
    expired a o d = true := by
  subst e; exact reached_of h

/-- Time moves the PWM period's count and nothing else of the Share Engine. -/
@[simp] theorem advance_share (dt : Nat) (s : State) :
    (advance dt s).share = { s.share with limitElapsed := s.share.limitElapsed.map (· + dt) } := rfl

/-- A command outside a held reset is its effect after the time before it. -/
theorem perform_working (dt : Nat) (f : State → State) {s : State} (h : inReset s = false) :
    perform dt f s = .next (f (advance dt s)) := by simp [perform, h]

/-! ### The Peer Table -/

@[simp] theorem mapOwn_peers (f : StateFields → StateFields) (s : State) :
    (mapOwn f s).peers = mapPeer s.loader.station f s.peers := rfl

@[simp] theorem mapPeer_mapPeer (n : Station) (f g : StateFields → StateFields) (ps : List Peer) :
    mapPeer n f (mapPeer n g ps) = mapPeer n (f ∘ g) ps := by
  unfold mapPeer
  rw [List.map_map]
  refine List.map_congr_left fun e _ => ?_
  by_cases h : e.station = n <;> simp [h]

@[simp] theorem mapPeer_stations (n : Station) (f : StateFields → StateFields) (ps : List Peer) :
    (mapPeer n f ps).map (·.station) = ps.map (·.station) := by
  unfold mapPeer
  rw [List.map_map]
  refine List.map_congr_left fun e _ => ?_
  by_cases h : e.station = n <;> simp [h]

@[simp] theorem mapPeer_nil (n : Station) (f : StateFields → StateFields) : mapPeer n f [] = [] := rfl

/-- Another station's entry is found as it was; the station's own is found with its fields changed. -/
theorem find_mapPeer (n m : Station) (f : StateFields → StateFields) (ps : List Peer) :
    (mapPeer n f ps).find? (fun e => e.station == m) =
      (ps.find? fun e => e.station == m).map fun e => if e.station = n then { e with fields := f e.fields } else e := by
  unfold mapPeer
  rw [List.find?_map]
  congr 1
  congr 1
  funext e
  by_cases h : e.station = n <;> simp [h]

/-! ### The grant in force -/

@[simp] theorem setGrant_share (g : Nat) (s : State) :
    (setGrant g s).share.grant = g ∧ (setGrant g s).share.pendingGrant = s.share.pendingGrant := ⟨rfl, rfl⟩

@[simp] theorem setGrant_peers (g : Nat) (s : State) :
    (setGrant g s).peers = mapPeer s.loader.station (fun f => { f with grant := g }) s.peers := rfl

@[simp] theorem lowerGrant_share (b : Nat) (s : State) :
    (lowerGrant b s).share.grant = min s.share.grant b ∧ (lowerGrant b s).share.pendingGrant = none := ⟨rfl, rfl⟩

@[simp] theorem lowerGrant_peers (b : Nat) (s : State) :
    (lowerGrant b s).peers = mapPeer s.loader.station (fun f => { f with grant := min s.share.grant b }) s.peers := rfl

@[simp] theorem floorHold_share (s : State) :
    (floorHold s).share.grant = min s.share.grant s.share.floor ∧ (floorHold s).share.pendingGrant = none := ⟨rfl, rfl⟩

@[simp] theorem floorHold_peers (s : State) :
    (floorHold s).peers = mapPeer s.loader.station (fun f => { f with grant := min s.share.grant s.share.floor }) s.peers := rfl

/-- What the GAP shed leaves of the grant (R105). -/
def gapGrant (s : State) : Nat := min s.share.grant (if (record s).cls = 0 then s.share.floor else 0)

@[simp] theorem gapShed_share (s : State) :
    (gapShed s).share.grant = gapGrant s ∧ (gapShed s).share.pendingGrant = none := ⟨rfl, rfl⟩

@[simp] theorem gapShed_peers (s : State) :
    (gapShed s).peers = mapPeer s.loader.station (fun f => { f with grant := gapGrant s }) s.peers := rfl

/-- The off-wire ceiling and floor (R89, R106). -/
def offWire (s : State) : Nat × Nat :=
  (min (record s).offWireCeiling s.share.cap, min (record s).cfgFloor (min (record s).offWireCeiling s.share.cap))

@[simp] theorem offLineShed_share (s : State) :
    (offLineShed s).share.grant = min s.share.grant (offWire s).2 ∧ (offLineShed s).share.pendingGrant = none
      ∧ (offLineShed s).share.ceiling = (offWire s).1 ∧ (offLineShed s).share.floor = (offWire s).2 := ⟨rfl, rfl, rfl, rfl⟩

@[simp] theorem offLineShed_peers (s : State) :
    (offLineShed s).peers = mapPeer s.loader.station
      (fun f => { f with floor := (offWire s).2, ceiling := (offWire s).1, grant := min s.share.grant (offWire s).2 }) s.peers := by
  simp only [offLineShed, lowerGrant_peers, mapOwn_peers, mapOwn_keeps, State.withShare_loader, State.withShare_peers,
    State.withShare_share, mapPeer_mapPeer]
  rfl

/-! ### The supply view -/

@[simp] theorem setView_supply (v : View) (s : State) : (setView v s).supply = { s.supply with view := v } := rfl

@[simp] theorem setView_port (v : View) (s : State) : (setView v s).port = raiseIn s.port .supplyViewChanged := rfl

@[simp] theorem setView_peers (v : View) (s : State) :
    (setView v s).peers = mapPeer s.loader.station (fun f => { f with view := v }) s.peers := rfl

@[simp] theorem stopRestore_shed (s : State) : (stopRestore s).shed = { s.shed with restore := none } := rfl

/-- All that entry to GAP does (R14, R105). -/
theorem enterGap_spec (s : State) :
    (enterGap s).supply = { s.supply with view := .gap, gapStart := some (now s) }
      ∧ (enterGap s).port = raiseIn s.port .supplyViewChanged ∧ (enterGap s).shed = { s.shed with restore := none }
      ∧ (enterGap s).share.grant = gapGrant s ∧ (enterGap s).share.pendingGrant = none
      ∧ (enterGap s).peers = mapPeer s.loader.station (fun f => { f with view := .gap, grant := gapGrant s }) s.peers := by
  refine ⟨rfl, rfl, rfl, rfl, rfl, ?_⟩
  simp [enterGap]
  rfl

/-- All that entry to OFF_LINE does (R17, R44, R106). -/
theorem enterOffLine_spec (s : State) :
    (enterOffLine s).supply = { s.supply with view := .offLine, gapStart := none, records := [] }
      ∧ (enterOffLine s).port = raiseIn s.port .supplyViewChanged ∧ (enterOffLine s).shed = { s.shed with restore := none }
      ∧ (enterOffLine s).poles = { s.poles with openGap := none }
      ∧ (enterOffLine s).share.grant = min s.share.grant (offWire s).2 ∧ (enterOffLine s).share.pendingGrant = none
      ∧ (enterOffLine s).share.ceiling = (offWire s).1 ∧ (enterOffLine s).share.floor = (offWire s).2
      ∧ (enterOffLine s).peers = mapPeer s.loader.station
          (fun f => { f with
            view := .offLine, floor := (offWire s).2, ceiling := (offWire s).1, grant := min s.share.grant (offWire s).2 })
          s.peers := by
  refine ⟨rfl, rfl, rfl, rfl, rfl, rfl, rfl, rfl, ?_⟩
  simp [enterOffLine]
  rfl

/-- All that entry to RESTORING does: the delay starts, or with none the view is ON_LINE (R19, R110). -/
theorem enterRestoring_spec (s : State) :
    (restoreRank s * (record s).slotLength = 0 ∧ (enterRestoring s).supply = { s.supply with view := .onLine, gapStart := none }
        ∧ (enterRestoring s).shed = { s.shed with restore := none }
        ∧ (enterRestoring s).peers = mapPeer s.loader.station (fun f => { f with view := .onLine }) s.peers
      ∨ restoreRank s * (record s).slotLength ≠ 0
        ∧ (enterRestoring s).supply = { s.supply with view := .restoring, gapStart := none }
        ∧ (enterRestoring s).shed =
            { s.shed with restore := some ⟨now s, restoreRank s, restoreRank s * (record s).slotLength⟩ }
        ∧ (enterRestoring s).peers = mapPeer s.loader.station (fun f => { f with view := .restoring }) s.peers)
    ∧ (enterRestoring s).port = raiseIn s.port .supplyViewChanged := by
  unfold enterRestoring
  dsimp only
  by_cases h : restoreRank s * (record s).slotLength = 0
  · refine ⟨.inl ⟨h, ?_⟩, ?_⟩
    · rw [if_pos h]
      refine ⟨rfl, rfl, ?_⟩
      simp
      rfl
    · rw [if_pos h]
      show raiseIn (raiseIn _ _) _ = _
      simp [raiseIn, BitVec.or_assoc]
  · refine ⟨.inr ⟨h, ?_⟩, ?_⟩
    · rw [if_neg h]
      exact ⟨rfl, rfl, rfl⟩
    · rw [if_neg h]
      rfl

/-- The exit examined: nothing, or entry to RESTORING from GAP or OFF_LINE with voltage ok, no record and no supply alarm. -/
theorem examineExit_cases (s : State) :
    examineExit s = s ∨
      ((s.supply.view = .gap ∨ s.supply.view = .offLine) ∧ s.supply.voltageOk = true ∧ s.supply.records = []
        ∧ holdsSupplyAlarm s.alarms.table = false ∧ examineExit s = enterRestoring s) := by
  unfold examineExit
  split
  · next h =>
    right
    simpa [exitHolds, and_assoc] using h
  · exact .inl rfl

/-- Without voltage ok, or with a supply alarm held, the exit is not taken. -/
theorem examineExit_stays {s : State} (h : s.supply.voltageOk = false ∨ holdsSupplyAlarm s.alarms.table = true) :
    examineExit s = s := by
  rcases examineExit_cases s with e | ⟨-, h1, -, h2, -⟩
  · exact e
  · rcases h with h | h <;> simp_all

/-- The records released: the set loses those that satisfy `p`; if that empties it, the exit is examined. -/
theorem releaseRecords_cases (p : GapRecord → Bool) (s : State) :
    ((∀ r ∈ s.supply.records, p r = false) ∧ releaseRecords p s = s)
      ∨ ∃ t, t = s.withSupply { s.supply with records := s.supply.records.filter fun x => !p x }
          ∧ (releaseRecords p s = t ∨ releaseRecords p s = examineExit t) := by
  unfold releaseRecords
  split
  · right
    refine ⟨_, rfl, ?_⟩
    dsimp only
    split
    · exact .inr rfl
    · exact .inl rfl
  · next h =>
    left
    exact ⟨by simpa using h, rfl⟩

/-! ### The notice queue -/

@[simp] theorem joinAck_line (c : AckContent) (s : State) :
    (joinAck c s).line = { s.line with ackPart := s.line.ackPart ++ [⟨c, 0, false, false⟩] } := rfl

/-- The ALARM part takes a hand-off within its four places (R61). -/
theorem joinAlarm_length (c : AlarmContent) (part : List (Notice AlarmContent)) (h : part.length ≤ 4) :
    (joinAlarm c part).length ≤ 4 := by
  have drop : ∀ l : List (Notice AlarmContent), l.any isClosedNotice = true →
      (dropFirst isClosedNotice l).length + 1 = l.length := by
    intro l
    induction l with
    | nil => intro h; simp at h
    | cons x l ih =>
      intro h
      unfold dropFirst
      split
      · rfl
      · next hx =>
        have := ih (by simpa [hx] using h)
        simp [this]
  unfold joinAlarm
  split
  · simpa using h
  · rw [List.length_append]
    unfold makeAlarmRoom
    split
    · next h4 => simp; omega
    · split
      · next hc => have := drop part hc; simp; omega
      · simp; omega

end Sys2Proof.Machine
end

