-- ==== Sys2Proof/Laws/Alarm.lean ====
section
/-!
SUPPORT. The operations of Machine/Alarm.lean: which blocks of the state each leaves as they stand.
-/
namespace Sys2Proof.Machine

@[simp] theorem mapAlarm_keeps (o : Station) (n : Byte) (f : AlarmEntry → AlarmEntry) (s : State) :
    (mapAlarm o n f s).clock = s.clock ∧ (mapAlarm o n f s).loader = s.loader ∧ (mapAlarm o n f s).supply = s.supply ∧
    (mapAlarm o n f s).poles = s.poles ∧ (mapAlarm o n f s).line = s.line ∧ (mapAlarm o n f s).peers = s.peers ∧
    (mapAlarm o n f s).share = s.share ∧ (mapAlarm o n f s).shed = s.shed ∧ (mapAlarm o n f s).port = s.port ∧
    (mapAlarm o n f s).pending = s.pending := by
  exact ⟨rfl, rfl, rfl, rfl, rfl, rfl, rfl, rfl, rfl, rfl⟩

@[simp] theorem closeEntry_keeps (e : AlarmEntry) (r : CloseReason) (s : State) :
    (closeEntry e r s).clock = s.clock ∧ (closeEntry e r s).loader = s.loader ∧ (closeEntry e r s).supply = s.supply ∧
    (closeEntry e r s).poles = s.poles ∧ (closeEntry e r s).line = s.line ∧ (closeEntry e r s).peers = s.peers ∧
    (closeEntry e r s).share = s.share ∧ (closeEntry e r s).shed = s.shed ∧ (closeEntry e r s).port = s.port ∧
    (closeEntry e r s).pending = s.pending := by
  exact ⟨rfl, rfl, rfl, rfl, rfl, rfl, rfl, rfl, rfl, rfl⟩

@[simp] theorem soundBuzzer_keeps (s : State) :
    (soundBuzzer s).clock = s.clock ∧ (soundBuzzer s).loader = s.loader ∧ (soundBuzzer s).supply = s.supply ∧
    (soundBuzzer s).poles = s.poles ∧ (soundBuzzer s).line = s.line ∧ (soundBuzzer s).peers = s.peers ∧
    (soundBuzzer s).share = s.share ∧ (soundBuzzer s).shed = s.shed ∧ (soundBuzzer s).port = s.port ∧
    (soundBuzzer s).pending = s.pending := by
  unfold soundBuzzer; split <;> simp

@[simp] theorem settleLamp_keeps (s : State) :
    (settleLamp s).clock = s.clock ∧ (settleLamp s).loader = s.loader ∧ (settleLamp s).supply = s.supply ∧
    (settleLamp s).poles = s.poles ∧ (settleLamp s).line = s.line ∧ (settleLamp s).peers = s.peers ∧
    (settleLamp s).share = s.share ∧ (settleLamp s).shed = s.shed ∧ (settleLamp s).port = s.port ∧
    (settleLamp s).pending = s.pending := by
  unfold settleLamp; split <;> simp

@[simp] theorem settleBuzzer_keeps (before : List AlarmEntry) (s : State) :
    (settleBuzzer before s).clock = s.clock ∧ (settleBuzzer before s).loader = s.loader ∧
    (settleBuzzer before s).supply = s.supply ∧ (settleBuzzer before s).poles = s.poles ∧
    (settleBuzzer before s).line = s.line ∧ (settleBuzzer before s).peers = s.peers ∧
    (settleBuzzer before s).share = s.share ∧ (settleBuzzer before s).shed = s.shed ∧
    (settleBuzzer before s).port = s.port ∧ (settleBuzzer before s).pending = s.pending := by
  unfold settleBuzzer; split
  · split
    · simp
    · split <;> simp
  · simp

@[simp] theorem tellSupply_keeps (before : List AlarmEntry) (s : State) :
    (tellSupply before s).clock = s.clock ∧ (tellSupply before s).loader = s.loader ∧ (tellSupply before s).line = s.line ∧
    (tellSupply before s).alarms = s.alarms ∧ (tellSupply before s).pending = s.pending := by
  unfold tellSupply; split
  · split <;> simp
  · split <;> simp

@[simp] theorem endAlarmEvent_keeps (before : List AlarmEntry) (s : State) :
    (endAlarmEvent before s).clock = s.clock ∧ (endAlarmEvent before s).loader = s.loader ∧
    (endAlarmEvent before s).line = s.line ∧ (endAlarmEvent before s).pending = s.pending := by
  unfold endAlarmEvent; split <;> simp

@[simp] theorem addEntry_keeps (e : AlarmEntry) (s : State) :
    (addEntry e s).clock = s.clock ∧ (addEntry e s).loader = s.loader ∧ (addEntry e s).supply = s.supply ∧
    (addEntry e s).poles = s.poles ∧ (addEntry e s).line = s.line ∧ (addEntry e s).peers = s.peers ∧
    (addEntry e s).share = s.share ∧ (addEntry e s).shed = s.shed ∧ (addEntry e s).port = s.port ∧
    (addEntry e s).pending = s.pending := by
  unfold addEntry; dsimp only; split <;> simp

@[simp] theorem addHeard_keeps (e : AlarmEntry) (s : State) :
    (addHeard e s).clock = s.clock ∧ (addHeard e s).loader = s.loader ∧ (addHeard e s).supply = s.supply ∧
    (addHeard e s).poles = s.poles ∧ (addHeard e s).line = s.line ∧ (addHeard e s).peers = s.peers ∧
    (addHeard e s).share = s.share ∧ (addHeard e s).shed = s.shed ∧ (addHeard e s).port = s.port ∧
    (addHeard e s).pending = s.pending := by
  unfold addHeard; split
  · simp
  · split <;> simp

@[simp] theorem noticeFor_keeps (e : AlarmEntry) (p : NoticePhase) (s : State) :
    (noticeFor e p s).clock = s.clock ∧ (noticeFor e p s).loader = s.loader ∧ (noticeFor e p s).supply = s.supply ∧
    (noticeFor e p s).poles = s.poles ∧ (noticeFor e p s).peers = s.peers ∧ (noticeFor e p s).share = s.share ∧
    (noticeFor e p s).shed = s.shed ∧ (noticeFor e p s).alarms = s.alarms ∧ (noticeFor e p s).port = s.port ∧
    (noticeFor e p s).pending = s.pending := by
  simp [noticeFor]

@[simp] theorem closeOwn_keeps (e : AlarmEntry) (r : CloseReason) (s : State) :
    (closeOwn e r s).clock = s.clock ∧ (closeOwn e r s).loader = s.loader ∧ (closeOwn e r s).supply = s.supply ∧
    (closeOwn e r s).poles = s.poles ∧ (closeOwn e r s).peers = s.peers ∧ (closeOwn e r s).share = s.share ∧
    (closeOwn e r s).shed = s.shed ∧ (closeOwn e r s).port = s.port ∧ (closeOwn e r s).pending = s.pending := by
  simp [closeOwn]

@[simp] theorem changeOwn_keeps (e : AlarmEntry) (p : Phase) (ps : PoleSet) (s : State) :
    (changeOwn e p ps s).clock = s.clock ∧ (changeOwn e p ps s).loader = s.loader ∧
    (changeOwn e p ps s).supply = s.supply ∧ (changeOwn e p ps s).poles = s.poles ∧ (changeOwn e p ps s).peers = s.peers ∧
    (changeOwn e p ps s).share = s.share ∧ (changeOwn e p ps s).shed = s.shed ∧ (changeOwn e p ps s).port = s.port ∧
    (changeOwn e p ps s).pending = s.pending := by
  simp [changeOwn]

@[simp] theorem makeOwnRoom_keeps (s : State) :
    (makeOwnRoom s).clock = s.clock ∧ (makeOwnRoom s).loader = s.loader ∧ (makeOwnRoom s).supply = s.supply ∧
    (makeOwnRoom s).poles = s.poles ∧ (makeOwnRoom s).peers = s.peers ∧ (makeOwnRoom s).share = s.share ∧
    (makeOwnRoom s).shed = s.shed ∧ (makeOwnRoom s).port = s.port ∧ (makeOwnRoom s).pending = s.pending := by
  unfold makeOwnRoom; split
  · simp
  · split <;> simp

@[simp] theorem raiseOwn_keeps (k : AlarmKind) (ps : PoleSet) (s : State) :
    (raiseOwn k ps s).clock = s.clock ∧ (raiseOwn k ps s).loader = s.loader ∧ (raiseOwn k ps s).supply = s.supply ∧
    (raiseOwn k ps s).poles = s.poles ∧ (raiseOwn k ps s).peers = s.peers ∧ (raiseOwn k ps s).share = s.share ∧
    (raiseOwn k ps s).shed = s.shed ∧ (raiseOwn k ps s).port = s.port ∧ (raiseOwn k ps s).pending = s.pending := by
  simp [raiseOwn]

@[simp] theorem widenOwn_keeps (n : Byte) (s : State) :
    (widenOwn n s).clock = s.clock ∧ (widenOwn n s).loader = s.loader ∧ (widenOwn n s).supply = s.supply ∧
    (widenOwn n s).poles = s.poles ∧ (widenOwn n s).peers = s.peers ∧ (widenOwn n s).share = s.share ∧
    (widenOwn n s).shed = s.shed ∧ (widenOwn n s).port = s.port ∧ (widenOwn n s).pending = s.pending := by
  unfold widenOwn; split <;> simp

@[simp] theorem clearOwn_keeps (n : Byte) (s : State) :
    (clearOwn n s).clock = s.clock ∧ (clearOwn n s).loader = s.loader ∧ (clearOwn n s).supply = s.supply ∧
    (clearOwn n s).poles = s.poles ∧ (clearOwn n s).peers = s.peers ∧ (clearOwn n s).share = s.share ∧
    (clearOwn n s).shed = s.shed ∧ (clearOwn n s).port = s.port ∧ (clearOwn n s).pending = s.pending := by
  unfold clearOwn; split
  · simp
  · split <;> simp

@[simp] theorem ackOwn_keeps (n : Byte) (s : State) :
    (ackOwn n s).clock = s.clock ∧ (ackOwn n s).loader = s.loader ∧ (ackOwn n s).supply = s.supply ∧
    (ackOwn n s).poles = s.poles ∧ (ackOwn n s).peers = s.peers ∧ (ackOwn n s).share = s.share ∧
    (ackOwn n s).shed = s.shed ∧ (ackOwn n s).port = s.port ∧ (ackOwn n s).pending = s.pending := by
  unfold ackOwn; split
  · simp
  · split <;> simp

@[simp] theorem newNotice_keeps (src : Station) (c : AlarmContent) (s : State) :
    (newNotice src c s).clock = s.clock ∧ (newNotice src c s).loader = s.loader ∧ (newNotice src c s).supply = s.supply ∧
    (newNotice src c s).poles = s.poles ∧ (newNotice src c s).line = s.line ∧ (newNotice src c s).peers = s.peers ∧
    (newNotice src c s).share = s.share ∧ (newNotice src c s).shed = s.shed ∧ (newNotice src c s).port = s.port ∧
    (newNotice src c s).pending = s.pending := by
  unfold newNotice; split <;> simp

@[simp] theorem takeNotice_keeps (src : Station) (c : AlarmContent) (s : State) :
    (takeNotice src c s).clock = s.clock ∧ (takeNotice src c s).loader = s.loader ∧
    (takeNotice src c s).supply = s.supply ∧ (takeNotice src c s).poles = s.poles ∧ (takeNotice src c s).line = s.line ∧
    (takeNotice src c s).peers = s.peers ∧ (takeNotice src c s).share = s.share ∧ (takeNotice src c s).shed = s.shed ∧
    (takeNotice src c s).port = s.port ∧ (takeNotice src c s).pending = s.pending := by
  unfold takeNotice; split
  · simp
  · split
    · split <;> simp
    · simp

@[simp] theorem addItem_keeps (o : Station) (i : SummaryItem) (s : State) :
    (addItem o s i).clock = s.clock ∧ (addItem o s i).loader = s.loader ∧ (addItem o s i).supply = s.supply ∧
    (addItem o s i).poles = s.poles ∧ (addItem o s i).line = s.line ∧ (addItem o s i).peers = s.peers ∧
    (addItem o s i).share = s.share ∧ (addItem o s i).shed = s.shed ∧ (addItem o s i).port = s.port ∧
    (addItem o s i).pending = s.pending := by
  unfold addItem; split <;> simp

/-- A fold of steps that each leave something as it stands leaves it as it stands. -/
theorem foldl_keeps {α β : Type} (f : State → α → State) (v : State → β) (h : ∀ s a, v (f s a) = v s) (l : List α) (s : State) :
    v (l.foldl f s) = v s := by
  induction l generalizing s with
  | nil => rfl
  | cons a l ih => simp [ih, h]

@[simp] theorem closeMissing_keeps (o : Station) (items : List SummaryItem) (r : CloseReason) (s : State) :
    (closeMissing o items r s).clock = s.clock ∧ (closeMissing o items r s).loader = s.loader ∧
    (closeMissing o items r s).supply = s.supply ∧ (closeMissing o items r s).poles = s.poles ∧
    (closeMissing o items r s).line = s.line ∧ (closeMissing o items r s).peers = s.peers ∧
    (closeMissing o items r s).share = s.share ∧ (closeMissing o items r s).shed = s.shed ∧
    (closeMissing o items r s).port = s.port ∧ (closeMissing o items r s).pending = s.pending := by
  unfold closeMissing
  refine ⟨?_, ?_, ?_, ?_, ?_, ?_, ?_, ?_, ?_, ?_⟩ <;> exact foldl_keeps _ _ (by simp) _ _

@[simp] theorem addItems_keeps (o : Station) (items : List SummaryItem) (s : State) :
    (items.foldl (addItem o) s).clock = s.clock ∧ (items.foldl (addItem o) s).loader = s.loader ∧
    (items.foldl (addItem o) s).supply = s.supply ∧ (items.foldl (addItem o) s).poles = s.poles ∧
    (items.foldl (addItem o) s).line = s.line ∧ (items.foldl (addItem o) s).peers = s.peers ∧
    (items.foldl (addItem o) s).share = s.share ∧ (items.foldl (addItem o) s).shed = s.shed ∧
    (items.foldl (addItem o) s).port = s.port ∧ (items.foldl (addItem o) s).pending = s.pending := by
  refine ⟨?_, ?_, ?_, ?_, ?_, ?_, ?_, ?_, ?_, ?_⟩ <;> exact foldl_keeps _ _ (by simp) _ _

@[simp] theorem reconcile_keeps (o : Station) (summary : List SummaryItem) (rejoin : Bool) (s : State) :
    (reconcile o summary rejoin s).clock = s.clock ∧ (reconcile o summary rejoin s).loader = s.loader ∧
    (reconcile o summary rejoin s).supply = s.supply ∧ (reconcile o summary rejoin s).poles = s.poles ∧
    (reconcile o summary rejoin s).line = s.line ∧ (reconcile o summary rejoin s).peers = s.peers ∧
    (reconcile o summary rejoin s).share = s.share ∧ (reconcile o summary rejoin s).shed = s.shed ∧
    (reconcile o summary rejoin s).port = s.port ∧ (reconcile o summary rejoin s).pending = s.pending := by
  simp [reconcile]

@[simp] theorem orphan_keeps (gone : Station → Bool) (s : State) :
    (orphan gone s).clock = s.clock ∧ (orphan gone s).loader = s.loader ∧ (orphan gone s).supply = s.supply ∧
    (orphan gone s).poles = s.poles ∧ (orphan gone s).line = s.line ∧ (orphan gone s).peers = s.peers ∧
    (orphan gone s).share = s.share ∧ (orphan gone s).shed = s.shed ∧ (orphan gone s).port = s.port ∧
    (orphan gone s).pending = s.pending := by
  exact ⟨rfl, rfl, rfl, rfl, rfl, rfl, rfl, rfl, rfl, rfl⟩

@[simp] theorem reportSent_keeps (c : AckContent) (s : State) :
    (reportSent c s).clock = s.clock ∧ (reportSent c s).loader = s.loader ∧ (reportSent c s).supply = s.supply ∧
    (reportSent c s).poles = s.poles ∧ (reportSent c s).line = s.line ∧ (reportSent c s).peers = s.peers ∧
    (reportSent c s).share = s.share ∧ (reportSent c s).shed = s.shed ∧ (reportSent c s).port = s.port ∧
    (reportSent c s).pending = s.pending := by
  simp [reportSent]

@[simp] theorem reportDiscarded_keeps (c : AckContent) (s : State) :
    (reportDiscarded c s).clock = s.clock ∧ (reportDiscarded c s).loader = s.loader ∧
    (reportDiscarded c s).supply = s.supply ∧ (reportDiscarded c s).poles = s.poles ∧ (reportDiscarded c s).line = s.line ∧
    (reportDiscarded c s).peers = s.peers ∧ (reportDiscarded c s).share = s.share ∧ (reportDiscarded c s).shed = s.shed ∧
    (reportDiscarded c s).port = s.port ∧ (reportDiscarded c s).pending = s.pending := by
  simp [reportDiscarded]

@[simp] theorem countAcks_keeps (s : State) :
    (countAcks s).clock = s.clock ∧ (countAcks s).loader = s.loader ∧ (countAcks s).supply = s.supply ∧
    (countAcks s).poles = s.poles ∧ (countAcks s).line = s.line ∧ (countAcks s).peers = s.peers ∧
    (countAcks s).share = s.share ∧ (countAcks s).shed = s.shed ∧ (countAcks s).port = s.port ∧
    (countAcks s).pending = s.pending := by
  exact ⟨rfl, rfl, rfl, rfl, rfl, rfl, rfl, rfl, rfl, rfl⟩

/-- An event of the Alarm Table leaves as it stands what its inner step does, the view and the grant apart. -/
theorem alarmEvent_keeps (f : State → State) (s : State) :
    (alarmEvent f s).clock = (f s).clock ∧ (alarmEvent f s).loader = (f s).loader ∧ (alarmEvent f s).line = (f s).line ∧
    (alarmEvent f s).pending = (f s).pending := by
  simp [alarmEvent]

@[simp] theorem alarmHeard_keeps (src : Station) (c : AlarmContent) (s : State) :
    (alarmHeard src c s).clock = s.clock ∧ (alarmHeard src c s).loader = s.loader ∧ (alarmHeard src c s).line = s.line ∧
    (alarmHeard src c s).pending = s.pending := by
  unfold alarmHeard; split <;> simp [alarmEvent]

@[simp] theorem summaryHeard_keeps (o : Station) (summary : List SummaryItem) (rejoin : Bool) (s : State) :
    (summaryHeard o summary rejoin s).clock = s.clock ∧ (summaryHeard o summary rejoin s).loader = s.loader ∧
    (summaryHeard o summary rejoin s).line = s.line ∧ (summaryHeard o summary rejoin s).pending = s.pending := by
  simp [summaryHeard, alarmEvent]

@[simp] theorem acknowledge_keeps (s : State) :
    ((acknowledge s).1).clock = s.clock ∧ ((acknowledge s).1).loader = s.loader ∧ ((acknowledge s).1).pending = s.pending := by
  unfold acknowledge; split
  · simp
  · split
    · simp [alarmEvent]
    · split <;> simp [alarmEvent]

@[simp] theorem pressButton_keeps (stood : Nat) (s : State) :
    (pressButton stood s).clock = s.clock ∧ (pressButton stood s).loader = s.loader ∧
    (pressButton stood s).pending = s.pending := by
  unfold pressButton; split <;> simp

@[simp] theorem releaseButton_keeps (stood : Nat) (s : State) :
    (releaseButton stood s).clock = s.clock ∧ (releaseButton stood s).loader = s.loader ∧
    (releaseButton stood s).supply = s.supply ∧ (releaseButton stood s).poles = s.poles ∧
    (releaseButton stood s).line = s.line ∧ (releaseButton stood s).peers = s.peers ∧
    (releaseButton stood s).share = s.share ∧ (releaseButton stood s).shed = s.shed ∧
    (releaseButton stood s).port = s.port ∧ (releaseButton stood s).pending = s.pending := by
  unfold releaseButton; split <;> simp

@[simp] theorem toggleLamp_keeps (s : State) :
    (toggleLamp s).clock = s.clock ∧ (toggleLamp s).loader = s.loader ∧ (toggleLamp s).supply = s.supply ∧
    (toggleLamp s).poles = s.poles ∧ (toggleLamp s).line = s.line ∧ (toggleLamp s).peers = s.peers ∧
    (toggleLamp s).share = s.share ∧ (toggleLamp s).shed = s.shed ∧ (toggleLamp s).port = s.port ∧
    (toggleLamp s).pending = s.pending := by
  unfold toggleLamp; split <;> simp

@[simp] theorem endSounding_keeps (s : State) :
    (endSounding s).clock = s.clock ∧ (endSounding s).loader = s.loader ∧ (endSounding s).supply = s.supply ∧
    (endSounding s).poles = s.poles ∧ (endSounding s).line = s.line ∧ (endSounding s).peers = s.peers ∧
    (endSounding s).share = s.share ∧ (endSounding s).shed = s.shed ∧ (endSounding s).port = s.port ∧
    (endSounding s).pending = s.pending := by
  unfold endSounding; split <;> simp

@[simp] theorem remind_keeps (s : State) :
    (remind s).clock = s.clock ∧ (remind s).loader = s.loader ∧ (remind s).supply = s.supply ∧ (remind s).poles = s.poles ∧
    (remind s).line = s.line ∧ (remind s).peers = s.peers ∧ (remind s).share = s.share ∧ (remind s).shed = s.shed ∧
    (remind s).port = s.port ∧ (remind s).pending = s.pending := by
  unfold remind; split
  · dsimp only; split <;> simp
  · simp

/-! ### Fields that an operation leaves as they stand -/

@[simp] theorem mapAlarm_fields (o : Station) (n : Byte) (f : AlarmEntry → AlarmEntry) (s : State) :
    (mapAlarm o n f s).alarms.history = s.alarms.history ∧ (mapAlarm o n f s).alarms.nextNumber = s.alarms.nextNumber ∧
    (mapAlarm o n f s).alarms.buttonArmed = s.alarms.buttonArmed ∧
    (mapAlarm o n f s).alarms.debounceStart = s.alarms.debounceStart ∧ (mapAlarm o n f s).alarms.lamp = s.alarms.lamp ∧
    (mapAlarm o n f s).alarms.lampLit = s.alarms.lampLit ∧ (mapAlarm o n f s).alarms.flashStart = s.alarms.flashStart ∧
    (mapAlarm o n f s).alarms.buzzer = s.alarms.buzzer ∧ (mapAlarm o n f s).alarms.soundStart = s.alarms.soundStart ∧
    (mapAlarm o n f s).alarms.reminderStart = s.alarms.reminderStart := by
  exact ⟨rfl, rfl, rfl, rfl, rfl, rfl, rfl, rfl, rfl, rfl⟩

@[simp] theorem closeEntry_fields (e : AlarmEntry) (r : CloseReason) (s : State) :
    (closeEntry e r s).alarms.nextNumber = s.alarms.nextNumber ∧
    (closeEntry e r s).alarms.buttonArmed = s.alarms.buttonArmed ∧
    (closeEntry e r s).alarms.debounceStart = s.alarms.debounceStart ∧ (closeEntry e r s).alarms.lamp = s.alarms.lamp ∧
    (closeEntry e r s).alarms.lampLit = s.alarms.lampLit ∧ (closeEntry e r s).alarms.flashStart = s.alarms.flashStart ∧
    (closeEntry e r s).alarms.buzzer = s.alarms.buzzer ∧ (closeEntry e r s).alarms.soundStart = s.alarms.soundStart ∧
    (closeEntry e r s).alarms.reminderStart = s.alarms.reminderStart := by
  exact ⟨rfl, rfl, rfl, rfl, rfl, rfl, rfl, rfl, rfl⟩

@[simp] theorem soundBuzzer_fields (s : State) :
    (soundBuzzer s).alarms.table = s.alarms.table ∧ (soundBuzzer s).alarms.history = s.alarms.history ∧
    (soundBuzzer s).alarms.nextNumber = s.alarms.nextNumber ∧ (soundBuzzer s).alarms.buttonArmed = s.alarms.buttonArmed ∧
    (soundBuzzer s).alarms.debounceStart = s.alarms.debounceStart ∧ (soundBuzzer s).alarms.lamp = s.alarms.lamp ∧
    (soundBuzzer s).alarms.lampLit = s.alarms.lampLit ∧ (soundBuzzer s).alarms.flashStart = s.alarms.flashStart := by
  unfold soundBuzzer; split <;> simp

@[simp] theorem settleLamp_fields (s : State) :
    (settleLamp s).alarms.table = s.alarms.table ∧ (settleLamp s).alarms.history = s.alarms.history ∧
    (settleLamp s).alarms.nextNumber = s.alarms.nextNumber ∧ (settleLamp s).alarms.buttonArmed = s.alarms.buttonArmed ∧
    (settleLamp s).alarms.debounceStart = s.alarms.debounceStart ∧ (settleLamp s).alarms.buzzer = s.alarms.buzzer ∧
    (settleLamp s).alarms.soundStart = s.alarms.soundStart ∧ (settleLamp s).alarms.reminderStart = s.alarms.reminderStart := by
  unfold settleLamp; split <;> simp

@[simp] theorem settleBuzzer_fields (before : List AlarmEntry) (s : State) :
    (settleBuzzer before s).alarms.table = s.alarms.table ∧ (settleBuzzer before s).alarms.history = s.alarms.history ∧
    (settleBuzzer before s).alarms.nextNumber = s.alarms.nextNumber ∧
    (settleBuzzer before s).alarms.buttonArmed = s.alarms.buttonArmed ∧
    (settleBuzzer before s).alarms.debounceStart = s.alarms.debounceStart ∧
    (settleBuzzer before s).alarms.lamp = s.alarms.lamp ∧ (settleBuzzer before s).alarms.lampLit = s.alarms.lampLit ∧
    (settleBuzzer before s).alarms.flashStart = s.alarms.flashStart := by
  unfold settleBuzzer; split
  · split
    · simp
    · split <;> simp
  · simp

@[simp] theorem tellSupply_fields (before : List AlarmEntry) (s : State) :
    (tellSupply before s).supply.count = s.supply.count ∧ (tellSupply before s).supply.windowStart = s.supply.windowStart ∧
    (tellSupply before s).supply.volts = s.supply.volts ∧ (tellSupply before s).supply.run = s.supply.run ∧
    (tellSupply before s).supply.voltageOk = s.supply.voltageOk ∧
    (tellSupply before s).supply.hadPulses = s.supply.hadPulses ∧ (tellSupply before s).port.abandoned = s.port.abandoned ∧
    (tellSupply before s).port.request = s.port.request ∧ (tellSupply before s).port.held = s.port.held ∧
    (tellSupply before s).port.lost = s.port.lost ∧
    (tellSupply before s).port.shifted = s.port.shifted ∧ (tellSupply before s).port.postedDemand = s.port.postedDemand ∧
    (tellSupply before s).port.postedSource = s.port.postedSource ∧
    (tellSupply before s).port.postedCap = s.port.postedCap ∧
    (tellSupply before s).port.sensorSource = s.port.sensorSource ∧ (tellSupply before s).poles.p = s.poles.p ∧
    (tellSupply before s).poles.n = s.poles.n ∧ (tellSupply before s).poles.dewire = s.poles.dewire ∧
    (tellSupply before s).poles.retrieveFail = s.poles.retrieveFail ∧
    (tellSupply before s).poles.lineDead = s.poles.lineDead ∧ (tellSupply before s).poles.gapSerial = s.poles.gapSerial ∧
    (tellSupply before s).poles.calStart = s.poles.calStart ∧
    (tellSupply before s).shed.demandSilence = s.shed.demandSilence ∧
    (tellSupply before s).shed.demandTimedOut = s.shed.demandTimedOut ∧
    (tellSupply before s).shed.sourceSilence = s.shed.sourceSilence ∧
    (tellSupply before s).shed.sourceTimedOut = s.shed.sourceTimedOut ∧
    (tellSupply before s).shed.demandTaken = s.shed.demandTaken ∧
    (tellSupply before s).shed.sourceTaken = s.shed.sourceTaken ∧
    (tellSupply before s).share.boundaryAt = s.share.boundaryAt ∧
    (tellSupply before s).share.boundaries = s.share.boundaries ∧ (tellSupply before s).share.target = s.share.target ∧
    (tellSupply before s).share.budget = s.share.budget ∧ (tellSupply before s).share.demand = s.share.demand ∧
    (tellSupply before s).share.discharge = s.share.discharge ∧ (tellSupply before s).share.cap = s.share.cap ∧
    (tellSupply before s).share.limitElapsed = s.share.limitElapsed := by
  unfold tellSupply; split
  · split <;> simp
  · split <;> simp

@[simp] theorem endAlarmEvent_fields (before : List AlarmEntry) (s : State) :
    (endAlarmEvent before s).alarms.table = s.alarms.table ∧ (endAlarmEvent before s).alarms.history = s.alarms.history ∧
    (endAlarmEvent before s).alarms.nextNumber = s.alarms.nextNumber ∧
    (endAlarmEvent before s).alarms.buttonArmed = s.alarms.buttonArmed ∧
    (endAlarmEvent before s).alarms.debounceStart = s.alarms.debounceStart ∧
    (endAlarmEvent before s).supply.count = s.supply.count ∧
    (endAlarmEvent before s).supply.windowStart = s.supply.windowStart ∧
    (endAlarmEvent before s).supply.volts = s.supply.volts ∧ (endAlarmEvent before s).supply.run = s.supply.run ∧
    (endAlarmEvent before s).supply.voltageOk = s.supply.voltageOk ∧
    (endAlarmEvent before s).supply.hadPulses = s.supply.hadPulses ∧
    (endAlarmEvent before s).port.abandoned = s.port.abandoned ∧ (endAlarmEvent before s).port.request = s.port.request ∧
    (endAlarmEvent before s).port.held = s.port.held ∧ (endAlarmEvent before s).port.lost = s.port.lost ∧
    (endAlarmEvent before s).port.shifted = s.port.shifted ∧
    (endAlarmEvent before s).port.postedDemand = s.port.postedDemand ∧
    (endAlarmEvent before s).port.postedSource = s.port.postedSource ∧
    (endAlarmEvent before s).port.postedCap = s.port.postedCap ∧
    (endAlarmEvent before s).port.sensorSource = s.port.sensorSource ∧ (endAlarmEvent before s).poles.p = s.poles.p ∧
    (endAlarmEvent before s).poles.n = s.poles.n ∧ (endAlarmEvent before s).poles.dewire = s.poles.dewire ∧
    (endAlarmEvent before s).poles.retrieveFail = s.poles.retrieveFail ∧
    (endAlarmEvent before s).poles.lineDead = s.poles.lineDead ∧
    (endAlarmEvent before s).poles.gapSerial = s.poles.gapSerial ∧
    (endAlarmEvent before s).poles.calStart = s.poles.calStart ∧
    (endAlarmEvent before s).shed.demandSilence = s.shed.demandSilence ∧
    (endAlarmEvent before s).shed.demandTimedOut = s.shed.demandTimedOut ∧
    (endAlarmEvent before s).shed.sourceSilence = s.shed.sourceSilence ∧
    (endAlarmEvent before s).shed.sourceTimedOut = s.shed.sourceTimedOut ∧
    (endAlarmEvent before s).shed.demandTaken = s.shed.demandTaken ∧
    (endAlarmEvent before s).shed.sourceTaken = s.shed.sourceTaken ∧
    (endAlarmEvent before s).share.boundaryAt = s.share.boundaryAt ∧
    (endAlarmEvent before s).share.boundaries = s.share.boundaries ∧
    (endAlarmEvent before s).share.target = s.share.target ∧ (endAlarmEvent before s).share.budget = s.share.budget ∧
    (endAlarmEvent before s).share.demand = s.share.demand ∧ (endAlarmEvent before s).share.discharge = s.share.discharge ∧
    (endAlarmEvent before s).share.cap = s.share.cap ∧ (endAlarmEvent before s).share.limitElapsed = s.share.limitElapsed := by
  unfold endAlarmEvent; split <;> simp

@[simp] theorem addEntry_fields (e : AlarmEntry) (s : State) :
    (addEntry e s).alarms.history = s.alarms.history ∧ (addEntry e s).alarms.nextNumber = s.alarms.nextNumber ∧
    (addEntry e s).alarms.buttonArmed = s.alarms.buttonArmed ∧
    (addEntry e s).alarms.debounceStart = s.alarms.debounceStart ∧ (addEntry e s).alarms.lamp = s.alarms.lamp ∧
    (addEntry e s).alarms.lampLit = s.alarms.lampLit ∧ (addEntry e s).alarms.flashStart = s.alarms.flashStart := by
  unfold addEntry; dsimp only; split <;> simp

@[simp] theorem addHeard_fields (e : AlarmEntry) (s : State) :
    (addHeard e s).alarms.nextNumber = s.alarms.nextNumber ∧ (addHeard e s).alarms.buttonArmed = s.alarms.buttonArmed ∧
    (addHeard e s).alarms.debounceStart = s.alarms.debounceStart ∧ (addHeard e s).alarms.lamp = s.alarms.lamp ∧
    (addHeard e s).alarms.lampLit = s.alarms.lampLit ∧ (addHeard e s).alarms.flashStart = s.alarms.flashStart := by
  unfold addHeard; split
  · simp
  · split <;> simp

@[simp] theorem noticeFor_fields (e : AlarmEntry) (p : NoticePhase) (s : State) :
    (noticeFor e p s).line.rx = s.line.rx ∧ (noticeFor e p s).line.idle = s.line.idle ∧
    (noticeFor e p s).line.attempt = s.line.attempt ∧
    (noticeFor e p s).line.sentAt = s.line.sentAt ∧ (noticeFor e p s).line.stateWaiting = s.line.stateWaiting ∧
    (noticeFor e p s).line.gapPart = s.line.gapPart ∧ (noticeFor e p s).line.gapPairing = s.line.gapPairing ∧
    (noticeFor e p s).line.ackPart = s.line.ackPart ∧ (noticeFor e p s).line.tec = s.line.tec ∧
    (noticeFor e p s).line.recv = s.line.recv ∧ (noticeFor e p s).line.seq = s.line.seq ∧
    (noticeFor e p s).line.statesSent = s.line.statesSent ∧ (noticeFor e p s).line.suspendedAt = s.line.suspendedAt ∧
    (noticeFor e p s).line.stateFirst = s.line.stateFirst := by
  simp [noticeFor]

@[simp] theorem closeOwn_fields (e : AlarmEntry) (r : CloseReason) (s : State) :
    (closeOwn e r s).line.rx = s.line.rx ∧ (closeOwn e r s).line.idle = s.line.idle ∧
    (closeOwn e r s).line.attempt = s.line.attempt ∧
    (closeOwn e r s).line.sentAt = s.line.sentAt ∧ (closeOwn e r s).line.stateWaiting = s.line.stateWaiting ∧
    (closeOwn e r s).line.gapPart = s.line.gapPart ∧ (closeOwn e r s).line.gapPairing = s.line.gapPairing ∧
    (closeOwn e r s).line.ackPart = s.line.ackPart ∧ (closeOwn e r s).line.tec = s.line.tec ∧
    (closeOwn e r s).line.recv = s.line.recv ∧ (closeOwn e r s).line.seq = s.line.seq ∧
    (closeOwn e r s).line.statesSent = s.line.statesSent ∧ (closeOwn e r s).line.suspendedAt = s.line.suspendedAt ∧
    (closeOwn e r s).line.stateFirst = s.line.stateFirst ∧ (closeOwn e r s).alarms.nextNumber = s.alarms.nextNumber ∧
    (closeOwn e r s).alarms.buttonArmed = s.alarms.buttonArmed ∧
    (closeOwn e r s).alarms.debounceStart = s.alarms.debounceStart ∧ (closeOwn e r s).alarms.lamp = s.alarms.lamp ∧
    (closeOwn e r s).alarms.lampLit = s.alarms.lampLit ∧ (closeOwn e r s).alarms.flashStart = s.alarms.flashStart ∧
    (closeOwn e r s).alarms.buzzer = s.alarms.buzzer ∧ (closeOwn e r s).alarms.soundStart = s.alarms.soundStart ∧
    (closeOwn e r s).alarms.reminderStart = s.alarms.reminderStart := by
  simp [closeOwn]

@[simp] theorem changeOwn_fields (e : AlarmEntry) (p : Phase) (ps : PoleSet) (s : State) :
    (changeOwn e p ps s).line.rx = s.line.rx ∧ (changeOwn e p ps s).line.idle = s.line.idle ∧
    (changeOwn e p ps s).line.attempt = s.line.attempt ∧
    (changeOwn e p ps s).line.sentAt = s.line.sentAt ∧ (changeOwn e p ps s).line.stateWaiting = s.line.stateWaiting ∧
    (changeOwn e p ps s).line.gapPart = s.line.gapPart ∧ (changeOwn e p ps s).line.gapPairing = s.line.gapPairing ∧
    (changeOwn e p ps s).line.ackPart = s.line.ackPart ∧ (changeOwn e p ps s).line.tec = s.line.tec ∧
    (changeOwn e p ps s).line.recv = s.line.recv ∧ (changeOwn e p ps s).line.seq = s.line.seq ∧
    (changeOwn e p ps s).line.statesSent = s.line.statesSent ∧ (changeOwn e p ps s).line.suspendedAt = s.line.suspendedAt ∧
    (changeOwn e p ps s).line.stateFirst = s.line.stateFirst ∧ (changeOwn e p ps s).alarms.history = s.alarms.history ∧
    (changeOwn e p ps s).alarms.nextNumber = s.alarms.nextNumber ∧
    (changeOwn e p ps s).alarms.buttonArmed = s.alarms.buttonArmed ∧
    (changeOwn e p ps s).alarms.debounceStart = s.alarms.debounceStart ∧ (changeOwn e p ps s).alarms.lamp = s.alarms.lamp ∧
    (changeOwn e p ps s).alarms.lampLit = s.alarms.lampLit ∧ (changeOwn e p ps s).alarms.flashStart = s.alarms.flashStart ∧
    (changeOwn e p ps s).alarms.buzzer = s.alarms.buzzer ∧ (changeOwn e p ps s).alarms.soundStart = s.alarms.soundStart ∧
    (changeOwn e p ps s).alarms.reminderStart = s.alarms.reminderStart := by
  simp [changeOwn]

@[simp] theorem makeOwnRoom_fields (s : State) :
    (makeOwnRoom s).line.rx = s.line.rx ∧ (makeOwnRoom s).line.idle = s.line.idle ∧
    (makeOwnRoom s).line.attempt = s.line.attempt ∧
    (makeOwnRoom s).line.sentAt = s.line.sentAt ∧ (makeOwnRoom s).line.stateWaiting = s.line.stateWaiting ∧
    (makeOwnRoom s).line.gapPart = s.line.gapPart ∧ (makeOwnRoom s).line.gapPairing = s.line.gapPairing ∧
    (makeOwnRoom s).line.ackPart = s.line.ackPart ∧ (makeOwnRoom s).line.tec = s.line.tec ∧
    (makeOwnRoom s).line.recv = s.line.recv ∧ (makeOwnRoom s).line.seq = s.line.seq ∧
    (makeOwnRoom s).line.statesSent = s.line.statesSent ∧ (makeOwnRoom s).line.suspendedAt = s.line.suspendedAt ∧
    (makeOwnRoom s).line.stateFirst = s.line.stateFirst ∧ (makeOwnRoom s).alarms.nextNumber = s.alarms.nextNumber ∧
    (makeOwnRoom s).alarms.buttonArmed = s.alarms.buttonArmed ∧
    (makeOwnRoom s).alarms.debounceStart = s.alarms.debounceStart ∧ (makeOwnRoom s).alarms.lamp = s.alarms.lamp ∧
    (makeOwnRoom s).alarms.lampLit = s.alarms.lampLit ∧ (makeOwnRoom s).alarms.flashStart = s.alarms.flashStart ∧
    (makeOwnRoom s).alarms.buzzer = s.alarms.buzzer ∧ (makeOwnRoom s).alarms.soundStart = s.alarms.soundStart ∧
    (makeOwnRoom s).alarms.reminderStart = s.alarms.reminderStart := by
  unfold makeOwnRoom; split
  · simp
  · split <;> simp

@[simp] theorem raiseOwn_fields (k : AlarmKind) (ps : PoleSet) (s : State) :
    (raiseOwn k ps s).line.rx = s.line.rx ∧ (raiseOwn k ps s).line.idle = s.line.idle ∧
    (raiseOwn k ps s).line.attempt = s.line.attempt ∧
    (raiseOwn k ps s).line.sentAt = s.line.sentAt ∧ (raiseOwn k ps s).line.stateWaiting = s.line.stateWaiting ∧
    (raiseOwn k ps s).line.gapPart = s.line.gapPart ∧ (raiseOwn k ps s).line.gapPairing = s.line.gapPairing ∧
    (raiseOwn k ps s).line.ackPart = s.line.ackPart ∧ (raiseOwn k ps s).line.tec = s.line.tec ∧
    (raiseOwn k ps s).line.recv = s.line.recv ∧ (raiseOwn k ps s).line.seq = s.line.seq ∧
    (raiseOwn k ps s).line.statesSent = s.line.statesSent ∧ (raiseOwn k ps s).line.suspendedAt = s.line.suspendedAt ∧
    (raiseOwn k ps s).line.stateFirst = s.line.stateFirst ∧ (raiseOwn k ps s).alarms.buttonArmed = s.alarms.buttonArmed ∧
    (raiseOwn k ps s).alarms.debounceStart = s.alarms.debounceStart ∧ (raiseOwn k ps s).alarms.lamp = s.alarms.lamp ∧
    (raiseOwn k ps s).alarms.lampLit = s.alarms.lampLit ∧ (raiseOwn k ps s).alarms.flashStart = s.alarms.flashStart := by
  simp [raiseOwn]

@[simp] theorem widenOwn_fields (n : Byte) (s : State) :
    (widenOwn n s).line.rx = s.line.rx ∧ (widenOwn n s).line.idle = s.line.idle ∧
    (widenOwn n s).line.attempt = s.line.attempt ∧
    (widenOwn n s).line.sentAt = s.line.sentAt ∧ (widenOwn n s).line.stateWaiting = s.line.stateWaiting ∧
    (widenOwn n s).line.gapPart = s.line.gapPart ∧ (widenOwn n s).line.gapPairing = s.line.gapPairing ∧
    (widenOwn n s).line.ackPart = s.line.ackPart ∧ (widenOwn n s).line.tec = s.line.tec ∧
    (widenOwn n s).line.recv = s.line.recv ∧ (widenOwn n s).line.seq = s.line.seq ∧
    (widenOwn n s).line.statesSent = s.line.statesSent ∧ (widenOwn n s).line.suspendedAt = s.line.suspendedAt ∧
    (widenOwn n s).line.stateFirst = s.line.stateFirst ∧ (widenOwn n s).alarms.history = s.alarms.history ∧
    (widenOwn n s).alarms.nextNumber = s.alarms.nextNumber ∧ (widenOwn n s).alarms.buttonArmed = s.alarms.buttonArmed ∧
    (widenOwn n s).alarms.debounceStart = s.alarms.debounceStart ∧ (widenOwn n s).alarms.lamp = s.alarms.lamp ∧
    (widenOwn n s).alarms.lampLit = s.alarms.lampLit ∧ (widenOwn n s).alarms.flashStart = s.alarms.flashStart ∧
    (widenOwn n s).alarms.buzzer = s.alarms.buzzer ∧ (widenOwn n s).alarms.soundStart = s.alarms.soundStart ∧
    (widenOwn n s).alarms.reminderStart = s.alarms.reminderStart := by
  unfold widenOwn; split <;> simp

@[simp] theorem clearOwn_fields (n : Byte) (s : State) :
    (clearOwn n s).line.rx = s.line.rx ∧ (clearOwn n s).line.idle = s.line.idle ∧
    (clearOwn n s).line.attempt = s.line.attempt ∧
    (clearOwn n s).line.sentAt = s.line.sentAt ∧ (clearOwn n s).line.stateWaiting = s.line.stateWaiting ∧
    (clearOwn n s).line.gapPart = s.line.gapPart ∧ (clearOwn n s).line.gapPairing = s.line.gapPairing ∧
    (clearOwn n s).line.ackPart = s.line.ackPart ∧ (clearOwn n s).line.tec = s.line.tec ∧
    (clearOwn n s).line.recv = s.line.recv ∧ (clearOwn n s).line.seq = s.line.seq ∧
    (clearOwn n s).line.statesSent = s.line.statesSent ∧ (clearOwn n s).line.suspendedAt = s.line.suspendedAt ∧
    (clearOwn n s).line.stateFirst = s.line.stateFirst ∧ (clearOwn n s).alarms.nextNumber = s.alarms.nextNumber ∧
    (clearOwn n s).alarms.buttonArmed = s.alarms.buttonArmed ∧
    (clearOwn n s).alarms.debounceStart = s.alarms.debounceStart ∧ (clearOwn n s).alarms.lamp = s.alarms.lamp ∧
    (clearOwn n s).alarms.lampLit = s.alarms.lampLit ∧ (clearOwn n s).alarms.flashStart = s.alarms.flashStart ∧
    (clearOwn n s).alarms.buzzer = s.alarms.buzzer ∧ (clearOwn n s).alarms.soundStart = s.alarms.soundStart ∧
    (clearOwn n s).alarms.reminderStart = s.alarms.reminderStart := by
  unfold clearOwn; split
  · simp
  · split <;> simp

@[simp] theorem ackOwn_fields (n : Byte) (s : State) :
    (ackOwn n s).line.rx = s.line.rx ∧ (ackOwn n s).line.idle = s.line.idle ∧ (ackOwn n s).line.attempt = s.line.attempt ∧
    (ackOwn n s).line.sentAt = s.line.sentAt ∧
    (ackOwn n s).line.stateWaiting = s.line.stateWaiting ∧ (ackOwn n s).line.gapPart = s.line.gapPart ∧
    (ackOwn n s).line.gapPairing = s.line.gapPairing ∧ (ackOwn n s).line.ackPart = s.line.ackPart ∧
    (ackOwn n s).line.tec = s.line.tec ∧ (ackOwn n s).line.recv = s.line.recv ∧ (ackOwn n s).line.seq = s.line.seq ∧
    (ackOwn n s).line.statesSent = s.line.statesSent ∧ (ackOwn n s).line.suspendedAt = s.line.suspendedAt ∧
    (ackOwn n s).line.stateFirst = s.line.stateFirst ∧ (ackOwn n s).alarms.nextNumber = s.alarms.nextNumber ∧
    (ackOwn n s).alarms.buttonArmed = s.alarms.buttonArmed ∧ (ackOwn n s).alarms.debounceStart = s.alarms.debounceStart ∧
    (ackOwn n s).alarms.lamp = s.alarms.lamp ∧ (ackOwn n s).alarms.lampLit = s.alarms.lampLit ∧
    (ackOwn n s).alarms.flashStart = s.alarms.flashStart ∧ (ackOwn n s).alarms.buzzer = s.alarms.buzzer ∧
    (ackOwn n s).alarms.soundStart = s.alarms.soundStart ∧ (ackOwn n s).alarms.reminderStart = s.alarms.reminderStart := by
  unfold ackOwn; split
  · simp
  · split <;> simp

@[simp] theorem newNotice_fields (src : Station) (c : AlarmContent) (s : State) :
    (newNotice src c s).alarms.nextNumber = s.alarms.nextNumber ∧
    (newNotice src c s).alarms.buttonArmed = s.alarms.buttonArmed ∧
    (newNotice src c s).alarms.debounceStart = s.alarms.debounceStart ∧ (newNotice src c s).alarms.lamp = s.alarms.lamp ∧
    (newNotice src c s).alarms.lampLit = s.alarms.lampLit ∧ (newNotice src c s).alarms.flashStart = s.alarms.flashStart := by
  unfold newNotice; split <;> simp

@[simp] theorem takeNotice_fields (src : Station) (c : AlarmContent) (s : State) :
    (takeNotice src c s).alarms.nextNumber = s.alarms.nextNumber ∧
    (takeNotice src c s).alarms.buttonArmed = s.alarms.buttonArmed ∧
    (takeNotice src c s).alarms.debounceStart = s.alarms.debounceStart ∧ (takeNotice src c s).alarms.lamp = s.alarms.lamp ∧
    (takeNotice src c s).alarms.lampLit = s.alarms.lampLit ∧ (takeNotice src c s).alarms.flashStart = s.alarms.flashStart := by
  unfold takeNotice; split
  · simp
  · split
    · split <;> simp
    · simp

@[simp] theorem orphan_fields (gone : Station → Bool) (s : State) :
    (orphan gone s).alarms.history = s.alarms.history ∧ (orphan gone s).alarms.nextNumber = s.alarms.nextNumber ∧
    (orphan gone s).alarms.buttonArmed = s.alarms.buttonArmed ∧
    (orphan gone s).alarms.debounceStart = s.alarms.debounceStart ∧ (orphan gone s).alarms.lamp = s.alarms.lamp ∧
    (orphan gone s).alarms.lampLit = s.alarms.lampLit ∧ (orphan gone s).alarms.flashStart = s.alarms.flashStart ∧
    (orphan gone s).alarms.buzzer = s.alarms.buzzer ∧ (orphan gone s).alarms.soundStart = s.alarms.soundStart ∧
    (orphan gone s).alarms.reminderStart = s.alarms.reminderStart := by
  exact ⟨rfl, rfl, rfl, rfl, rfl, rfl, rfl, rfl, rfl, rfl⟩

@[simp] theorem countAcks_fields (s : State) :
    (countAcks s).alarms.history = s.alarms.history ∧ (countAcks s).alarms.nextNumber = s.alarms.nextNumber ∧
    (countAcks s).alarms.buttonArmed = s.alarms.buttonArmed ∧ (countAcks s).alarms.debounceStart = s.alarms.debounceStart ∧
    (countAcks s).alarms.lamp = s.alarms.lamp ∧ (countAcks s).alarms.lampLit = s.alarms.lampLit ∧
    (countAcks s).alarms.flashStart = s.alarms.flashStart ∧ (countAcks s).alarms.buzzer = s.alarms.buzzer ∧
    (countAcks s).alarms.soundStart = s.alarms.soundStart ∧ (countAcks s).alarms.reminderStart = s.alarms.reminderStart := by
  exact ⟨rfl, rfl, rfl, rfl, rfl, rfl, rfl, rfl, rfl, rfl⟩

@[simp] theorem reportSent_fields (c : AckContent) (s : State) :
    (reportSent c s).alarms.history = s.alarms.history ∧ (reportSent c s).alarms.nextNumber = s.alarms.nextNumber ∧
    (reportSent c s).alarms.buttonArmed = s.alarms.buttonArmed ∧
    (reportSent c s).alarms.debounceStart = s.alarms.debounceStart ∧ (reportSent c s).alarms.lamp = s.alarms.lamp ∧
    (reportSent c s).alarms.lampLit = s.alarms.lampLit ∧ (reportSent c s).alarms.flashStart = s.alarms.flashStart ∧
    (reportSent c s).alarms.buzzer = s.alarms.buzzer ∧ (reportSent c s).alarms.soundStart = s.alarms.soundStart ∧
    (reportSent c s).alarms.reminderStart = s.alarms.reminderStart := by
  simp [reportSent]

@[simp] theorem reportDiscarded_fields (c : AckContent) (s : State) :
    (reportDiscarded c s).alarms.history = s.alarms.history ∧
    (reportDiscarded c s).alarms.nextNumber = s.alarms.nextNumber ∧
    (reportDiscarded c s).alarms.buttonArmed = s.alarms.buttonArmed ∧
    (reportDiscarded c s).alarms.debounceStart = s.alarms.debounceStart ∧
    (reportDiscarded c s).alarms.lamp = s.alarms.lamp ∧ (reportDiscarded c s).alarms.lampLit = s.alarms.lampLit ∧
    (reportDiscarded c s).alarms.flashStart = s.alarms.flashStart ∧ (reportDiscarded c s).alarms.buzzer = s.alarms.buzzer ∧
    (reportDiscarded c s).alarms.soundStart = s.alarms.soundStart ∧
    (reportDiscarded c s).alarms.reminderStart = s.alarms.reminderStart := by
  simp [reportDiscarded]

end Sys2Proof.Machine
end

