-- ==== Sys2Proof/Laws/Watch.lean ====
section
/-!
SUPPORT. The operations of Machine/Supply.lean and Machine/Pole.lean: which blocks of the state each leaves as they stand.
-/
namespace Sys2Proof.Machine

/-! ### The capture of angle periods (R23) -/

/-- An edge touches the open period and the capture, nothing else of the pole. -/
theorem takeEdge_eq (q : Pole) (e : AngleEdge) :
    takeEdge q e = { q with opened := (takeEdge q e).opened, capture := (takeEdge q e).capture } := by
  unfold takeEdge; split <;> rfl

@[simp] theorem takeEdges_nil (q : Pole) : takeEdges [] q = q := rfl

@[simp] theorem takeEdges_cons (e : AngleEdge) (edges : List AngleEdge) (q : Pole) :
    takeEdges (e :: edges) q = takeEdges edges (takeEdge q e) := rfl

theorem takeEdges_append (a b : List AngleEdge) (q : Pole) : takeEdges (a ++ b) q = takeEdges b (takeEdges a q) := by
  simp [takeEdges]

theorem takeEdges_eq (edges : List AngleEdge) (q : Pole) :
    takeEdges edges q = { q with opened := (takeEdges edges q).opened, capture := (takeEdges edges q).capture } := by
  induction edges generalizing q with
  | nil => rfl
  | cons e edges ih =>
    have h := takeEdge_eq q e
    rw [takeEdges_cons]
    generalize takeEdge q e = x at h ⊢
    cases x
    simp only [Pole.mk.injEq] at h
    rw [ih]
    simp [h]

/-- A rising edge opens a period, whatever went before. -/
@[simp] theorem takeEdge_rising_opened (q : Pole) (after : Nat) : (takeEdge q ⟨true, after⟩).opened = some ⟨0, none⟩ := by
  unfold takeEdge; cases q.opened <;> rfl

/-- A falling edge completes no period. -/
@[simp] theorem takeEdge_falling_capture (q : Pole) (after : Nat) : (takeEdge q ⟨false, after⟩).capture = q.capture := by
  unfold takeEdge; cases q.opened <;> rfl

/-- A span without a rising edge completes no period. -/
theorem takeEdges_falling_capture (edges : List AngleEdge) (q : Pole) (h : ∀ e ∈ edges, e.rising = false) :
    (takeEdges edges q).capture = q.capture := by
  induction edges generalizing q with
  | nil => rfl
  | cons e edges ih =>
    obtain ⟨rising, after⟩ := e
    obtain rfl : rising = false := h _ (List.mem_cons_self ..)
    rw [takeEdges_cons, ih _ fun e he => h e (List.mem_cons_of_mem _ he), takeEdge_falling_capture]

/-- A period within one span: its rising edge, its falling edge `h` ns later, and its closing edge `l` ns after that. -/
theorem takeEdges_period (g h l : Nat) (q : Pole) :
    (takeEdges [⟨true, g⟩, ⟨false, h⟩, ⟨true, l⟩] q).capture = some ⟨h / 1000, (h + l) / 1000⟩ := by
  have opened := takeEdge_rising_opened q g
  rw [takeEdges_cons, takeEdges_cons, takeEdges_cons, takeEdges_nil]
  generalize takeEdge q ⟨true, g⟩ = x at opened
  simp [takeEdge, opened, closePeriod]

/-! ### What each operation keeps -/

@[simp] theorem measure_keeps (edges : Nat) (s : State) :
    (measure edges s).clock = s.clock ∧ (measure edges s).loader = s.loader ∧ (measure edges s).poles = s.poles ∧
    (measure edges s).line = s.line ∧ (measure edges s).peers = s.peers ∧ (measure edges s).share = s.share ∧
    (measure edges s).shed = s.shed ∧ (measure edges s).alarms = s.alarms ∧ (measure edges s).pending = s.pending := by
  unfold measure; dsimp only; split <;> simp

@[simp] theorem viewAfterWindow_keeps (loss becameOk : Bool) (s : State) :
    (viewAfterWindow loss becameOk s).clock = s.clock ∧ (viewAfterWindow loss becameOk s).loader = s.loader ∧
    (viewAfterWindow loss becameOk s).poles = s.poles ∧ (viewAfterWindow loss becameOk s).line = s.line ∧
    (viewAfterWindow loss becameOk s).alarms = s.alarms ∧ (viewAfterWindow loss becameOk s).pending = s.pending := by
  unfold viewAfterWindow; split
  · simp
  · split <;> simp

@[simp] theorem gapStartHeard_keeps (src : Station) (serial : Byte) (e : Peer) (s : State) :
    (gapStartHeard src serial e s).clock = s.clock ∧ (gapStartHeard src serial e s).loader = s.loader ∧
    (gapStartHeard src serial e s).poles = s.poles ∧ (gapStartHeard src serial e s).line = s.line ∧
    (gapStartHeard src serial e s).alarms = s.alarms ∧ (gapStartHeard src serial e s).pending = s.pending := by
  unfold gapStartHeard; dsimp only; split <;> split <;> simp

@[simp] theorem gapEndHeard_keeps (src : Station) (serial : Byte) (s : State) :
    (gapEndHeard src serial s).clock = s.clock ∧ (gapEndHeard src serial s).loader = s.loader ∧
    (gapEndHeard src serial s).poles = s.poles ∧ (gapEndHeard src serial s).line = s.line ∧
    (gapEndHeard src serial s).share = s.share ∧ (gapEndHeard src serial s).alarms = s.alarms ∧
    (gapEndHeard src serial s).pending = s.pending := by
  simp [gapEndHeard]

@[simp] theorem gapHeard_keeps (src : Station) (g : GapContent) (s : State) :
    (gapHeard src g s).clock = s.clock ∧ (gapHeard src g s).loader = s.loader ∧ (gapHeard src g s).poles = s.poles ∧
    (gapHeard src g s).line = s.line ∧ (gapHeard src g s).alarms = s.alarms ∧ (gapHeard src g s).pending = s.pending := by
  unfold gapHeard; split
  · simp
  · split
    · split <;> simp
    · simp

@[simp] theorem endRestore_keeps (s : State) :
    (endRestore s).clock = s.clock ∧ (endRestore s).loader = s.loader ∧ (endRestore s).poles = s.poles ∧
    (endRestore s).line = s.line ∧ (endRestore s).share = s.share ∧ (endRestore s).alarms = s.alarms ∧
    (endRestore s).pending = s.pending := by
  unfold endRestore; split <;> simp

@[simp] theorem withDewire_keeps (a : Option ActiveAlarm) (s : State) :
    (withDewire a s).clock = s.clock ∧ (withDewire a s).loader = s.loader ∧ (withDewire a s).supply = s.supply ∧
    (withDewire a s).line = s.line ∧ (withDewire a s).peers = s.peers ∧ (withDewire a s).share = s.share ∧
    (withDewire a s).shed = s.shed ∧ (withDewire a s).alarms = s.alarms ∧ (withDewire a s).port = s.port ∧
    (withDewire a s).pending = s.pending := by
  exact ⟨rfl, rfl, rfl, rfl, rfl, rfl, rfl, rfl, rfl, rfl⟩

@[simp] theorem withRetrieveFail_keeps (a : Option ActiveAlarm) (s : State) :
    (withRetrieveFail a s).clock = s.clock ∧ (withRetrieveFail a s).loader = s.loader ∧
    (withRetrieveFail a s).supply = s.supply ∧ (withRetrieveFail a s).line = s.line ∧
    (withRetrieveFail a s).peers = s.peers ∧ (withRetrieveFail a s).share = s.share ∧
    (withRetrieveFail a s).shed = s.shed ∧ (withRetrieveFail a s).alarms = s.alarms ∧
    (withRetrieveFail a s).port = s.port ∧ (withRetrieveFail a s).pending = s.pending := by
  exact ⟨rfl, rfl, rfl, rfl, rfl, rfl, rfl, rfl, rfl, rfl⟩

@[simp] theorem withLineDead_keeps (a : Option ActiveAlarm) (s : State) :
    (withLineDead a s).clock = s.clock ∧ (withLineDead a s).loader = s.loader ∧ (withLineDead a s).supply = s.supply ∧
    (withLineDead a s).line = s.line ∧ (withLineDead a s).peers = s.peers ∧ (withLineDead a s).share = s.share ∧
    (withLineDead a s).shed = s.shed ∧ (withLineDead a s).alarms = s.alarms ∧ (withLineDead a s).port = s.port ∧
    (withLineDead a s).pending = s.pending := by
  exact ⟨rfl, rfl, rfl, rfl, rfl, rfl, rfl, rfl, rfl, rfl⟩

@[simp] theorem dewireEntry_keeps (entered : PoleSet) (s : State) :
    (dewireEntry entered s).clock = s.clock ∧ (dewireEntry entered s).loader = s.loader ∧
    (dewireEntry entered s).supply = s.supply ∧ (dewireEntry entered s).peers = s.peers ∧
    (dewireEntry entered s).share = s.share ∧ (dewireEntry entered s).shed = s.shed ∧
    (dewireEntry entered s).port = s.port ∧ (dewireEntry entered s).pending = s.pending := by
  unfold dewireEntry; split
  · simp
  · split
    · simp
    · split <;> simp

@[simp] theorem dewireClear_keeps (s : State) :
    (dewireClear s).clock = s.clock ∧ (dewireClear s).loader = s.loader ∧ (dewireClear s).supply = s.supply ∧
    (dewireClear s).peers = s.peers ∧ (dewireClear s).share = s.share ∧ (dewireClear s).shed = s.shed ∧
    (dewireClear s).port = s.port ∧ (dewireClear s).pending = s.pending := by
  unfold dewireClear; split
  · simp
  · split <;> simp

@[simp] theorem retrieveFailEntry_keeps (timed : PoleSet) (s : State) :
    (retrieveFailEntry timed s).clock = s.clock ∧ (retrieveFailEntry timed s).loader = s.loader ∧
    (retrieveFailEntry timed s).supply = s.supply ∧ (retrieveFailEntry timed s).peers = s.peers ∧
    (retrieveFailEntry timed s).share = s.share ∧ (retrieveFailEntry timed s).shed = s.shed ∧
    (retrieveFailEntry timed s).port = s.port ∧ (retrieveFailEntry timed s).pending = s.pending := by
  unfold retrieveFailEntry; split
  · simp
  · split
    · simp
    · dsimp only; split <;> simp

@[simp] theorem retrieveFailReached_keeps (downP downN : Bool) (s : State) :
    (retrieveFailReached downP downN s).clock = s.clock ∧ (retrieveFailReached downP downN s).loader = s.loader ∧
    (retrieveFailReached downP downN s).supply = s.supply ∧ (retrieveFailReached downP downN s).peers = s.peers ∧
    (retrieveFailReached downP downN s).share = s.share ∧ (retrieveFailReached downP downN s).shed = s.shed ∧
    (retrieveFailReached downP downN s).port = s.port ∧ (retrieveFailReached downP downN s).pending = s.pending := by
  unfold retrieveFailReached; split
  · simp
  · dsimp only; split <;> simp

@[simp] theorem lineDeadClear_keeps (s : State) :
    (lineDeadClear s).clock = s.clock ∧ (lineDeadClear s).loader = s.loader ∧ (lineDeadClear s).supply = s.supply ∧
    (lineDeadClear s).peers = s.peers ∧ (lineDeadClear s).share = s.share ∧ (lineDeadClear s).shed = s.shed ∧
    (lineDeadClear s).port = s.port ∧ (lineDeadClear s).pending = s.pending := by
  unfold lineDeadClear; split
  · simp
  · split <;> simp

@[simp] theorem alarmStage_keeps (entered timed : PoleSet) (s : State) :
    (alarmStage entered timed s).clock = s.clock ∧ (alarmStage entered timed s).loader = s.loader ∧
    (alarmStage entered timed s).pending = s.pending := by
  simp [alarmStage, alarmEvent, closingInOrder, handOffs]

@[simp] theorem gapStage_keeps (loss becameOk raised : Bool) (prior : View) (s : State) :
    (gapStage loss becameOk raised prior s).clock = s.clock ∧ (gapStage loss becameOk raised prior s).loader = s.loader ∧
    (gapStage loss becameOk raised prior s).supply = s.supply ∧ (gapStage loss becameOk raised prior s).peers = s.peers ∧
    (gapStage loss becameOk raised prior s).share = s.share ∧ (gapStage loss becameOk raised prior s).shed = s.shed ∧
    (gapStage loss becameOk raised prior s).alarms = s.alarms ∧ (gapStage loss becameOk raised prior s).port = s.port ∧
    (gapStage loss becameOk raised prior s).pending = s.pending := by
  unfold gapStage; split
  · dsimp only; split <;> simp
  · split
    · simp
    · split <;> simp

@[simp] theorem polesStage_keeps (i : WindowInput) (s : State) :
    (polesStage i s).clock = s.clock ∧ (polesStage i s).loader = s.loader ∧ (polesStage i s).supply = s.supply ∧
    (polesStage i s).line = s.line ∧ (polesStage i s).peers = s.peers ∧ (polesStage i s).share = s.share ∧
    (polesStage i s).shed = s.shed ∧ (polesStage i s).alarms = s.alarms ∧ (polesStage i s).pending = s.pending := by
  unfold polesStage; dsimp only; split <;> split <;> simp

@[simp] theorem evaluate_keeps (i : WindowInput) (loss becameOk : Bool) (prior : View) (s : State) :
    (evaluate i loss becameOk prior s).clock = s.clock ∧ (evaluate i loss becameOk prior s).loader = s.loader ∧
    (evaluate i loss becameOk prior s).pending = s.pending := by
  simp [evaluate]

@[simp] theorem completeWindow_keeps (i : WindowInput) (s : State) :
    (completeWindow i s).clock = s.clock ∧ (completeWindow i s).loader = s.loader ∧ (completeWindow i s).pending = s.pending := by
  unfold completeWindow; split
  · dsimp only; split <;> simp
  · simp

@[simp] theorem confirmRewire_keeps (i : WindowInput) (id : PoleId) (s : State) :
    (confirmRewire i id s).clock = s.clock ∧ (confirmRewire i id s).loader = s.loader ∧
    (confirmRewire i id s).pending = s.pending := by
  unfold confirmRewire; dsimp only; split <;> simp

@[simp] theorem confirmSuspicion_keeps (i : WindowInput) (id : PoleId) (s : State) :
    (confirmSuspicion i id s).clock = s.clock ∧ (confirmSuspicion i id s).loader = s.loader ∧
    (confirmSuspicion i id s).pending = s.pending := by
  unfold confirmSuspicion; dsimp only; split <;> simp

@[simp] theorem timeOutRetrieve_keeps (i : WindowInput) (id : PoleId) (s : State) :
    (timeOutRetrieve i id s).clock = s.clock ∧ (timeOutRetrieve i id s).loader = s.loader ∧
    (timeOutRetrieve i id s).pending = s.pending := by
  unfold timeOutRetrieve; dsimp only; split <;> simp

@[simp] theorem completeHead_keeps (id : PoleId) (edges : Nat) (s : State) :
    (completeHead id edges s).clock = s.clock ∧ (completeHead id edges s).loader = s.loader ∧
    (completeHead id edges s).supply = s.supply ∧ (completeHead id edges s).line = s.line ∧
    (completeHead id edges s).peers = s.peers ∧ (completeHead id edges s).share = s.share ∧
    (completeHead id edges s).shed = s.shed ∧ (completeHead id edges s).alarms = s.alarms ∧
    (completeHead id edges s).port = s.port ∧ (completeHead id edges s).pending = s.pending := by
  unfold completeHead; dsimp only; split <;> simp

@[simp] theorem endCalibration_keeps (s : State) :
    (endCalibration s).clock = s.clock ∧ (endCalibration s).loader = s.loader ∧ (endCalibration s).supply = s.supply ∧
    (endCalibration s).line = s.line ∧ (endCalibration s).peers = s.peers ∧ (endCalibration s).share = s.share ∧
    (endCalibration s).shed = s.shed ∧ (endCalibration s).alarms = s.alarms ∧ (endCalibration s).port = s.port ∧
    (endCalibration s).pending = s.pending := by
  unfold endCalibration; split <;> simp

@[simp] theorem lineDeadRaise_keeps (s : State) :
    (lineDeadRaise s).clock = s.clock ∧ (lineDeadRaise s).loader = s.loader ∧ (lineDeadRaise s).supply = s.supply ∧
    (lineDeadRaise s).peers = s.peers ∧ (lineDeadRaise s).share = s.share ∧ (lineDeadRaise s).shed = s.shed ∧
    (lineDeadRaise s).port = s.port ∧ (lineDeadRaise s).pending = s.pending := by
  unfold lineDeadRaise; split <;> simp

@[simp] theorem reachGapLimit_keeps (s : State) :
    (reachGapLimit s).clock = s.clock ∧ (reachGapLimit s).loader = s.loader ∧ (reachGapLimit s).pending = s.pending := by
  unfold reachGapLimit; split
  · dsimp only; split <;> simp [alarmEvent]
  · simp

@[simp] theorem releasePole_keeps (id : PoleId) (s : State) :
    (releasePole id s).clock = s.clock ∧ (releasePole id s).loader = s.loader ∧ (releasePole id s).pending = s.pending := by
  simp [releasePole, alarmEvent]

@[simp] theorem unwatchPoles_keeps (s : State) :
    (unwatchPoles s).clock = s.clock ∧ (unwatchPoles s).loader = s.loader ∧ (unwatchPoles s).supply = s.supply ∧
    (unwatchPoles s).line = s.line ∧ (unwatchPoles s).peers = s.peers ∧ (unwatchPoles s).share = s.share ∧
    (unwatchPoles s).shed = s.shed ∧ (unwatchPoles s).alarms = s.alarms ∧ (unwatchPoles s).port = s.port ∧
    (unwatchPoles s).pending = s.pending := by
  exact ⟨rfl, rfl, rfl, rfl, rfl, rfl, rfl, rfl, rfl, rfl⟩

/-! ### Fields that an operation leaves as they stand -/

@[simp] theorem measure_fields (edges : Nat) (s : State) :
    (measure edges s).port.abandoned = s.port.abandoned ∧ (measure edges s).port.request = s.port.request ∧
    (measure edges s).port.held = s.port.held ∧ (measure edges s).port.lost = s.port.lost ∧
    (measure edges s).port.shifted = s.port.shifted ∧
    (measure edges s).port.postedDemand = s.port.postedDemand ∧ (measure edges s).port.postedSource = s.port.postedSource ∧
    (measure edges s).port.postedCap = s.port.postedCap ∧ (measure edges s).supply.records = s.supply.records := by
  unfold measure; dsimp only; split <;> simp

@[simp] theorem viewAfterWindow_fields (loss becameOk : Bool) (s : State) :
    (viewAfterWindow loss becameOk s).supply.count = s.supply.count ∧
    (viewAfterWindow loss becameOk s).supply.windowStart = s.supply.windowStart ∧
    (viewAfterWindow loss becameOk s).supply.volts = s.supply.volts ∧
    (viewAfterWindow loss becameOk s).supply.run = s.supply.run ∧
    (viewAfterWindow loss becameOk s).supply.voltageOk = s.supply.voltageOk ∧
    (viewAfterWindow loss becameOk s).supply.hadPulses = s.supply.hadPulses ∧
    (viewAfterWindow loss becameOk s).supply.records = s.supply.records ∧
    (viewAfterWindow loss becameOk s).port.abandoned = s.port.abandoned ∧
    (viewAfterWindow loss becameOk s).port.request = s.port.request ∧
    (viewAfterWindow loss becameOk s).port.held = s.port.held ∧ (viewAfterWindow loss becameOk s).port.lost = s.port.lost ∧
    (viewAfterWindow loss becameOk s).port.shifted = s.port.shifted ∧
    (viewAfterWindow loss becameOk s).port.postedDemand = s.port.postedDemand ∧
    (viewAfterWindow loss becameOk s).port.postedSource = s.port.postedSource ∧
    (viewAfterWindow loss becameOk s).port.postedCap = s.port.postedCap ∧
    (viewAfterWindow loss becameOk s).port.sensorSource = s.port.sensorSource ∧
    (viewAfterWindow loss becameOk s).shed.demandSilence = s.shed.demandSilence ∧
    (viewAfterWindow loss becameOk s).shed.demandTimedOut = s.shed.demandTimedOut ∧
    (viewAfterWindow loss becameOk s).shed.sourceSilence = s.shed.sourceSilence ∧
    (viewAfterWindow loss becameOk s).shed.sourceTimedOut = s.shed.sourceTimedOut ∧
    (viewAfterWindow loss becameOk s).shed.demandTaken = s.shed.demandTaken ∧
    (viewAfterWindow loss becameOk s).shed.sourceTaken = s.shed.sourceTaken ∧
    (viewAfterWindow loss becameOk s).share.boundaryAt = s.share.boundaryAt ∧
    (viewAfterWindow loss becameOk s).share.boundaries = s.share.boundaries ∧
    (viewAfterWindow loss becameOk s).share.target = s.share.target ∧
    (viewAfterWindow loss becameOk s).share.budget = s.share.budget ∧
    (viewAfterWindow loss becameOk s).share.demand = s.share.demand ∧
    (viewAfterWindow loss becameOk s).share.discharge = s.share.discharge ∧
    (viewAfterWindow loss becameOk s).share.cap = s.share.cap ∧
    (viewAfterWindow loss becameOk s).share.limitElapsed = s.share.limitElapsed ∧
    (viewAfterWindow loss becameOk s).share.ceiling = s.share.ceiling ∧
    (viewAfterWindow loss becameOk s).share.floor = s.share.floor := by
  unfold viewAfterWindow; split
  · simp
  · split <;> simp

@[simp] theorem gapHeard_fields (src : Station) (g : GapContent) (s : State) :
    (gapHeard src g s).supply.count = s.supply.count ∧ (gapHeard src g s).supply.windowStart = s.supply.windowStart ∧
    (gapHeard src g s).supply.volts = s.supply.volts ∧ (gapHeard src g s).supply.run = s.supply.run ∧
    (gapHeard src g s).supply.voltageOk = s.supply.voltageOk ∧ (gapHeard src g s).supply.hadPulses = s.supply.hadPulses ∧
    (gapHeard src g s).port.abandoned = s.port.abandoned ∧ (gapHeard src g s).port.request = s.port.request ∧
    (gapHeard src g s).port.held = s.port.held ∧ (gapHeard src g s).port.lost = s.port.lost ∧
    (gapHeard src g s).port.shifted = s.port.shifted ∧
    (gapHeard src g s).port.postedDemand = s.port.postedDemand ∧
    (gapHeard src g s).port.postedSource = s.port.postedSource ∧ (gapHeard src g s).port.postedCap = s.port.postedCap ∧
    (gapHeard src g s).port.sensorSource = s.port.sensorSource ∧
    (gapHeard src g s).shed.demandSilence = s.shed.demandSilence ∧
    (gapHeard src g s).shed.demandTimedOut = s.shed.demandTimedOut ∧
    (gapHeard src g s).shed.sourceSilence = s.shed.sourceSilence ∧
    (gapHeard src g s).shed.sourceTimedOut = s.shed.sourceTimedOut ∧
    (gapHeard src g s).shed.demandTaken = s.shed.demandTaken ∧ (gapHeard src g s).shed.sourceTaken = s.shed.sourceTaken ∧
    (gapHeard src g s).share.boundaryAt = s.share.boundaryAt ∧ (gapHeard src g s).share.boundaries = s.share.boundaries ∧
    (gapHeard src g s).share.target = s.share.target ∧ (gapHeard src g s).share.budget = s.share.budget ∧
    (gapHeard src g s).share.demand = s.share.demand ∧ (gapHeard src g s).share.discharge = s.share.discharge ∧
    (gapHeard src g s).share.cap = s.share.cap ∧ (gapHeard src g s).share.limitElapsed = s.share.limitElapsed ∧
    (gapHeard src g s).share.ceiling = s.share.ceiling ∧ (gapHeard src g s).share.floor = s.share.floor := by
  unfold gapHeard gapStartHeard gapEndHeard; split
  · simp
  · split
    · split
      · dsimp only; split <;> split <;> simp
      · simp
    · simp

@[simp] theorem endRestore_fields (s : State) :
    (endRestore s).supply.count = s.supply.count ∧ (endRestore s).supply.windowStart = s.supply.windowStart ∧
    (endRestore s).supply.volts = s.supply.volts ∧ (endRestore s).supply.run = s.supply.run ∧
    (endRestore s).supply.voltageOk = s.supply.voltageOk ∧ (endRestore s).supply.hadPulses = s.supply.hadPulses ∧
    (endRestore s).supply.records = s.supply.records ∧ (endRestore s).port.abandoned = s.port.abandoned ∧
    (endRestore s).port.request = s.port.request ∧ (endRestore s).port.held = s.port.held ∧ (endRestore s).port.lost = s.port.lost ∧
    (endRestore s).port.shifted = s.port.shifted ∧ (endRestore s).port.postedDemand = s.port.postedDemand ∧
    (endRestore s).port.postedSource = s.port.postedSource ∧ (endRestore s).port.postedCap = s.port.postedCap ∧
    (endRestore s).port.sensorSource = s.port.sensorSource ∧ (endRestore s).shed.demandSilence = s.shed.demandSilence ∧
    (endRestore s).shed.demandTimedOut = s.shed.demandTimedOut ∧ (endRestore s).shed.sourceSilence = s.shed.sourceSilence ∧
    (endRestore s).shed.sourceTimedOut = s.shed.sourceTimedOut ∧ (endRestore s).shed.demandTaken = s.shed.demandTaken ∧
    (endRestore s).shed.sourceTaken = s.shed.sourceTaken := by
  unfold endRestore; split <;> simp

@[simp] theorem dewireEntry_fields (entered : PoleSet) (s : State) :
    (dewireEntry entered s).line.rx = s.line.rx ∧ (dewireEntry entered s).line.idle = s.line.idle ∧
    (dewireEntry entered s).line.attempt = s.line.attempt ∧
    (dewireEntry entered s).line.sentAt = s.line.sentAt ∧
    (dewireEntry entered s).line.stateWaiting = s.line.stateWaiting ∧
    (dewireEntry entered s).line.gapPart = s.line.gapPart ∧ (dewireEntry entered s).line.gapPairing = s.line.gapPairing ∧
    (dewireEntry entered s).line.ackPart = s.line.ackPart ∧ (dewireEntry entered s).line.tec = s.line.tec ∧
    (dewireEntry entered s).line.recv = s.line.recv ∧ (dewireEntry entered s).line.seq = s.line.seq ∧
    (dewireEntry entered s).line.statesSent = s.line.statesSent ∧
    (dewireEntry entered s).line.suspendedAt = s.line.suspendedAt ∧
    (dewireEntry entered s).line.stateFirst = s.line.stateFirst ∧
    (dewireEntry entered s).alarms.buttonArmed = s.alarms.buttonArmed ∧
    (dewireEntry entered s).alarms.debounceStart = s.alarms.debounceStart ∧
    (dewireEntry entered s).alarms.lamp = s.alarms.lamp ∧ (dewireEntry entered s).alarms.lampLit = s.alarms.lampLit ∧
    (dewireEntry entered s).alarms.flashStart = s.alarms.flashStart ∧
    (dewireEntry entered s).poles.openGap = s.poles.openGap ∧ (dewireEntry entered s).poles.gapSerial = s.poles.gapSerial ∧
    (dewireEntry entered s).poles.p = s.poles.p ∧ (dewireEntry entered s).poles.n = s.poles.n := by
  unfold dewireEntry; split
  · simp
  · split
    · simp [withDewire]
    · split <;> simp [withDewire]

@[simp] theorem dewireClear_fields (s : State) :
    (dewireClear s).line.rx = s.line.rx ∧ (dewireClear s).line.idle = s.line.idle ∧
    (dewireClear s).line.attempt = s.line.attempt ∧
    (dewireClear s).line.sentAt = s.line.sentAt ∧ (dewireClear s).line.stateWaiting = s.line.stateWaiting ∧
    (dewireClear s).line.gapPart = s.line.gapPart ∧ (dewireClear s).line.gapPairing = s.line.gapPairing ∧
    (dewireClear s).line.ackPart = s.line.ackPart ∧ (dewireClear s).line.tec = s.line.tec ∧
    (dewireClear s).line.recv = s.line.recv ∧ (dewireClear s).line.seq = s.line.seq ∧
    (dewireClear s).line.statesSent = s.line.statesSent ∧ (dewireClear s).line.suspendedAt = s.line.suspendedAt ∧
    (dewireClear s).line.stateFirst = s.line.stateFirst ∧ (dewireClear s).alarms.nextNumber = s.alarms.nextNumber ∧
    (dewireClear s).alarms.buttonArmed = s.alarms.buttonArmed ∧
    (dewireClear s).alarms.debounceStart = s.alarms.debounceStart ∧ (dewireClear s).alarms.lamp = s.alarms.lamp ∧
    (dewireClear s).alarms.lampLit = s.alarms.lampLit ∧ (dewireClear s).alarms.flashStart = s.alarms.flashStart ∧
    (dewireClear s).alarms.buzzer = s.alarms.buzzer ∧ (dewireClear s).alarms.soundStart = s.alarms.soundStart ∧
    (dewireClear s).alarms.reminderStart = s.alarms.reminderStart ∧ (dewireClear s).poles.openGap = s.poles.openGap ∧
    (dewireClear s).poles.gapSerial = s.poles.gapSerial ∧ (dewireClear s).poles.p = s.poles.p ∧
    (dewireClear s).poles.n = s.poles.n := by
  unfold dewireClear; split
  · simp
  · split <;> simp [withDewire]

@[simp] theorem retrieveFailEntry_fields (timed : PoleSet) (s : State) :
    (retrieveFailEntry timed s).line.rx = s.line.rx ∧ (retrieveFailEntry timed s).line.idle = s.line.idle ∧
    (retrieveFailEntry timed s).line.attempt = s.line.attempt ∧
    (retrieveFailEntry timed s).line.sentAt = s.line.sentAt ∧
    (retrieveFailEntry timed s).line.stateWaiting = s.line.stateWaiting ∧
    (retrieveFailEntry timed s).line.gapPart = s.line.gapPart ∧
    (retrieveFailEntry timed s).line.gapPairing = s.line.gapPairing ∧
    (retrieveFailEntry timed s).line.ackPart = s.line.ackPart ∧ (retrieveFailEntry timed s).line.tec = s.line.tec ∧
    (retrieveFailEntry timed s).line.recv = s.line.recv ∧ (retrieveFailEntry timed s).line.seq = s.line.seq ∧
    (retrieveFailEntry timed s).line.statesSent = s.line.statesSent ∧
    (retrieveFailEntry timed s).line.suspendedAt = s.line.suspendedAt ∧
    (retrieveFailEntry timed s).line.stateFirst = s.line.stateFirst ∧
    (retrieveFailEntry timed s).alarms.buttonArmed = s.alarms.buttonArmed ∧
    (retrieveFailEntry timed s).alarms.debounceStart = s.alarms.debounceStart ∧
    (retrieveFailEntry timed s).alarms.lamp = s.alarms.lamp ∧
    (retrieveFailEntry timed s).alarms.lampLit = s.alarms.lampLit ∧
    (retrieveFailEntry timed s).alarms.flashStart = s.alarms.flashStart ∧
    (retrieveFailEntry timed s).poles.openGap = s.poles.openGap ∧
    (retrieveFailEntry timed s).poles.gapSerial = s.poles.gapSerial ∧ (retrieveFailEntry timed s).poles.p = s.poles.p ∧
    (retrieveFailEntry timed s).poles.n = s.poles.n := by
  unfold retrieveFailEntry; split
  · simp
  · split
    · simp [withRetrieveFail]
    · dsimp only; split <;> simp [withRetrieveFail]

@[simp] theorem retrieveFailReached_fields (downP downN : Bool) (s : State) :
    (retrieveFailReached downP downN s).line.rx = s.line.rx ∧ (retrieveFailReached downP downN s).line.idle = s.line.idle ∧
    (retrieveFailReached downP downN s).line.attempt = s.line.attempt ∧
    (retrieveFailReached downP downN s).line.sentAt = s.line.sentAt ∧
    (retrieveFailReached downP downN s).line.stateWaiting = s.line.stateWaiting ∧
    (retrieveFailReached downP downN s).line.gapPart = s.line.gapPart ∧
    (retrieveFailReached downP downN s).line.gapPairing = s.line.gapPairing ∧
    (retrieveFailReached downP downN s).line.ackPart = s.line.ackPart ∧
    (retrieveFailReached downP downN s).line.tec = s.line.tec ∧
    (retrieveFailReached downP downN s).line.recv = s.line.recv ∧
    (retrieveFailReached downP downN s).line.seq = s.line.seq ∧
    (retrieveFailReached downP downN s).line.statesSent = s.line.statesSent ∧
    (retrieveFailReached downP downN s).line.suspendedAt = s.line.suspendedAt ∧
    (retrieveFailReached downP downN s).line.stateFirst = s.line.stateFirst ∧
    (retrieveFailReached downP downN s).alarms.nextNumber = s.alarms.nextNumber ∧
    (retrieveFailReached downP downN s).alarms.buttonArmed = s.alarms.buttonArmed ∧
    (retrieveFailReached downP downN s).alarms.debounceStart = s.alarms.debounceStart ∧
    (retrieveFailReached downP downN s).alarms.lamp = s.alarms.lamp ∧
    (retrieveFailReached downP downN s).alarms.lampLit = s.alarms.lampLit ∧
    (retrieveFailReached downP downN s).alarms.flashStart = s.alarms.flashStart ∧
    (retrieveFailReached downP downN s).alarms.buzzer = s.alarms.buzzer ∧
    (retrieveFailReached downP downN s).alarms.soundStart = s.alarms.soundStart ∧
    (retrieveFailReached downP downN s).alarms.reminderStart = s.alarms.reminderStart ∧
    (retrieveFailReached downP downN s).poles.openGap = s.poles.openGap ∧
    (retrieveFailReached downP downN s).poles.gapSerial = s.poles.gapSerial ∧
    (retrieveFailReached downP downN s).poles.p = s.poles.p ∧ (retrieveFailReached downP downN s).poles.n = s.poles.n := by
  unfold retrieveFailReached; split
  · simp
  · dsimp only; split <;> simp [withRetrieveFail]

@[simp] theorem lineDeadClear_fields (s : State) :
    (lineDeadClear s).line.rx = s.line.rx ∧ (lineDeadClear s).line.idle = s.line.idle ∧
    (lineDeadClear s).line.attempt = s.line.attempt ∧
    (lineDeadClear s).line.sentAt = s.line.sentAt ∧ (lineDeadClear s).line.stateWaiting = s.line.stateWaiting ∧
    (lineDeadClear s).line.gapPart = s.line.gapPart ∧ (lineDeadClear s).line.gapPairing = s.line.gapPairing ∧
    (lineDeadClear s).line.ackPart = s.line.ackPart ∧ (lineDeadClear s).line.tec = s.line.tec ∧
    (lineDeadClear s).line.recv = s.line.recv ∧ (lineDeadClear s).line.seq = s.line.seq ∧
    (lineDeadClear s).line.statesSent = s.line.statesSent ∧ (lineDeadClear s).line.suspendedAt = s.line.suspendedAt ∧
    (lineDeadClear s).line.stateFirst = s.line.stateFirst ∧ (lineDeadClear s).alarms.nextNumber = s.alarms.nextNumber ∧
    (lineDeadClear s).alarms.buttonArmed = s.alarms.buttonArmed ∧
    (lineDeadClear s).alarms.debounceStart = s.alarms.debounceStart ∧ (lineDeadClear s).alarms.lamp = s.alarms.lamp ∧
    (lineDeadClear s).alarms.lampLit = s.alarms.lampLit ∧ (lineDeadClear s).alarms.flashStart = s.alarms.flashStart ∧
    (lineDeadClear s).alarms.buzzer = s.alarms.buzzer ∧ (lineDeadClear s).alarms.soundStart = s.alarms.soundStart ∧
    (lineDeadClear s).alarms.reminderStart = s.alarms.reminderStart ∧ (lineDeadClear s).poles.openGap = s.poles.openGap ∧
    (lineDeadClear s).poles.gapSerial = s.poles.gapSerial ∧ (lineDeadClear s).poles.p = s.poles.p ∧
    (lineDeadClear s).poles.n = s.poles.n := by
  unfold lineDeadClear; split
  · simp
  · split <;> simp [withLineDead]

@[simp] theorem lineDeadRaise_fields (s : State) :
    (lineDeadRaise s).line.rx = s.line.rx ∧ (lineDeadRaise s).line.idle = s.line.idle ∧
    (lineDeadRaise s).line.attempt = s.line.attempt ∧
    (lineDeadRaise s).line.sentAt = s.line.sentAt ∧ (lineDeadRaise s).line.stateWaiting = s.line.stateWaiting ∧
    (lineDeadRaise s).line.gapPart = s.line.gapPart ∧ (lineDeadRaise s).line.gapPairing = s.line.gapPairing ∧
    (lineDeadRaise s).line.ackPart = s.line.ackPart ∧ (lineDeadRaise s).line.tec = s.line.tec ∧
    (lineDeadRaise s).line.recv = s.line.recv ∧ (lineDeadRaise s).line.seq = s.line.seq ∧
    (lineDeadRaise s).line.statesSent = s.line.statesSent ∧ (lineDeadRaise s).line.suspendedAt = s.line.suspendedAt ∧
    (lineDeadRaise s).line.stateFirst = s.line.stateFirst ∧ (lineDeadRaise s).alarms.buttonArmed = s.alarms.buttonArmed ∧
    (lineDeadRaise s).alarms.debounceStart = s.alarms.debounceStart ∧ (lineDeadRaise s).alarms.lamp = s.alarms.lamp ∧
    (lineDeadRaise s).alarms.lampLit = s.alarms.lampLit ∧ (lineDeadRaise s).alarms.flashStart = s.alarms.flashStart ∧
    (lineDeadRaise s).poles.openGap = s.poles.openGap ∧ (lineDeadRaise s).poles.gapSerial = s.poles.gapSerial ∧
    (lineDeadRaise s).poles.p = s.poles.p ∧ (lineDeadRaise s).poles.n = s.poles.n := by
  unfold lineDeadRaise; split <;> simp [withLineDead]

@[simp] theorem alarmStage_fields (entered timed : PoleSet) (s : State) :
    (alarmStage entered timed s).line.rx = s.line.rx ∧ (alarmStage entered timed s).line.idle = s.line.idle ∧
    (alarmStage entered timed s).line.attempt = s.line.attempt ∧
    (alarmStage entered timed s).line.sentAt = s.line.sentAt ∧
    (alarmStage entered timed s).line.stateWaiting = s.line.stateWaiting ∧
    (alarmStage entered timed s).line.gapPart = s.line.gapPart ∧
    (alarmStage entered timed s).line.gapPairing = s.line.gapPairing ∧
    (alarmStage entered timed s).line.ackPart = s.line.ackPart ∧ (alarmStage entered timed s).line.tec = s.line.tec ∧
    (alarmStage entered timed s).line.recv = s.line.recv ∧ (alarmStage entered timed s).line.seq = s.line.seq ∧
    (alarmStage entered timed s).line.statesSent = s.line.statesSent ∧
    (alarmStage entered timed s).line.suspendedAt = s.line.suspendedAt ∧
    (alarmStage entered timed s).line.stateFirst = s.line.stateFirst ∧
    (alarmStage entered timed s).alarms.buttonArmed = s.alarms.buttonArmed ∧
    (alarmStage entered timed s).alarms.debounceStart = s.alarms.debounceStart ∧
    (alarmStage entered timed s).poles.p = s.poles.p ∧ (alarmStage entered timed s).poles.n = s.poles.n ∧
    (alarmStage entered timed s).supply.count = s.supply.count ∧
    (alarmStage entered timed s).supply.windowStart = s.supply.windowStart ∧
    (alarmStage entered timed s).supply.volts = s.supply.volts ∧ (alarmStage entered timed s).supply.run = s.supply.run ∧
    (alarmStage entered timed s).supply.voltageOk = s.supply.voltageOk ∧
    (alarmStage entered timed s).supply.hadPulses = s.supply.hadPulses ∧
    (alarmStage entered timed s).port.abandoned = s.port.abandoned ∧
    (alarmStage entered timed s).port.request = s.port.request ∧ (alarmStage entered timed s).port.held = s.port.held ∧
    (alarmStage entered timed s).port.lost = s.port.lost ∧
    (alarmStage entered timed s).port.shifted = s.port.shifted ∧
    (alarmStage entered timed s).port.postedDemand = s.port.postedDemand ∧
    (alarmStage entered timed s).port.postedSource = s.port.postedSource ∧
    (alarmStage entered timed s).port.postedCap = s.port.postedCap ∧
    (alarmStage entered timed s).port.sensorSource = s.port.sensorSource ∧
    (alarmStage entered timed s).shed.demandSilence = s.shed.demandSilence ∧
    (alarmStage entered timed s).shed.demandTimedOut = s.shed.demandTimedOut ∧
    (alarmStage entered timed s).shed.sourceSilence = s.shed.sourceSilence ∧
    (alarmStage entered timed s).shed.sourceTimedOut = s.shed.sourceTimedOut ∧
    (alarmStage entered timed s).shed.demandTaken = s.shed.demandTaken ∧
    (alarmStage entered timed s).shed.sourceTaken = s.shed.sourceTaken ∧
    (alarmStage entered timed s).share.boundaryAt = s.share.boundaryAt ∧
    (alarmStage entered timed s).share.boundaries = s.share.boundaries ∧
    (alarmStage entered timed s).share.target = s.share.target ∧
    (alarmStage entered timed s).share.budget = s.share.budget ∧
    (alarmStage entered timed s).share.demand = s.share.demand ∧
    (alarmStage entered timed s).share.discharge = s.share.discharge ∧
    (alarmStage entered timed s).share.cap = s.share.cap ∧
    (alarmStage entered timed s).share.limitElapsed = s.share.limitElapsed := by
  simp [alarmStage, alarmEvent, closingInOrder, handOffs]

@[simp] theorem gapStage_fields (loss becameOk raised : Bool) (prior : View) (s : State) :
    (gapStage loss becameOk raised prior s).line.rx = s.line.rx ∧
    (gapStage loss becameOk raised prior s).line.idle = s.line.idle ∧
    (gapStage loss becameOk raised prior s).line.attempt = s.line.attempt ∧
    (gapStage loss becameOk raised prior s).line.sentAt = s.line.sentAt ∧
    (gapStage loss becameOk raised prior s).line.stateWaiting = s.line.stateWaiting ∧
    (gapStage loss becameOk raised prior s).line.alarmPart = s.line.alarmPart ∧
    (gapStage loss becameOk raised prior s).line.ackPart = s.line.ackPart ∧
    (gapStage loss becameOk raised prior s).line.tec = s.line.tec ∧
    (gapStage loss becameOk raised prior s).line.recv = s.line.recv ∧
    (gapStage loss becameOk raised prior s).line.seq = s.line.seq ∧
    (gapStage loss becameOk raised prior s).line.statesSent = s.line.statesSent ∧
    (gapStage loss becameOk raised prior s).line.suspendedAt = s.line.suspendedAt ∧
    (gapStage loss becameOk raised prior s).line.stateFirst = s.line.stateFirst ∧
    (gapStage loss becameOk raised prior s).poles.p = s.poles.p ∧
    (gapStage loss becameOk raised prior s).poles.n = s.poles.n := by
  unfold gapStage; split
  · dsimp only; split <;> simp
  · split
    · simp
    · split <;> simp

@[simp] theorem polesStage_fields (i : WindowInput) (s : State) :
    (polesStage i s).port.abandoned = s.port.abandoned ∧ (polesStage i s).port.request = s.port.request ∧
    (polesStage i s).port.held = s.port.held ∧ (polesStage i s).port.lost = s.port.lost ∧
    (polesStage i s).port.shifted = s.port.shifted ∧
    (polesStage i s).port.postedDemand = s.port.postedDemand ∧ (polesStage i s).port.postedSource = s.port.postedSource ∧
    (polesStage i s).port.postedCap = s.port.postedCap ∧ (polesStage i s).poles.openGap = s.poles.openGap ∧
    (polesStage i s).poles.gapSerial = s.poles.gapSerial := by
  unfold polesStage; dsimp only; split <;> split <;> simp

@[simp] theorem evaluate_fields (i : WindowInput) (loss becameOk : Bool) (prior : View) (s : State) :
    (evaluate i loss becameOk prior s).line.rx = s.line.rx ∧ (evaluate i loss becameOk prior s).line.idle = s.line.idle ∧
    (evaluate i loss becameOk prior s).line.attempt = s.line.attempt ∧
    (evaluate i loss becameOk prior s).line.sentAt = s.line.sentAt ∧
    (evaluate i loss becameOk prior s).line.stateWaiting = s.line.stateWaiting ∧
    (evaluate i loss becameOk prior s).line.ackPart = s.line.ackPart ∧
    (evaluate i loss becameOk prior s).line.tec = s.line.tec ∧ (evaluate i loss becameOk prior s).line.recv = s.line.recv ∧
    (evaluate i loss becameOk prior s).line.seq = s.line.seq ∧
    (evaluate i loss becameOk prior s).line.statesSent = s.line.statesSent ∧
    (evaluate i loss becameOk prior s).line.suspendedAt = s.line.suspendedAt ∧
    (evaluate i loss becameOk prior s).line.stateFirst = s.line.stateFirst ∧
    (evaluate i loss becameOk prior s).supply.count = s.supply.count ∧
    (evaluate i loss becameOk prior s).supply.windowStart = s.supply.windowStart ∧
    (evaluate i loss becameOk prior s).supply.volts = s.supply.volts ∧
    (evaluate i loss becameOk prior s).supply.run = s.supply.run ∧
    (evaluate i loss becameOk prior s).supply.voltageOk = s.supply.voltageOk ∧
    (evaluate i loss becameOk prior s).supply.hadPulses = s.supply.hadPulses ∧
    (evaluate i loss becameOk prior s).port.abandoned = s.port.abandoned ∧
    (evaluate i loss becameOk prior s).port.request = s.port.request ∧
    (evaluate i loss becameOk prior s).port.held = s.port.held ∧ (evaluate i loss becameOk prior s).port.lost = s.port.lost ∧
    (evaluate i loss becameOk prior s).port.shifted = s.port.shifted ∧
    (evaluate i loss becameOk prior s).port.postedDemand = s.port.postedDemand ∧
    (evaluate i loss becameOk prior s).port.postedSource = s.port.postedSource ∧
    (evaluate i loss becameOk prior s).port.postedCap = s.port.postedCap ∧
    (evaluate i loss becameOk prior s).shed.demandSilence = s.shed.demandSilence ∧
    (evaluate i loss becameOk prior s).shed.demandTimedOut = s.shed.demandTimedOut ∧
    (evaluate i loss becameOk prior s).shed.sourceSilence = s.shed.sourceSilence ∧
    (evaluate i loss becameOk prior s).shed.sourceTimedOut = s.shed.sourceTimedOut ∧
    (evaluate i loss becameOk prior s).shed.demandTaken = s.shed.demandTaken ∧
    (evaluate i loss becameOk prior s).shed.sourceTaken = s.shed.sourceTaken ∧
    (evaluate i loss becameOk prior s).share.boundaryAt = s.share.boundaryAt ∧
    (evaluate i loss becameOk prior s).share.boundaries = s.share.boundaries ∧
    (evaluate i loss becameOk prior s).share.target = s.share.target ∧
    (evaluate i loss becameOk prior s).share.budget = s.share.budget ∧
    (evaluate i loss becameOk prior s).share.demand = s.share.demand ∧
    (evaluate i loss becameOk prior s).share.discharge = s.share.discharge ∧
    (evaluate i loss becameOk prior s).share.cap = s.share.cap ∧
    (evaluate i loss becameOk prior s).share.limitElapsed = s.share.limitElapsed ∧
    (evaluate i loss becameOk prior s).alarms.buttonArmed = s.alarms.buttonArmed ∧
    (evaluate i loss becameOk prior s).alarms.debounceStart = s.alarms.debounceStart := by
  simp [evaluate]

@[simp] theorem completeWindow_fields (i : WindowInput) (s : State) :
    (completeWindow i s).line.rx = s.line.rx ∧ (completeWindow i s).line.idle = s.line.idle ∧
    (completeWindow i s).line.attempt = s.line.attempt ∧
    (completeWindow i s).line.sentAt = s.line.sentAt ∧ (completeWindow i s).line.stateWaiting = s.line.stateWaiting ∧
    (completeWindow i s).line.ackPart = s.line.ackPart ∧ (completeWindow i s).line.tec = s.line.tec ∧
    (completeWindow i s).line.recv = s.line.recv ∧ (completeWindow i s).line.seq = s.line.seq ∧
    (completeWindow i s).line.statesSent = s.line.statesSent ∧ (completeWindow i s).line.suspendedAt = s.line.suspendedAt ∧
    (completeWindow i s).line.stateFirst = s.line.stateFirst ∧ (completeWindow i s).port.abandoned = s.port.abandoned ∧
    (completeWindow i s).port.request = s.port.request ∧ (completeWindow i s).port.held = s.port.held ∧
    (completeWindow i s).port.lost = s.port.lost ∧
    (completeWindow i s).port.shifted = s.port.shifted ∧ (completeWindow i s).port.postedDemand = s.port.postedDemand ∧
    (completeWindow i s).port.postedSource = s.port.postedSource ∧ (completeWindow i s).port.postedCap = s.port.postedCap ∧
    (completeWindow i s).shed.demandSilence = s.shed.demandSilence ∧
    (completeWindow i s).shed.demandTimedOut = s.shed.demandTimedOut ∧
    (completeWindow i s).shed.sourceSilence = s.shed.sourceSilence ∧
    (completeWindow i s).shed.sourceTimedOut = s.shed.sourceTimedOut ∧
    (completeWindow i s).shed.demandTaken = s.shed.demandTaken ∧
    (completeWindow i s).shed.sourceTaken = s.shed.sourceTaken ∧
    (completeWindow i s).share.boundaryAt = s.share.boundaryAt ∧
    (completeWindow i s).share.boundaries = s.share.boundaries ∧ (completeWindow i s).share.target = s.share.target ∧
    (completeWindow i s).share.budget = s.share.budget ∧ (completeWindow i s).share.demand = s.share.demand ∧
    (completeWindow i s).share.discharge = s.share.discharge ∧ (completeWindow i s).share.cap = s.share.cap ∧
    (completeWindow i s).share.limitElapsed = s.share.limitElapsed ∧
    (completeWindow i s).alarms.buttonArmed = s.alarms.buttonArmed ∧
    (completeWindow i s).alarms.debounceStart = s.alarms.debounceStart := by
  unfold completeWindow; split
  · dsimp only; split <;> simp
  · simp

@[simp] theorem reachGapLimit_fields (s : State) :
    (reachGapLimit s).line.rx = s.line.rx ∧ (reachGapLimit s).line.idle = s.line.idle ∧
    (reachGapLimit s).line.attempt = s.line.attempt ∧
    (reachGapLimit s).line.sentAt = s.line.sentAt ∧ (reachGapLimit s).line.stateWaiting = s.line.stateWaiting ∧
    (reachGapLimit s).line.gapPart = s.line.gapPart ∧ (reachGapLimit s).line.gapPairing = s.line.gapPairing ∧
    (reachGapLimit s).line.ackPart = s.line.ackPart ∧ (reachGapLimit s).line.tec = s.line.tec ∧
    (reachGapLimit s).line.recv = s.line.recv ∧ (reachGapLimit s).line.seq = s.line.seq ∧
    (reachGapLimit s).line.statesSent = s.line.statesSent ∧ (reachGapLimit s).line.suspendedAt = s.line.suspendedAt ∧
    (reachGapLimit s).line.stateFirst = s.line.stateFirst ∧ (reachGapLimit s).supply.count = s.supply.count ∧
    (reachGapLimit s).supply.windowStart = s.supply.windowStart ∧ (reachGapLimit s).supply.volts = s.supply.volts ∧
    (reachGapLimit s).supply.run = s.supply.run ∧ (reachGapLimit s).supply.voltageOk = s.supply.voltageOk ∧
    (reachGapLimit s).supply.hadPulses = s.supply.hadPulses ∧ (reachGapLimit s).port.abandoned = s.port.abandoned ∧
    (reachGapLimit s).port.request = s.port.request ∧ (reachGapLimit s).port.held = s.port.held ∧
    (reachGapLimit s).port.lost = s.port.lost ∧
    (reachGapLimit s).port.shifted = s.port.shifted ∧ (reachGapLimit s).port.postedDemand = s.port.postedDemand ∧
    (reachGapLimit s).port.postedSource = s.port.postedSource ∧ (reachGapLimit s).port.postedCap = s.port.postedCap ∧
    (reachGapLimit s).port.sensorSource = s.port.sensorSource ∧
    (reachGapLimit s).shed.demandSilence = s.shed.demandSilence ∧
    (reachGapLimit s).shed.demandTimedOut = s.shed.demandTimedOut ∧
    (reachGapLimit s).shed.sourceSilence = s.shed.sourceSilence ∧
    (reachGapLimit s).shed.sourceTimedOut = s.shed.sourceTimedOut ∧
    (reachGapLimit s).shed.demandTaken = s.shed.demandTaken ∧ (reachGapLimit s).shed.sourceTaken = s.shed.sourceTaken ∧
    (reachGapLimit s).share.boundaryAt = s.share.boundaryAt ∧ (reachGapLimit s).share.boundaries = s.share.boundaries ∧
    (reachGapLimit s).share.target = s.share.target ∧ (reachGapLimit s).share.budget = s.share.budget ∧
    (reachGapLimit s).share.demand = s.share.demand ∧ (reachGapLimit s).share.discharge = s.share.discharge ∧
    (reachGapLimit s).share.cap = s.share.cap ∧ (reachGapLimit s).share.limitElapsed = s.share.limitElapsed ∧
    (reachGapLimit s).alarms.buttonArmed = s.alarms.buttonArmed ∧
    (reachGapLimit s).alarms.debounceStart = s.alarms.debounceStart ∧ (reachGapLimit s).poles.p = s.poles.p ∧
    (reachGapLimit s).poles.n = s.poles.n := by
  unfold reachGapLimit; split
  · dsimp only; split <;> simp [alarmEvent]
  · simp

@[simp] theorem releasePole_fields (id : PoleId) (s : State) :
    (releasePole id s).line.rx = s.line.rx ∧ (releasePole id s).line.idle = s.line.idle ∧
    (releasePole id s).line.attempt = s.line.attempt ∧
    (releasePole id s).line.sentAt = s.line.sentAt ∧ (releasePole id s).line.stateWaiting = s.line.stateWaiting ∧
    (releasePole id s).line.gapPart = s.line.gapPart ∧ (releasePole id s).line.gapPairing = s.line.gapPairing ∧
    (releasePole id s).line.ackPart = s.line.ackPart ∧ (releasePole id s).line.tec = s.line.tec ∧
    (releasePole id s).line.recv = s.line.recv ∧ (releasePole id s).line.seq = s.line.seq ∧
    (releasePole id s).line.statesSent = s.line.statesSent ∧ (releasePole id s).line.suspendedAt = s.line.suspendedAt ∧
    (releasePole id s).line.stateFirst = s.line.stateFirst ∧ (releasePole id s).supply.count = s.supply.count ∧
    (releasePole id s).supply.windowStart = s.supply.windowStart ∧ (releasePole id s).supply.volts = s.supply.volts ∧
    (releasePole id s).supply.run = s.supply.run ∧ (releasePole id s).supply.voltageOk = s.supply.voltageOk ∧
    (releasePole id s).supply.hadPulses = s.supply.hadPulses ∧ (releasePole id s).port.abandoned = s.port.abandoned ∧
    (releasePole id s).port.request = s.port.request ∧ (releasePole id s).port.held = s.port.held ∧
    (releasePole id s).port.lost = s.port.lost ∧
    (releasePole id s).port.shifted = s.port.shifted ∧ (releasePole id s).port.postedDemand = s.port.postedDemand ∧
    (releasePole id s).port.postedSource = s.port.postedSource ∧ (releasePole id s).port.postedCap = s.port.postedCap ∧
    (releasePole id s).port.sensorSource = s.port.sensorSource ∧
    (releasePole id s).shed.demandSilence = s.shed.demandSilence ∧
    (releasePole id s).shed.demandTimedOut = s.shed.demandTimedOut ∧
    (releasePole id s).shed.sourceSilence = s.shed.sourceSilence ∧
    (releasePole id s).shed.sourceTimedOut = s.shed.sourceTimedOut ∧
    (releasePole id s).shed.demandTaken = s.shed.demandTaken ∧ (releasePole id s).shed.sourceTaken = s.shed.sourceTaken ∧
    (releasePole id s).share.boundaryAt = s.share.boundaryAt ∧ (releasePole id s).share.boundaries = s.share.boundaries ∧
    (releasePole id s).share.target = s.share.target ∧ (releasePole id s).share.budget = s.share.budget ∧
    (releasePole id s).share.demand = s.share.demand ∧ (releasePole id s).share.discharge = s.share.discharge ∧
    (releasePole id s).share.cap = s.share.cap ∧ (releasePole id s).share.limitElapsed = s.share.limitElapsed ∧
    (releasePole id s).alarms.nextNumber = s.alarms.nextNumber ∧
    (releasePole id s).alarms.buttonArmed = s.alarms.buttonArmed ∧
    (releasePole id s).alarms.debounceStart = s.alarms.debounceStart := by
  simp [releasePole, alarmEvent]

end Sys2Proof.Machine
end

