-- ==== Sys2Proof/Laws/Line.lean ====
section
/-!
SUPPORT. The operations of Machine/Line.lean: which blocks of the state each leaves as they stand.
-/
namespace Sys2Proof.Machine

@[simp] theorem writeOwn_keeps (s : State) :
    (writeOwn s).clock = s.clock ∧ (writeOwn s).loader = s.loader ∧ (writeOwn s).supply = s.supply ∧
    (writeOwn s).poles = s.poles ∧ (writeOwn s).line = s.line ∧ (writeOwn s).share = s.share ∧ (writeOwn s).shed = s.shed ∧
    (writeOwn s).alarms = s.alarms ∧ (writeOwn s).port = s.port ∧ (writeOwn s).pending = s.pending := by
  exact ⟨rfl, rfl, rfl, rfl, rfl, rfl, rfl, rfl, rfl, rfl⟩

@[simp] theorem reportsDiscarded_keeps (cs : List AckContent) (s : State) :
    (cs.foldl (fun s c => reportDiscarded c s) s).clock = s.clock ∧
    (cs.foldl (fun s c => reportDiscarded c s) s).loader = s.loader ∧
    (cs.foldl (fun s c => reportDiscarded c s) s).supply = s.supply ∧
    (cs.foldl (fun s c => reportDiscarded c s) s).poles = s.poles ∧
    (cs.foldl (fun s c => reportDiscarded c s) s).line = s.line ∧
    (cs.foldl (fun s c => reportDiscarded c s) s).peers = s.peers ∧
    (cs.foldl (fun s c => reportDiscarded c s) s).share = s.share ∧
    (cs.foldl (fun s c => reportDiscarded c s) s).shed = s.shed ∧
    (cs.foldl (fun s c => reportDiscarded c s) s).port = s.port ∧
    (cs.foldl (fun s c => reportDiscarded c s) s).pending = s.pending := by
  refine ⟨?_, ?_, ?_, ?_, ?_, ?_, ?_, ?_, ?_, ?_⟩ <;> exact foldl_keeps _ _ (by simp) _ _

@[simp] theorem reportsSent_keeps (cs : List AckContent) (s : State) :
    (cs.foldl (fun s c => reportSent c s) s).clock = s.clock ∧ (cs.foldl (fun s c => reportSent c s) s).loader = s.loader ∧
    (cs.foldl (fun s c => reportSent c s) s).supply = s.supply ∧ (cs.foldl (fun s c => reportSent c s) s).poles = s.poles ∧
    (cs.foldl (fun s c => reportSent c s) s).line = s.line ∧ (cs.foldl (fun s c => reportSent c s) s).peers = s.peers ∧
    (cs.foldl (fun s c => reportSent c s) s).share = s.share ∧ (cs.foldl (fun s c => reportSent c s) s).shed = s.shed ∧
    (cs.foldl (fun s c => reportSent c s) s).port = s.port ∧ (cs.foldl (fun s c => reportSent c s) s).pending = s.pending := by
  refine ⟨?_, ?_, ?_, ?_, ?_, ?_, ?_, ?_, ?_, ?_⟩ <;> exact foldl_keeps _ _ (by simp) _ _

@[simp] theorem discardAcks_keeps (s : State) :
    (discardAcks s).clock = s.clock ∧ (discardAcks s).loader = s.loader ∧ (discardAcks s).supply = s.supply ∧
    (discardAcks s).poles = s.poles ∧ (discardAcks s).line = s.line ∧ (discardAcks s).peers = s.peers ∧
    (discardAcks s).share = s.share ∧ (discardAcks s).shed = s.shed ∧ (discardAcks s).port = s.port ∧
    (discardAcks s).pending = s.pending := by
  unfold discardAcks
  refine ⟨?_, ?_, ?_, ?_, ?_, ?_, ?_, ?_, ?_, ?_⟩ <;> exact foldl_keeps _ _ (by simp) _ _

@[simp] theorem emptyQueue_keeps (s : State) :
    (emptyQueue s).clock = s.clock ∧ (emptyQueue s).loader = s.loader ∧ (emptyQueue s).supply = s.supply ∧
    (emptyQueue s).poles = s.poles ∧ (emptyQueue s).peers = s.peers ∧ (emptyQueue s).share = s.share ∧
    (emptyQueue s).shed = s.shed ∧ (emptyQueue s).port = s.port ∧ (emptyQueue s).pending = s.pending := by
  simp [emptyQueue]

@[simp] theorem enterSuspended_keeps (s : State) :
    (enterSuspended s).clock = s.clock ∧ (enterSuspended s).supply = s.supply ∧ (enterSuspended s).poles = s.poles ∧
    (enterSuspended s).shed = s.shed ∧ (enterSuspended s).pending = s.pending := by
  simp [enterSuspended]

@[simp] theorem idleLine_keeps (idle : Nat) (s : State) :
    (idleLine idle s).clock = s.clock ∧ (idleLine idle s).loader = s.loader ∧ (idleLine idle s).supply = s.supply ∧
    (idleLine idle s).poles = s.poles ∧ (idleLine idle s).peers = s.peers ∧ (idleLine idle s).share = s.share ∧
    (idleLine idle s).shed = s.shed ∧ (idleLine idle s).alarms = s.alarms ∧ (idleLine idle s).port = s.port ∧
    (idleLine idle s).pending = s.pending := by
  unfold idleLine; split
  · simp
  · split <;> simp

@[simp] theorem startAttempt_keeps (idle : Nat) (s : State) :
    (startAttempt idle s).clock = s.clock ∧ (startAttempt idle s).loader = s.loader ∧
    (startAttempt idle s).supply = s.supply ∧ (startAttempt idle s).poles = s.poles ∧
    (startAttempt idle s).peers = s.peers ∧ (startAttempt idle s).share = s.share ∧ (startAttempt idle s).shed = s.shed ∧
    (startAttempt idle s).alarms = s.alarms ∧ (startAttempt idle s).port = s.port ∧
    (startAttempt idle s).pending = s.pending := by
  unfold startAttempt; dsimp only; split
  · split
    · split <;> simp
    · simp
  · simp

@[simp] theorem ackAfterAbort_keeps (s : State) :
    (ackAfterAbort s).clock = s.clock ∧ (ackAfterAbort s).loader = s.loader ∧ (ackAfterAbort s).supply = s.supply ∧
    (ackAfterAbort s).poles = s.poles ∧ (ackAfterAbort s).peers = s.peers ∧ (ackAfterAbort s).share = s.share ∧
    (ackAfterAbort s).shed = s.shed ∧ (ackAfterAbort s).port = s.port ∧ (ackAfterAbort s).pending = s.pending := by
  simp [ackAfterAbort]

@[simp] theorem ackAfterSuccess_keeps (s : State) :
    (ackAfterSuccess s).clock = s.clock ∧ (ackAfterSuccess s).loader = s.loader ∧ (ackAfterSuccess s).supply = s.supply ∧
    (ackAfterSuccess s).poles = s.poles ∧ (ackAfterSuccess s).peers = s.peers ∧ (ackAfterSuccess s).share = s.share ∧
    (ackAfterSuccess s).shed = s.shed ∧ (ackAfterSuccess s).port = s.port ∧ (ackAfterSuccess s).pending = s.pending := by
  simp [ackAfterSuccess]

@[simp] theorem returnFrame_keeps (what : Sending) (s : State) :
    (returnFrame what s).clock = s.clock ∧ (returnFrame what s).loader = s.loader ∧
    (returnFrame what s).supply = s.supply ∧ (returnFrame what s).poles = s.poles ∧ (returnFrame what s).peers = s.peers ∧
    (returnFrame what s).share = s.share ∧ (returnFrame what s).shed = s.shed ∧ (returnFrame what s).port = s.port ∧
    (returnFrame what s).pending = s.pending := by
  cases what <;> simp [returnFrame]

@[simp] theorem releaseFrame_keeps (what : Sending) (s : State) :
    (releaseFrame what s).clock = s.clock ∧ (releaseFrame what s).loader = s.loader ∧
    (releaseFrame what s).supply = s.supply ∧ (releaseFrame what s).poles = s.poles ∧
    (releaseFrame what s).peers = s.peers ∧ (releaseFrame what s).share = s.share ∧ (releaseFrame what s).shed = s.shed ∧
    (releaseFrame what s).port = s.port ∧ (releaseFrame what s).pending = s.pending := by
  cases what <;> simp [releaseFrame]

@[simp] theorem abortAttempt_keeps (bit : Nat) (s : State) :
    (abortAttempt bit s).clock = s.clock ∧ (abortAttempt bit s).pending = s.pending := by
  unfold abortAttempt; split
  · simp
  · split
    · simp only [alarmEvent]; split <;> simp
    · simp

@[simp] theorem succeedAttempt_keeps (s : State) :
    (succeedAttempt s).clock = s.clock ∧ (succeedAttempt s).loader = s.loader ∧ (succeedAttempt s).pending = s.pending := by
  unfold succeedAttempt; split <;> simp [alarmEvent]

@[simp] theorem endSuspension_keeps (s : State) :
    (endSuspension s).clock = s.clock ∧ (endSuspension s).supply = s.supply ∧ (endSuspension s).poles = s.poles ∧
    (endSuspension s).peers = s.peers ∧ (endSuspension s).share = s.share ∧ (endSuspension s).shed = s.shed ∧
    (endSuspension s).alarms = s.alarms ∧ (endSuspension s).pending = s.pending := by
  unfold endSuspension; split <;> simp

@[simp] theorem applyState_keeps (src : Station) (f : StateFields) (rejoin wasCol : Bool) (s : State) :
    (applyState src f rejoin wasCol s).clock = s.clock ∧ (applyState src f rejoin wasCol s).loader = s.loader ∧
    (applyState src f rejoin wasCol s).line = s.line ∧ (applyState src f rejoin wasCol s).pending = s.pending := by
  unfold applyState; dsimp only; split
  · simp
  · split <;> simp

@[simp] theorem stateHeard_keeps (src : Station) (f : StateFields) (s : State) :
    (stateHeard src f s).clock = s.clock ∧ (stateHeard src f s).loader = s.loader ∧ (stateHeard src f s).line = s.line ∧
    (stateHeard src f s).pending = s.pending := by
  unfold stateHeard; split
  · simp
  · split
    · simp
    · split <;> simp

@[simp] theorem ackHeard_keeps (c : AckContent) (s : State) :
    (ackHeard c s).clock = s.clock ∧ (ackHeard c s).loader = s.loader ∧ (ackHeard c s).pending = s.pending := by
  unfold ackHeard; split <;> simp [alarmEvent]

@[simp] theorem toClash_keeps (s : State) :
    (toClash s).clock = s.clock ∧ (toClash s).supply = s.supply ∧ (toClash s).poles = s.poles ∧ (toClash s).line = s.line ∧
    (toClash s).share = s.share ∧ (toClash s).shed = s.shed ∧ (toClash s).alarms = s.alarms ∧ (toClash s).port = s.port ∧
    (toClash s).pending = s.pending := by
  unfold toClash; dsimp only; split <;> simp

@[simp] theorem declareClash_keeps (s : State) :
    (declareClash s).clock = s.clock ∧ (declareClash s).pending = s.pending := by
  unfold declareClash; split <;> simp [alarmEvent]

@[simp] theorem handOn_keeps (f : Frame) (s : State) :
    (handOn f s).clock = s.clock ∧ (handOn f s).pending = s.pending := by
  unfold handOn; split
  · simp
  · split <;> simp

@[simp] theorem settleReception_keeps (frame : List Byte) (r : Reception) (s : State) :
    (settleReception frame r s).clock = s.clock ∧ (settleReception frame r s).pending = s.pending := by
  unfold settleReception; split <;> simp

@[simp] theorem receive_keeps (idle : Nat) (bytes : List Byte) (framing : Bool) (s : State) :
    (receive idle bytes framing s).clock = s.clock ∧ (receive idle bytes framing s).pending = s.pending := by
  unfold receive; split
  · dsimp only; split
    · simp
    · split <;> simp
  · simp

/-! ### Fields that an operation leaves as they stand -/

@[simp] theorem discardAcks_fields (s : State) :
    (discardAcks s).alarms.history = s.alarms.history ∧ (discardAcks s).alarms.nextNumber = s.alarms.nextNumber ∧
    (discardAcks s).alarms.buttonArmed = s.alarms.buttonArmed ∧
    (discardAcks s).alarms.debounceStart = s.alarms.debounceStart ∧ (discardAcks s).alarms.lamp = s.alarms.lamp ∧
    (discardAcks s).alarms.lampLit = s.alarms.lampLit ∧ (discardAcks s).alarms.flashStart = s.alarms.flashStart ∧
    (discardAcks s).alarms.buzzer = s.alarms.buzzer ∧ (discardAcks s).alarms.soundStart = s.alarms.soundStart ∧
    (discardAcks s).alarms.reminderStart = s.alarms.reminderStart := by
  unfold discardAcks
  refine ⟨foldl_keeps _ (fun s => s.alarms.history) (by simp) _ _,
    foldl_keeps _ (fun s => s.alarms.nextNumber) (by simp) _ _,
    foldl_keeps _ (fun s => s.alarms.buttonArmed) (by simp) _ _,
    foldl_keeps _ (fun s => s.alarms.debounceStart) (by simp) _ _,
    foldl_keeps _ (fun s => s.alarms.lamp) (by simp) _ _,
    foldl_keeps _ (fun s => s.alarms.lampLit) (by simp) _ _,
    foldl_keeps _ (fun s => s.alarms.flashStart) (by simp) _ _,
    foldl_keeps _ (fun s => s.alarms.buzzer) (by simp) _ _,
    foldl_keeps _ (fun s => s.alarms.soundStart) (by simp) _ _,
    foldl_keeps _ (fun s => s.alarms.reminderStart) (by simp) _ _⟩

@[simp] theorem reportsDiscarded_fields (cs : List AckContent) (s : State) :
    (cs.foldl (fun s c => reportDiscarded c s) s).alarms.history = s.alarms.history ∧
    (cs.foldl (fun s c => reportDiscarded c s) s).alarms.nextNumber = s.alarms.nextNumber ∧
    (cs.foldl (fun s c => reportDiscarded c s) s).alarms.buttonArmed = s.alarms.buttonArmed ∧
    (cs.foldl (fun s c => reportDiscarded c s) s).alarms.debounceStart = s.alarms.debounceStart ∧
    (cs.foldl (fun s c => reportDiscarded c s) s).alarms.lamp = s.alarms.lamp ∧
    (cs.foldl (fun s c => reportDiscarded c s) s).alarms.lampLit = s.alarms.lampLit ∧
    (cs.foldl (fun s c => reportDiscarded c s) s).alarms.flashStart = s.alarms.flashStart ∧
    (cs.foldl (fun s c => reportDiscarded c s) s).alarms.buzzer = s.alarms.buzzer ∧
    (cs.foldl (fun s c => reportDiscarded c s) s).alarms.soundStart = s.alarms.soundStart ∧
    (cs.foldl (fun s c => reportDiscarded c s) s).alarms.reminderStart = s.alarms.reminderStart := by
  refine ⟨foldl_keeps _ (fun s => s.alarms.history) (by simp) _ _,
    foldl_keeps _ (fun s => s.alarms.nextNumber) (by simp) _ _,
    foldl_keeps _ (fun s => s.alarms.buttonArmed) (by simp) _ _,
    foldl_keeps _ (fun s => s.alarms.debounceStart) (by simp) _ _,
    foldl_keeps _ (fun s => s.alarms.lamp) (by simp) _ _,
    foldl_keeps _ (fun s => s.alarms.lampLit) (by simp) _ _,
    foldl_keeps _ (fun s => s.alarms.flashStart) (by simp) _ _,
    foldl_keeps _ (fun s => s.alarms.buzzer) (by simp) _ _,
    foldl_keeps _ (fun s => s.alarms.soundStart) (by simp) _ _,
    foldl_keeps _ (fun s => s.alarms.reminderStart) (by simp) _ _⟩

@[simp] theorem reportsSent_fields (cs : List AckContent) (s : State) :
    (cs.foldl (fun s c => reportSent c s) s).alarms.history = s.alarms.history ∧
    (cs.foldl (fun s c => reportSent c s) s).alarms.nextNumber = s.alarms.nextNumber ∧
    (cs.foldl (fun s c => reportSent c s) s).alarms.buttonArmed = s.alarms.buttonArmed ∧
    (cs.foldl (fun s c => reportSent c s) s).alarms.debounceStart = s.alarms.debounceStart ∧
    (cs.foldl (fun s c => reportSent c s) s).alarms.lamp = s.alarms.lamp ∧
    (cs.foldl (fun s c => reportSent c s) s).alarms.lampLit = s.alarms.lampLit ∧
    (cs.foldl (fun s c => reportSent c s) s).alarms.flashStart = s.alarms.flashStart ∧
    (cs.foldl (fun s c => reportSent c s) s).alarms.buzzer = s.alarms.buzzer ∧
    (cs.foldl (fun s c => reportSent c s) s).alarms.soundStart = s.alarms.soundStart ∧
    (cs.foldl (fun s c => reportSent c s) s).alarms.reminderStart = s.alarms.reminderStart := by
  refine ⟨foldl_keeps _ (fun s => s.alarms.history) (by simp) _ _,
    foldl_keeps _ (fun s => s.alarms.nextNumber) (by simp) _ _,
    foldl_keeps _ (fun s => s.alarms.buttonArmed) (by simp) _ _,
    foldl_keeps _ (fun s => s.alarms.debounceStart) (by simp) _ _,
    foldl_keeps _ (fun s => s.alarms.lamp) (by simp) _ _,
    foldl_keeps _ (fun s => s.alarms.lampLit) (by simp) _ _,
    foldl_keeps _ (fun s => s.alarms.flashStart) (by simp) _ _,
    foldl_keeps _ (fun s => s.alarms.buzzer) (by simp) _ _,
    foldl_keeps _ (fun s => s.alarms.soundStart) (by simp) _ _,
    foldl_keeps _ (fun s => s.alarms.reminderStart) (by simp) _ _⟩

/-! ### Records and built frames -/

/-- The set of records after a GAP_START: its own record, and those of the other sources (R12). -/
theorem mem_putRecord (r x : GapRecord) (rs : List GapRecord) :
    x ∈ putRecord r rs ↔ x = r ∨ (x ∈ rs ∧ x.source ≠ r.source) := by
  simp only [putRecord, List.mem_append, List.mem_cons, List.mem_filter, decide_eq_true_eq, ← lt_or_lt_iff_ne]
  tauto

/-- A STATE as built where the own entry stands: the own fields, with demand, floor and ceiling of that entry (R58). -/
theorem builtFields_of_own {s : State} {e : Peer} (h : ownEntry s = some e) :
    builtFields s = { ownFields s with demand := e.fields.demand, floor := e.fields.floor, ceiling := e.fields.ceiling } := by
  rw [builtFields, h]

end Sys2Proof.Machine
end

