-- ==== Sys2Proof/Laws/Share.lean ====
section
/-!
SUPPORT. The operations of Machine/Share.lean: which blocks of the state each leaves as they stand.
-/
namespace Sys2Proof.Machine

@[simp] theorem takePending_keeps (s : State) :
    (takePending s).clock = s.clock ∧ (takePending s).loader = s.loader ∧ (takePending s).supply = s.supply ∧
    (takePending s).poles = s.poles ∧ (takePending s).line = s.line ∧ (takePending s).shed = s.shed ∧
    (takePending s).alarms = s.alarms ∧ (takePending s).port = s.port ∧ (takePending s).pending = s.pending := by
  unfold takePending; split <;> simp

@[simp] theorem countDemand_keeps (s : State) :
    (countDemand s).clock = s.clock ∧ (countDemand s).loader = s.loader ∧ (countDemand s).supply = s.supply ∧
    (countDemand s).poles = s.poles ∧ (countDemand s).line = s.line ∧ (countDemand s).peers = s.peers ∧
    (countDemand s).share = s.share ∧ (countDemand s).alarms = s.alarms ∧ (countDemand s).pending = s.pending := by
  unfold countDemand; dsimp only; split <;> simp

@[simp] theorem countSource_keeps (s : State) :
    (countSource s).clock = s.clock ∧ (countSource s).loader = s.loader ∧ (countSource s).supply = s.supply ∧
    (countSource s).poles = s.poles ∧ (countSource s).line = s.line ∧ (countSource s).peers = s.peers ∧
    (countSource s).share = s.share ∧ (countSource s).alarms = s.alarms ∧ (countSource s).pending = s.pending := by
  unfold countSource; dsimp only; split
  · split <;> simp
  · simp

@[simp] theorem latchPosted_keeps (s : State) :
    (latchPosted s).clock = s.clock ∧ (latchPosted s).loader = s.loader ∧ (latchPosted s).supply = s.supply ∧
    (latchPosted s).poles = s.poles ∧ (latchPosted s).line = s.line ∧ (latchPosted s).peers = s.peers ∧
    (latchPosted s).shed = s.shed ∧ (latchPosted s).alarms = s.alarms ∧ (latchPosted s).port = s.port ∧
    (latchPosted s).pending = s.pending := by
  exact ⟨rfl, rfl, rfl, rfl, rfl, rfl, rfl, rfl, rfl, rfl⟩

@[simp] theorem settleCeilings_keeps (s : State) :
    (settleCeilings s).clock = s.clock ∧ (settleCeilings s).loader = s.loader ∧ (settleCeilings s).supply = s.supply ∧
    (settleCeilings s).poles = s.poles ∧ (settleCeilings s).line = s.line ∧ (settleCeilings s).shed = s.shed ∧
    (settleCeilings s).alarms = s.alarms ∧ (settleCeilings s).port = s.port ∧ (settleCeilings s).pending = s.pending := by
  simp [settleCeilings]

@[simp] theorem stageTwo_keeps (s : State) :
    (stageTwo s).clock = s.clock ∧ (stageTwo s).loader = s.loader ∧ (stageTwo s).supply = s.supply ∧
    (stageTwo s).poles = s.poles ∧ (stageTwo s).line = s.line ∧ (stageTwo s).alarms = s.alarms ∧
    (stageTwo s).pending = s.pending := by
  simp [stageTwo]

@[simp] theorem agePeers_keeps (s : State) :
    (agePeers s).clock = s.clock ∧ (agePeers s).loader = s.loader ∧ (agePeers s).line = s.line ∧
    (agePeers s).pending = s.pending := by
  unfold agePeers; dsimp only; split <;> simp [alarmEvent]

@[simp] theorem rewriteOwn_keeps (s : State) :
    (rewriteOwn s).clock = s.clock ∧ (rewriteOwn s).loader = s.loader ∧ (rewriteOwn s).supply = s.supply ∧
    (rewriteOwn s).poles = s.poles ∧ (rewriteOwn s).line = s.line ∧ (rewriteOwn s).share = s.share ∧
    (rewriteOwn s).shed = s.shed ∧ (rewriteOwn s).alarms = s.alarms ∧ (rewriteOwn s).port = s.port ∧
    (rewriteOwn s).pending = s.pending := by
  unfold rewriteOwn; split <;> simp

@[simp] theorem formPending_keeps (s : State) :
    (formPending s).clock = s.clock ∧ (formPending s).loader = s.loader ∧ (formPending s).supply = s.supply ∧
    (formPending s).poles = s.poles ∧ (formPending s).line = s.line ∧ (formPending s).peers = s.peers ∧
    (formPending s).shed = s.shed ∧ (formPending s).alarms = s.alarms ∧ (formPending s).pending = s.pending := by
  unfold formPending; dsimp only; split
  · split <;> simp
  · simp

@[simp] theorem stageThree_keeps (s : State) :
    (stageThree s).clock = s.clock ∧ (stageThree s).loader = s.loader ∧ (stageThree s).line = s.line ∧
    (stageThree s).pending = s.pending := by
  simp [stageThree]

@[simp] theorem stageFour_keeps (s : State) :
    (stageFour s).clock = s.clock ∧ (stageFour s).loader = s.loader ∧ (stageFour s).supply = s.supply ∧
    (stageFour s).poles = s.poles ∧ (stageFour s).peers = s.peers ∧ (stageFour s).share = s.share ∧
    (stageFour s).shed = s.shed ∧ (stageFour s).alarms = s.alarms ∧ (stageFour s).port = s.port ∧
    (stageFour s).pending = s.pending := by
  unfold stageFour; split <;> simp

@[simp] theorem endListen_keeps (s : State) :
    (endListen s).clock = s.clock ∧ (endListen s).supply = s.supply ∧ (endListen s).poles = s.poles ∧
    (endListen s).line = s.line ∧ (endListen s).share = s.share ∧ (endListen s).shed = s.shed ∧
    (endListen s).alarms = s.alarms ∧ (endListen s).port = s.port ∧ (endListen s).pending = s.pending := by
  unfold endListen; split <;> simp

@[simp] theorem countBoundary_keeps (s : State) :
    (countBoundary s).clock = s.clock ∧ (countBoundary s).loader = s.loader ∧ (countBoundary s).supply = s.supply ∧
    (countBoundary s).poles = s.poles ∧ (countBoundary s).line = s.line ∧ (countBoundary s).peers = s.peers ∧
    (countBoundary s).shed = s.shed ∧ (countBoundary s).alarms = s.alarms ∧ (countBoundary s).port = s.port ∧
    (countBoundary s).pending = s.pending := by
  exact ⟨rfl, rfl, rfl, rfl, rfl, rfl, rfl, rfl, rfl, rfl⟩

@[simp] theorem stages_keeps (s : State) :
    (stages s).clock = s.clock ∧ (stages s).loader = s.loader ∧ (stages s).pending = s.pending := by
  simp [stages, alarmEvent]

@[simp] theorem releaseLeft_keeps (before : List Peer) (s : State) :
    (releaseLeft before s).clock = s.clock ∧ (releaseLeft before s).loader = s.loader ∧
    (releaseLeft before s).poles = s.poles ∧ (releaseLeft before s).line = s.line ∧
    (releaseLeft before s).share = s.share ∧ (releaseLeft before s).alarms = s.alarms ∧
    (releaseLeft before s).pending = s.pending := by
  simp [releaseLeft]

@[simp] theorem takeBoundary_keeps (s : State) :
    (takeBoundary s).clock = s.clock ∧ (takeBoundary s).pending = s.pending := by
  unfold takeBoundary; split <;> simp

@[simp] theorem boundaryWhen_keeps (happens : State → Bool) (s : State) :
    (boundaryWhen happens s).clock = s.clock ∧ (boundaryWhen happens s).pending = s.pending := by
  unfold boundaryWhen; split <;> simp

@[simp] theorem openLimitPeriod_keeps (s : State) :
    (openLimitPeriod s).clock = s.clock ∧ (openLimitPeriod s).loader = s.loader ∧ (openLimitPeriod s).supply = s.supply ∧
    (openLimitPeriod s).poles = s.poles ∧ (openLimitPeriod s).line = s.line ∧ (openLimitPeriod s).peers = s.peers ∧
    (openLimitPeriod s).shed = s.shed ∧ (openLimitPeriod s).alarms = s.alarms ∧ (openLimitPeriod s).port = s.port ∧
    (openLimitPeriod s).pending = s.pending := by
  unfold openLimitPeriod; dsimp only; split
  · simp
  · split <;> simp

@[simp] theorem reachLimitDuty_keeps (s : State) :
    (reachLimitDuty s).clock = s.clock ∧ (reachLimitDuty s).loader = s.loader ∧ (reachLimitDuty s).supply = s.supply ∧
    (reachLimitDuty s).poles = s.poles ∧ (reachLimitDuty s).line = s.line ∧ (reachLimitDuty s).peers = s.peers ∧
    (reachLimitDuty s).shed = s.shed ∧ (reachLimitDuty s).alarms = s.alarms ∧ (reachLimitDuty s).port = s.port ∧
    (reachLimitDuty s).pending = s.pending := by
  exact ⟨rfl, rfl, rfl, rfl, rfl, rfl, rfl, rfl, rfl, rfl⟩

/-! ### Fields that an operation leaves as they stand -/

@[simp] theorem takePending_fields (s : State) :
    (takePending s).share.boundaryAt = s.share.boundaryAt ∧ (takePending s).share.boundaries = s.share.boundaries ∧
    (takePending s).share.target = s.share.target ∧ (takePending s).share.budget = s.share.budget ∧
    (takePending s).share.demand = s.share.demand ∧ (takePending s).share.discharge = s.share.discharge ∧
    (takePending s).share.cap = s.share.cap ∧ (takePending s).share.limitElapsed = s.share.limitElapsed ∧
    (takePending s).share.ceiling = s.share.ceiling ∧ (takePending s).share.floor = s.share.floor := by
  unfold takePending; split <;> simp

@[simp] theorem countDemand_fields (s : State) :
    (countDemand s).port.abandoned = s.port.abandoned ∧ (countDemand s).port.request = s.port.request ∧
    (countDemand s).port.held = s.port.held ∧ (countDemand s).port.lost = s.port.lost ∧
    (countDemand s).port.shifted = s.port.shifted ∧
    (countDemand s).port.postedDemand = s.port.postedDemand ∧ (countDemand s).port.postedSource = s.port.postedSource ∧
    (countDemand s).port.postedCap = s.port.postedCap ∧ (countDemand s).port.sensorSource = s.port.sensorSource := by
  unfold countDemand; dsimp only; split <;> simp

@[simp] theorem countSource_fields (s : State) :
    (countSource s).port.abandoned = s.port.abandoned ∧ (countSource s).port.request = s.port.request ∧
    (countSource s).port.held = s.port.held ∧ (countSource s).port.lost = s.port.lost ∧
    (countSource s).port.shifted = s.port.shifted ∧
    (countSource s).port.postedDemand = s.port.postedDemand ∧ (countSource s).port.postedSource = s.port.postedSource ∧
    (countSource s).port.postedCap = s.port.postedCap ∧ (countSource s).port.sensorSource = s.port.sensorSource := by
  unfold countSource; dsimp only; split
  · split <;> simp
  · simp

@[simp] theorem stageTwo_fields (s : State) :
    (stageTwo s).port.abandoned = s.port.abandoned ∧ (stageTwo s).port.request = s.port.request ∧
    (stageTwo s).port.held = s.port.held ∧ (stageTwo s).port.lost = s.port.lost ∧ (stageTwo s).port.shifted = s.port.shifted ∧
    (stageTwo s).port.postedDemand = s.port.postedDemand ∧ (stageTwo s).port.postedSource = s.port.postedSource ∧
    (stageTwo s).port.postedCap = s.port.postedCap ∧ (stageTwo s).port.sensorSource = s.port.sensorSource := by
  simp [stageTwo]

@[simp] theorem agePeers_fields (s : State) :
    (agePeers s).supply.count = s.supply.count ∧ (agePeers s).supply.windowStart = s.supply.windowStart ∧
    (agePeers s).supply.volts = s.supply.volts ∧ (agePeers s).supply.run = s.supply.run ∧
    (agePeers s).supply.voltageOk = s.supply.voltageOk ∧ (agePeers s).supply.hadPulses = s.supply.hadPulses ∧
    (agePeers s).port.abandoned = s.port.abandoned ∧ (agePeers s).port.request = s.port.request ∧
    (agePeers s).port.held = s.port.held ∧ (agePeers s).port.lost = s.port.lost ∧ (agePeers s).port.shifted = s.port.shifted ∧
    (agePeers s).port.postedDemand = s.port.postedDemand ∧ (agePeers s).port.postedSource = s.port.postedSource ∧
    (agePeers s).port.postedCap = s.port.postedCap ∧ (agePeers s).port.sensorSource = s.port.sensorSource ∧
    (agePeers s).shed.demandSilence = s.shed.demandSilence ∧ (agePeers s).shed.demandTimedOut = s.shed.demandTimedOut ∧
    (agePeers s).shed.sourceSilence = s.shed.sourceSilence ∧ (agePeers s).shed.sourceTimedOut = s.shed.sourceTimedOut ∧
    (agePeers s).shed.demandTaken = s.shed.demandTaken ∧ (agePeers s).shed.sourceTaken = s.shed.sourceTaken ∧
    (agePeers s).share.boundaryAt = s.share.boundaryAt ∧ (agePeers s).share.boundaries = s.share.boundaries ∧
    (agePeers s).share.target = s.share.target ∧ (agePeers s).share.budget = s.share.budget ∧
    (agePeers s).share.demand = s.share.demand ∧ (agePeers s).share.discharge = s.share.discharge ∧
    (agePeers s).share.cap = s.share.cap ∧ (agePeers s).share.limitElapsed = s.share.limitElapsed ∧
    (agePeers s).alarms.history = s.alarms.history ∧ (agePeers s).alarms.nextNumber = s.alarms.nextNumber ∧
    (agePeers s).alarms.buttonArmed = s.alarms.buttonArmed ∧ (agePeers s).alarms.debounceStart = s.alarms.debounceStart ∧
    (agePeers s).poles.p = s.poles.p ∧ (agePeers s).poles.n = s.poles.n ∧ (agePeers s).poles.dewire = s.poles.dewire ∧
    (agePeers s).poles.retrieveFail = s.poles.retrieveFail ∧ (agePeers s).poles.lineDead = s.poles.lineDead ∧
    (agePeers s).poles.gapSerial = s.poles.gapSerial ∧ (agePeers s).poles.calStart = s.poles.calStart := by
  unfold agePeers; dsimp only; split <;> simp [alarmEvent]

@[simp] theorem formPending_fields (s : State) :
    (formPending s).port.abandoned = s.port.abandoned ∧ (formPending s).port.request = s.port.request ∧
    (formPending s).port.held = s.port.held ∧ (formPending s).port.lost = s.port.lost ∧
    (formPending s).port.shifted = s.port.shifted ∧
    (formPending s).port.postedDemand = s.port.postedDemand ∧ (formPending s).port.postedSource = s.port.postedSource ∧
    (formPending s).port.postedCap = s.port.postedCap ∧ (formPending s).port.sensorSource = s.port.sensorSource := by
  unfold formPending; dsimp only; split
  · split <;> simp
  · simp

@[simp] theorem stageThree_fields (s : State) :
    (stageThree s).supply.count = s.supply.count ∧ (stageThree s).supply.windowStart = s.supply.windowStart ∧
    (stageThree s).supply.volts = s.supply.volts ∧ (stageThree s).supply.run = s.supply.run ∧
    (stageThree s).supply.voltageOk = s.supply.voltageOk ∧ (stageThree s).supply.hadPulses = s.supply.hadPulses ∧
    (stageThree s).port.abandoned = s.port.abandoned ∧ (stageThree s).port.request = s.port.request ∧
    (stageThree s).port.held = s.port.held ∧ (stageThree s).port.lost = s.port.lost ∧ (stageThree s).port.shifted = s.port.shifted ∧
    (stageThree s).port.postedDemand = s.port.postedDemand ∧ (stageThree s).port.postedSource = s.port.postedSource ∧
    (stageThree s).port.postedCap = s.port.postedCap ∧ (stageThree s).port.sensorSource = s.port.sensorSource ∧
    (stageThree s).shed.demandSilence = s.shed.demandSilence ∧ (stageThree s).shed.demandTimedOut = s.shed.demandTimedOut ∧
    (stageThree s).shed.sourceSilence = s.shed.sourceSilence ∧ (stageThree s).shed.sourceTimedOut = s.shed.sourceTimedOut ∧
    (stageThree s).shed.demandTaken = s.shed.demandTaken ∧ (stageThree s).shed.sourceTaken = s.shed.sourceTaken ∧
    (stageThree s).alarms.history = s.alarms.history ∧ (stageThree s).alarms.nextNumber = s.alarms.nextNumber ∧
    (stageThree s).alarms.buttonArmed = s.alarms.buttonArmed ∧
    (stageThree s).alarms.debounceStart = s.alarms.debounceStart ∧ (stageThree s).poles.p = s.poles.p ∧
    (stageThree s).poles.n = s.poles.n ∧ (stageThree s).poles.dewire = s.poles.dewire ∧
    (stageThree s).poles.retrieveFail = s.poles.retrieveFail ∧ (stageThree s).poles.lineDead = s.poles.lineDead ∧
    (stageThree s).poles.gapSerial = s.poles.gapSerial ∧ (stageThree s).poles.calStart = s.poles.calStart := by
  simp [stageThree]

end Sys2Proof.Machine
end

