-- ==== Sys2Proof/Laws/Start.lean ====
section
/-!
SUPPORT. The operations of Machine/StartUp.lean: which blocks of the state each leaves as they stand.
-/
namespace Sys2Proof.Machine

/-- The response a reset takes away is the held one, or the one that an earlier reset took. -/
theorem lostResponse_cases (s : State) :
    (inReset s = false ∧ s.port.abandoned = false ∧ lostResponse s = s.port.held)
      ∨ ((inReset s = true ∨ s.port.abandoned = true) ∧ lostResponse s = s.port.lost) := by
  unfold lostResponse; split <;> simp_all

/-- Whatever a reset finds, it leaves NO_RESPONSE held. -/
theorem resetBlocks_held (w : PoleWatch) (history : List HistoryRecord) (abandoned : Bool) (s : State) :
    (resetBlocks w history abandoned s).port = Port.afterReset abandoned (lostResponse s) := rfl

@[simp] theorem resetBlocks_keeps (w : PoleWatch) (history : List HistoryRecord) (abandoned : Bool) (s : State) :
    (resetBlocks w history abandoned s).clock = s.clock ∧ (resetBlocks w history abandoned s).loader = s.loader ∧
    (resetBlocks w history abandoned s).pending = s.pending := by
  exact ⟨rfl, rfl, rfl⟩

@[simp] theorem powerOnBlocks_keeps (abandoned : Bool) (s : State) :
    (powerOnBlocks abandoned s).clock = s.clock ∧ (powerOnBlocks abandoned s).loader = s.loader ∧
    (powerOnBlocks abandoned s).pending = s.pending := by
  exact ⟨rfl, rfl, rfl⟩

@[simp] theorem moduleBlocks_keeps (abandoned : Bool) (s : State) :
    (moduleBlocks abandoned s).clock = s.clock ∧ (moduleBlocks abandoned s).loader = s.loader ∧
    (moduleBlocks abandoned s).pending = s.pending := by
  exact ⟨rfl, rfl, rfl⟩

@[simp] theorem endReset_keeps (straps : BitVec 3) (cause : ResetCause) (pin : PinHold) (s : State) :
    (endReset straps cause pin s).supply = s.supply ∧ (endReset straps cause pin s).poles = s.poles ∧
    (endReset straps cause pin s).line = s.line ∧ (endReset straps cause pin s).peers = s.peers ∧
    (endReset straps cause pin s).share = s.share ∧ (endReset straps cause pin s).shed = s.shed ∧
    (endReset straps cause pin s).alarms = s.alarms ∧ (endReset straps cause pin s).port = s.port ∧
    (endReset straps cause pin s).pending = s.pending := by
  exact ⟨rfl, rfl, rfl, rfl, rfl, rfl, rfl, rfl, rfl⟩

@[simp] theorem holdLoader_keeps (supplyLow : Bool) (pin : PinHold) (s : State) :
    (holdLoader supplyLow pin s).clock = s.clock ∧ (holdLoader supplyLow pin s).supply = s.supply ∧
    (holdLoader supplyLow pin s).poles = s.poles ∧ (holdLoader supplyLow pin s).line = s.line ∧
    (holdLoader supplyLow pin s).peers = s.peers ∧ (holdLoader supplyLow pin s).share = s.share ∧
    (holdLoader supplyLow pin s).shed = s.shed ∧ (holdLoader supplyLow pin s).alarms = s.alarms ∧
    (holdLoader supplyLow pin s).port = s.port ∧ (holdLoader supplyLow pin s).pending = s.pending := by
  exact ⟨rfl, rfl, rfl, rfl, rfl, rfl, rfl, rfl, rfl, rfl⟩

@[simp] theorem failAttempt_keeps (levels : BusLevels) (s : State) :
    (failAttempt levels s).clock = s.clock ∧ (failAttempt levels s).supply = s.supply ∧ (failAttempt levels s).poles = s.poles ∧
    (failAttempt levels s).line = s.line ∧ (failAttempt levels s).peers = s.peers ∧ (failAttempt levels s).share = s.share ∧
    (failAttempt levels s).shed = s.shed ∧ (failAttempt levels s).alarms = s.alarms ∧ (failAttempt levels s).port = s.port ∧
    (failAttempt levels s).pending = s.pending := by
  unfold failAttempt; split
  · simp
  · split <;> simp

@[simp] theorem retryAttempt_keeps (s : State) :
    (retryAttempt s).clock = s.clock ∧ (retryAttempt s).supply = s.supply ∧ (retryAttempt s).poles = s.poles ∧
    (retryAttempt s).line = s.line ∧ (retryAttempt s).peers = s.peers ∧ (retryAttempt s).share = s.share ∧
    (retryAttempt s).shed = s.shed ∧ (retryAttempt s).alarms = s.alarms ∧ (retryAttempt s).port = s.port ∧
    (retryAttempt s).pending = s.pending := by
  unfold retryAttempt; split
  · split <;> simp
  · simp
  · simp

@[simp] theorem enterConfigFault_keeps (f : ConfigFault) (s : State) :
    (enterConfigFault f s).clock = s.clock ∧ (enterConfigFault f s).supply = s.supply ∧
    (enterConfigFault f s).line = s.line ∧ (enterConfigFault f s).peers = s.peers ∧
    (enterConfigFault f s).share = s.share ∧ (enterConfigFault f s).shed = s.shed ∧
    (enterConfigFault f s).alarms = s.alarms ∧ (enterConfigFault f s).pending = s.pending := by
  simp [enterConfigFault]

@[simp] theorem enterListen_keeps (r : Record) (s : State) :
    (enterListen r s).clock = s.clock ∧ (enterListen r s).pending = s.pending := by
  unfold enterListen; dsimp only; split <;> simp

@[simp] theorem completeRead_keeps (bytes : List Byte) (s : State) :
    (completeRead bytes s).clock = s.clock ∧ (completeRead bytes s).pending = s.pending := by
  unfold completeRead; dsimp only; split
  · split <;> simp
  · simp

@[simp] theorem reachReadDeadline_keeps (done : Nat) (s : State) :
    (reachReadDeadline done s).clock = s.clock ∧ (reachReadDeadline done s).supply = s.supply ∧ (reachReadDeadline done s).line = s.line ∧
    (reachReadDeadline done s).peers = s.peers ∧ (reachReadDeadline done s).share = s.share ∧ (reachReadDeadline done s).shed = s.shed ∧
    (reachReadDeadline done s).alarms = s.alarms ∧ (reachReadDeadline done s).pending = s.pending := by
  unfold reachReadDeadline; split <;> simp

@[simp] theorem powerOn_keeps (straps : BitVec 3) (cs : Bool) (s : State) :
    (powerOn straps cs s).pending = s.pending := by
  simp [powerOn]

@[simp] theorem dropSupply_keeps (s : State) :
    (dropSupply s).pending = s.pending := by
  simp [dropSupply]

@[simp] theorem assertPin_keeps (s : State) :
    (assertPin s).pending = s.pending := by
  unfold assertPin; split <;> simp

@[simp] theorem releasePin_keeps (straps : BitVec 3) (cs : Bool) (s : State) :
    (releasePin straps cs s).pending = s.pending := by
  unfold releasePin; split <;> simp

@[simp] theorem requestReset_keeps (straps : BitVec 3) (s : State) :
    (requestReset straps s).pending = s.pending := by
  simp [requestReset]

end Sys2Proof.Machine
end

