-- ==== Sys2Proof/Laws/Port.lean ====
section
/-!
SUPPORT. The operations of Machine/Port.lean: which blocks of the state each leaves as they stand. `takeFrame` and `whenRunning`
leave what the request leaves.
-/
namespace Sys2Proof.Machine

@[simp] theorem takeDemand_keeps (a : BitVec 16) (s : State) :
    ((takeDemand a s).1).clock = s.clock ∧ ((takeDemand a s).1).loader = s.loader ∧
    ((takeDemand a s).1).supply = s.supply ∧ ((takeDemand a s).1).poles = s.poles ∧ ((takeDemand a s).1).line = s.line ∧
    ((takeDemand a s).1).peers = s.peers ∧ ((takeDemand a s).1).share = s.share ∧ ((takeDemand a s).1).alarms = s.alarms ∧
    ((takeDemand a s).1).pending = s.pending := by
  exact ⟨rfl, rfl, rfl, rfl, rfl, rfl, rfl, rfl, rfl⟩

@[simp] theorem takeSource_keeps (a : BitVec 16) (s : State) :
    ((takeSource a s).1).clock = s.clock ∧ ((takeSource a s).1).loader = s.loader ∧
    ((takeSource a s).1).supply = s.supply ∧ ((takeSource a s).1).poles = s.poles ∧ ((takeSource a s).1).line = s.line ∧
    ((takeSource a s).1).peers = s.peers ∧ ((takeSource a s).1).share = s.share ∧ ((takeSource a s).1).alarms = s.alarms ∧
    ((takeSource a s).1).pending = s.pending := by
  unfold takeSource; split <;> simp [answer]

@[simp] theorem takeCap_keeps (a : BitVec 16) (s : State) :
    ((takeCap a s).1).clock = s.clock ∧ ((takeCap a s).1).loader = s.loader ∧ ((takeCap a s).1).supply = s.supply ∧
    ((takeCap a s).1).poles = s.poles ∧ ((takeCap a s).1).line = s.line ∧ ((takeCap a s).1).peers = s.peers ∧
    ((takeCap a s).1).share = s.share ∧ ((takeCap a s).1).shed = s.shed ∧ ((takeCap a s).1).alarms = s.alarms ∧
    ((takeCap a s).1).pending = s.pending := by
  unfold takeCap; split <;> simp [answer]

@[simp] theorem takeAck_keeps (s : State) :
    ((takeAck s).1).clock = s.clock ∧ ((takeAck s).1).loader = s.loader ∧ ((takeAck s).1).pending = s.pending := by
  simp [takeAck, answer]

@[simp] theorem takeRelease_keeps (b : Byte) (s : State) :
    ((takeRelease b s).1).clock = s.clock ∧ ((takeRelease b s).1).loader = s.loader ∧
    ((takeRelease b s).1).pending = s.pending := by
  unfold takeRelease; split
  · split
    · simp [answer]
    · split <;> simp [answer]
  · simp [answer]

@[simp] theorem takeReadStatus_keeps (s : State) : (takeReadStatus s).1 = s := rfl

@[simp] theorem takeReadAlarms_keeps (s : State) : (takeReadAlarms s).1 = s := rfl

@[simp] theorem takeReadPeer_keeps (b : Byte) (s : State) : (takeReadPeer b s).1 = s := by
  unfold takeReadPeer; split <;> rfl

@[simp] theorem takeReadHistory_keeps (b : Byte) (s : State) : (takeReadHistory b s).1 = s := by
  unfold takeReadHistory; split <;> rfl

@[simp] theorem answer_fst (st : Status) (payload : List Byte) (s : State) : (answer st payload s).1 = s := rfl

@[simp] theorem takeClearAttention_keeps (b : Byte) (s : State) :
    ((takeClearAttention b s).1).clock = s.clock ∧ ((takeClearAttention b s).1).loader = s.loader ∧
    ((takeClearAttention b s).1).supply = s.supply ∧ ((takeClearAttention b s).1).poles = s.poles ∧
    ((takeClearAttention b s).1).line = s.line ∧ ((takeClearAttention b s).1).peers = s.peers ∧
    ((takeClearAttention b s).1).share = s.share ∧ ((takeClearAttention b s).1).shed = s.shed ∧
    ((takeClearAttention b s).1).alarms = s.alarms ∧ ((takeClearAttention b s).1).pending = s.pending := by
  unfold takeClearAttention; split <;> simp [answer]

@[simp] theorem takeClearCounters_keeps (s : State) :
    ((takeClearCounters s).1).clock = s.clock ∧ ((takeClearCounters s).1).loader = s.loader ∧
    ((takeClearCounters s).1).supply = s.supply ∧ ((takeClearCounters s).1).poles = s.poles ∧
    ((takeClearCounters s).1).peers = s.peers ∧ ((takeClearCounters s).1).share = s.share ∧
    ((takeClearCounters s).1).shed = s.shed ∧ ((takeClearCounters s).1).alarms = s.alarms ∧
    ((takeClearCounters s).1).port = s.port ∧ ((takeClearCounters s).1).pending = s.pending := by
  exact ⟨rfl, rfl, rfl, rfl, rfl, rfl, rfl, rfl, rfl, rfl⟩

/-- What is shifted out of a frame that a reset cut: as many bits as the frame has. -/
theorem readCut_shifted_length (cut n : Nat) (p : Port) : (readCut cut n p).shifted.length = n := by
  simp only [readCut, shiftOut, List.length_append, List.length_take, List.length_replicate]; omega

@[simp] theorem readCut_keeps (cut n : Nat) (p : Port) :
    (readCut cut n p).abandoned = p.abandoned ∧ (readCut cut n p).request = p.request ∧ (readCut cut n p).held = p.held ∧
    (readCut cut n p).lost = p.lost ∧ (readCut cut n p).postedDemand = p.postedDemand ∧
    (readCut cut n p).postedSource = p.postedSource ∧ (readCut cut n p).postedCap = p.postedCap ∧
    (readCut cut n p).attention = p.attention ∧ (readCut cut n p).sensorSource = p.sensorSource := by
  exact ⟨rfl, rfl, rfl, rfl, rfl, rfl, rfl, rfl, rfl⟩

@[simp] theorem takeFrame_keeps (cut : Nat) (bytes : List Byte) (strayBits : Nat) (take : State → Answer) (s : State) :
    (takeFrame cut bytes strayBits take s).clock = (if s.port.abandoned then s.clock else (take s).1.clock) ∧
    (takeFrame cut bytes strayBits take s).loader = (if s.port.abandoned then s.loader else (take s).1.loader) ∧
    (takeFrame cut bytes strayBits take s).supply = (if s.port.abandoned then s.supply else (take s).1.supply) ∧
    (takeFrame cut bytes strayBits take s).poles = (if s.port.abandoned then s.poles else (take s).1.poles) ∧
    (takeFrame cut bytes strayBits take s).line = (if s.port.abandoned then s.line else (take s).1.line) ∧
    (takeFrame cut bytes strayBits take s).peers = (if s.port.abandoned then s.peers else (take s).1.peers) ∧
    (takeFrame cut bytes strayBits take s).share = (if s.port.abandoned then s.share else (take s).1.share) ∧
    (takeFrame cut bytes strayBits take s).shed = (if s.port.abandoned then s.shed else (take s).1.shed) ∧
    (takeFrame cut bytes strayBits take s).alarms = (if s.port.abandoned then s.alarms else (take s).1.alarms) ∧
    (takeFrame cut bytes strayBits take s).pending = (if s.port.abandoned then s.pending else (take s).1.pending) := by
  unfold takeFrame; split <;> simp

@[simp] theorem whenRunning_fst (take : State → Answer) (s : State) :
    (whenRunning take s).1 = if isLive s then (take s).1 else s := by
  unfold whenRunning; split <;> rfl

@[simp] theorem takeModuleReset_pending (cut : Nat) (straps : BitVec 3) (s : State) : (takeModuleReset cut straps s).pending = s.pending := by
  unfold takeModuleReset; split <;> simp

@[simp] theorem takeUnknown_keeps (cut : Nat) (bytes : List Byte) (strayBits : Nat) (s : State) :
    (takeUnknown cut bytes strayBits s).clock = s.clock ∧ (takeUnknown cut bytes strayBits s).loader = s.loader ∧
    (takeUnknown cut bytes strayBits s).supply = s.supply ∧ (takeUnknown cut bytes strayBits s).poles = s.poles ∧
    (takeUnknown cut bytes strayBits s).line = s.line ∧ (takeUnknown cut bytes strayBits s).peers = s.peers ∧
    (takeUnknown cut bytes strayBits s).share = s.share ∧ (takeUnknown cut bytes strayBits s).shed = s.shed ∧
    (takeUnknown cut bytes strayBits s).alarms = s.alarms ∧ (takeUnknown cut bytes strayBits s).pending = s.pending := by
  unfold takeUnknown; split <;> simp

end Sys2Proof.Machine
end

