-- ==== Sys2Proof/Laws/Event.lean ====
section
/-!
SUPPORT. What happens inside one event of the Alarm Table, before its end: `Touch s t` says that t comes from s by such changes.
`Touch.keeps` says what none of them touches, and the operations at an origin are shown to be such changes.
-/
namespace Sys2Proof.Machine

/-- `t` comes from `s` by changes of the Alarm Table at an origin or a listener, of the notices handed, and of the active-alarm
records: what happens inside one event of the Alarm Table before its end (R118). -/
inductive Touch (s : State) : State → Prop
  | refl : Touch s s
  | close {t : State} (e : AlarmEntry) (r : CloseReason) : Touch s t → Touch s (closeEntry e r t)
  | table {t : State} (f : AlarmEntry → AlarmEntry) : (∀ e, (f e).origin = e.origin) → Touch s t →
      Touch s (t.withAlarms { t.alarms with table := t.alarms.table.map f })
  | add {t : State} (e : AlarmEntry) : (ofOrigin e.origin t.alarms.table).length < 4 → (e.origin.val ≤ 1 ∨ e.origin = t.loader.station ∧ isCol t = true) →
      Touch s t → Touch s (addEntry e t)
  | lamp {t : State} (a : Alarms) : a.table = t.alarms.table → a.history = t.alarms.history → Touch s t → Touch s (t.withAlarms a)
  | history {t : State} (h : List HistoryRecord) : h.length ≤ 16 → Touch s t → Touch s (t.withAlarms { t.alarms with history := h })
  | hand {t : State} (c : AlarmContent) : Touch s t → Touch s (handAlarm c t)
  | poles {t : State} (w : PoleWatch) : w.p = t.poles.p → w.n = t.poles.n → Touch s t → Touch s (t.withPoles w)

/-! ### What stays true through an event -/

theorem Touch.trans {s t u : State} (h1 : Touch s t) (h2 : Touch t u) : Touch s u := by
  induction h2 with
  | refl => exact h1
  | close e r _ ih => exact ih.close e r
  | table f hf _ ih => exact ih.table f hf
  | add e h3 h4 _ ih => exact ih.add e h3 h4
  | lamp a h3 h4 _ ih => exact ih.lamp a h3 h4
  | history h h3 _ ih => exact ih.history h h3
  | hand c _ ih => exact ih.hand c
  | poles w h3 h4 _ ih => exact ih.poles w h3 h4

/-- An event's inner changes leave these blocks as they stand. -/
theorem Touch.keeps {s t : State} (h : Touch s t) :
    t.clock = s.clock ∧ t.loader = s.loader ∧ t.supply = s.supply ∧ t.peers = s.peers ∧ t.share = s.share ∧ t.shed = s.shed
      ∧ t.port = s.port ∧ t.pending = s.pending ∧ t.poles.p = s.poles.p ∧ t.poles.n = s.poles.n := by
  induction h with
  | refl => simp
  | close e r _ ih => simpa using ih
  | table f hf _ ih => simpa using ih
  | add e h3 h4 _ ih => simpa using ih
  | lamp a h3 h4 _ ih => simpa using ih
  | history h h3 _ ih => simpa using ih
  | hand c _ ih => simpa using ih
  | poles w h3 h4 _ ih => simpa [h3, h4] using ih

/-! ### The operations of the Alarm Table are such changes -/

theorem touch_map (o : Station) (n : Byte) (f : AlarmEntry → AlarmEntry) (hf : ∀ e, (f e).origin = e.origin) (s : State) :
    Touch s (mapAlarm o n f s) :=
  Touch.refl.table _ fun e => by split <;> [exact hf e; rfl]

theorem touch_sound (s : State) : Touch s (soundBuzzer s) := by
  unfold soundBuzzer
  split
  · exact Touch.refl.lamp _ rfl rfl
  · exact Touch.refl

theorem touch_notice (e : AlarmEntry) (p : NoticePhase) (s : State) : Touch s (noticeFor e p s) := Touch.refl.hand _

theorem touch_closeOwn (e : AlarmEntry) (r : CloseReason) (s : State) : Touch s (closeOwn e r s) := (Touch.refl.close e r).hand _

theorem touch_changeOwn (e : AlarmEntry) (p : Phase) (ps : PoleSet) (s : State) : Touch s (changeOwn e p ps s) :=
  (touch_map _ _ (fun x => { x with phase := p, poles := ps }) (fun _ => rfl) s).hand _

/-- Removals whose records are put in table order are such changes. -/
theorem touch_closingInOrder {f : State → State} (hf : ∀ s, Touch s (f s)) (s : State) : Touch s (closingInOrder f s) :=
  ((Touch.refl.history [] (by simp)).trans (hf _)).history _ (by simp)

/-- The entry that gives way is one of its origin. -/
theorem givesWay_mem {o : Station} {table : List AlarmEntry} {e : AlarmEntry} (h : givesWay o table = some e) :
    e ∈ table ∧ e.origin = o := by
  have hm : e ∈ ofOrigin o table := by
    unfold givesWay at h
    split at h
    · next hf => injection h with h; subst h; exact List.mem_of_find?_eq_some hf
    · exact List.mem_of_mem_head? h
  obtain ⟨h1, h2⟩ := List.mem_filter.1 hm
  exact ⟨h1, by simpa using h2⟩

/-- An origin that holds an entry has one that gives way. -/
theorem givesWay_some {o : Station} {table : List AlarmEntry} (h : ofOrigin o table ≠ []) : ∃ e, givesWay o table = some e := by
  unfold givesWay
  split
  · exact ⟨_, rfl⟩
  · cases hl : ofOrigin o table with
    | nil => exact absurd hl h
    | cons a l => exact ⟨a, rfl⟩

/-- Closing an entry that is held takes at least one from its origin. -/
theorem close_length {e : AlarmEntry} {r : CloseReason} {s : State} (h : e ∈ s.alarms.table) :
    (ofOrigin e.origin (closeEntry e r s).alarms.table).length < (ofOrigin e.origin s.alarms.table).length := by
  unfold ofOrigin closeEntry
  simp only [State.withAlarms_alarms]
  rw [List.filter_comm]
  have hm : e ∈ s.alarms.table.filter fun x => x.origin == e.origin := List.mem_filter.2 ⟨h, by simp⟩
  refine List.length_filter_lt_length_iff_exists.2 ⟨e, hm, ?_⟩
  simp [isEntry]

theorem touch_makeOwnRoom (s : State) : Touch s (makeOwnRoom s) := by
  unfold makeOwnRoom
  split
  · exact Touch.refl
  · split
    · exact touch_closeOwn _ _ _
    · exact Touch.refl

/-- At most four of an origin before mean fewer than four after room is made. -/
theorem makeOwnRoom_length (s : State) (h : (ownAlarms s).length ≤ 4) : (ownAlarms (makeOwnRoom s)).length < 4 := by
  unfold makeOwnRoom
  split
  · assumption
  · next h4 =>
    have hne : ofOrigin s.loader.station s.alarms.table ≠ [] := by
      intro h0
      unfold ownAlarms at h4
      rw [h0] at h4
      simp at h4
    obtain ⟨e, he⟩ := givesWay_some hne
    rw [he]
    obtain ⟨hm, ho⟩ := givesWay_mem he
    have := close_length (r := .forced) hm
    rw [ho] at this
    unfold ownAlarms at h ⊢
    simpa [closeOwn] using lt_of_lt_of_le this h

end Sys2Proof.Machine
end

