-- ==== Sys2Proof/Laws/Own.lean ====
section
/-!
SUPPORT. The operations at an origin (section 7.2), one lemma each that says what it makes of the table, the history list, the number
counter and the ALARM part: `changeOwn_changes`, `closeOwn_closes`, `widenOwn_widens`, `clearOwn_clears`, `ackOwn_acknowledges` and
`raiseOwn_raises`.
-/
namespace Sys2Proof.Machine

/-! ### Notices -/

theorem handAlarm_part (c : AlarmContent) (s : State) :
    (handAlarm c s).line.alarmPart = handedTo s c s.line.alarmPart := by
  unfold handAlarm handedTo acceptsNotices
  by_cases h : s.loader.run = .listen ∨ s.loader.run = .running
  · rw [if_pos h, if_pos (by simpa using h)]
    rfl
  · rw [if_neg h, if_neg (by simpa using h)]

theorem noticeFor_part (e : AlarmEntry) (p : NoticePhase) (s : State) :
    (noticeFor e p s).line.alarmPart = handedTo s ⟨e.number, e.kind, e.poles, p, e.raiseTime.getD 0⟩ s.line.alarmPart :=
  handAlarm_part _ s

theorem noticeFor_alarms (e : AlarmEntry) (p : NoticePhase) (s : State) : (noticeFor e p s).alarms = s.alarms := by
  simp [noticeFor]

theorem handedTo_of_loader {s t : State} (h : t.loader = s.loader) (c : AlarmContent) (part : List (Notice AlarmContent)) :
    handedTo t c part = handedTo s c part := by
  unfold handedTo
  rw [h]

/-! ### Change, close, widening, clear and acknowledge (R121, R122, R123) -/

theorem changeOwn_changes (e : AlarmEntry) (p : Phase) (ps : PoleSet) (s : State) : ChangedOwn e p ps s (changeOwn e p ps s) := by
  refine ⟨?_, by simp [changeOwn, noticeFor], by simp [changeOwn, noticeFor], ?_⟩
  · simp only [changeOwn, noticeFor_alarms, mapAlarm, State.withAlarms_alarms]
    apply List.map_congr_left
    intro x _
    unfold isEntry
    by_cases h : x.origin = e.origin ∧ x.number = e.number
    · rw [if_pos h, if_pos (by simpa using h)]
    · rw [if_neg h, if_neg (by simpa using h)]
  · unfold changeOwn
    rw [noticeFor_part]
    rfl

theorem closeOwn_closes (e : AlarmEntry) (s : State) (h : wasAcknowledged e.phase .normal = true) :
    ClosedOwn e s (closeOwn e .normal s) := by
  have record : historyOf e .normal (now s) =
      ⟨e.origin, e.number, e.kind, e.poles, e.raiseTime, now s, true, .normal⟩ := by
    unfold historyOf
    rw [h]
  have time : now (closeOwn e .normal s) = now s := now_of_clock (by simp)
  refine ⟨by simp only [closeOwn, noticeFor_alarms, closeEntry, State.withAlarms_alarms]; rfl, ?_,
    by simp [closeOwn, noticeFor], ?_⟩
  · rw [time, ← record]
    simp only [closeOwn, noticeFor_alarms, closeEntry, State.withAlarms_alarms]
  · unfold closeOwn
    rw [noticeFor_part]
    rfl

theorem widenOwn_widens (n : Byte) (e : AlarmEntry) (s : State) (h : findAlarm s s.loader.station n = some e) :
    ChangedOwn e e.phase .both s (widenOwn n s) := by
  unfold widenOwn
  rw [h]
  exact changeOwn_changes _ _ _ _

theorem clearOwn_clears (n : Byte) (e : AlarmEntry) (s : State) (h : findAlarm s s.loader.station n = some e) :
    ClearedOwn e s (clearOwn n s) := by
  unfold clearOwn
  rw [h]
  dsimp only
  refine ⟨fun hp => ?_, fun hp => ?_, fun hp => ?_⟩ <;> rw [hp] <;> dsimp only
  · exact changeOwn_changes _ _ _ _
  · exact closeOwn_closes _ _ (by rw [hp]; rfl)
  · exact ⟨rfl, rfl, rfl, rfl⟩

theorem ackOwn_acknowledges (n : Byte) (e : AlarmEntry) (s : State) (h : findAlarm s s.loader.station n = some e) :
    AckedOwn e s (ackOwn n s) := by
  unfold ackOwn
  rw [h]
  dsimp only
  refine ⟨fun hp => ?_, fun hp => ?_, fun hp => ?_⟩ <;> rw [hp] <;> dsimp only
  · exact changeOwn_changes _ _ _ _
  · exact ⟨rfl, rfl, rfl, rfl⟩
  · exact closeOwn_closes _ _ (by rw [hp]; rfl)

/-! ### The number of a raise (R119) -/

/-- The number is `j` steps on from the counter, every step before it is taken, and it is free unless the fuel ran out. -/
theorem freeNumber_spec (used : List Byte) (fuel : Nat) (c : Byte) :
    ∃ j, j ≤ fuel ∧ freeNumber used fuel c = c + BitVec.ofNat 8 j ∧ (∀ i, i < j → c + BitVec.ofNat 8 i ∈ used)
      ∧ (j < fuel → c + BitVec.ofNat 8 j ∉ used) := by
  induction fuel generalizing c with
  | zero => exact ⟨0, le_refl _, by simp [freeNumber], fun i h => by omega, fun h => by omega⟩
  | succ fuel ih =>
    unfold freeNumber
    by_cases h : used.contains c = true
    · rw [if_pos h]
      obtain ⟨j, h1, h2, h3, h4⟩ := ih (c + 1)
      have next : ∀ i, c + 1 + BitVec.ofNat 8 i = c + BitVec.ofNat 8 (i + 1) := by
        intro i
        rw [Nat.add_comm, BitVec.ofNat_add, BitVec.add_assoc]
        rfl
      refine ⟨j + 1, by omega, by rw [h2, next], fun i hi => ?_, fun hj => by rw [← next]; exact h4 (by omega)⟩
      cases i with
      | zero => simpa using h
      | succ i =>
        rw [← next]
        exact h3 i (by omega)
    · rw [if_neg h]
      exact ⟨0, by omega, by simp, fun i h => by omega, fun _ => by simpa using h⟩

/-- Fewer than 256 numbers cannot take one step more than they are. -/
theorem next_number_free (used : List Byte) (c : Byte) (few : used.length < 256)
    (h : ∀ i, i < used.length → c + BitVec.ofNat 8 i ∈ used) : c + BitVec.ofNat 8 used.length ∉ used := by
  intro hc
  have sub : (Finset.range (used.length + 1)).image (fun i => c + BitVec.ofNat 8 i) ⊆ used.toFinset := by
    intro x hx
    obtain ⟨i, hi, rfl⟩ := Finset.mem_image.1 hx
    have := Finset.mem_range.1 hi
    rw [List.mem_toFinset]
    by_cases hh : i = used.length
    · rw [hh]
      exact hc
    · exact h i (by omega)
  have card := Finset.card_le_card sub
  rw [Finset.card_image_of_injOn] at card
  · rw [Finset.card_range] at card
    have := List.toFinset_card_le used
    omega
  · intro a ha b hb hab
    have ha' : a < used.length + 1 := by simpa using ha
    have hb' : b < used.length + 1 := by simpa using hb
    have nats := congrArg BitVec.toNat ((BitVec.add_right_inj c).1 hab)
    simp only [BitVec.toNat_ofNat] at nats
    rw [Nat.mod_eq_of_lt (by omega), Nat.mod_eq_of_lt (by omega)] at nats
    exact nats

theorem raiseNumber_firstFree (s x : State) (hn : x.alarms.nextNumber = s.alarms.nextNumber) (hl : x.loader = s.loader)
    (few : (ownAlarms x).length < 256) : FirstFree s x.alarms.table (raiseNumber x) := by
  have taken : ∀ n : Byte, n ∈ (ownAlarms x).map (·.number) ↔
      ∃ e ∈ x.alarms.table, e.origin = s.loader.station ∧ e.number = n := by
    intro n
    simp only [ownAlarms, ofOrigin, List.mem_map, List.mem_filter, beq_iff_eq, hl, and_assoc]
  obtain ⟨j, h1, h2, h3, h4⟩ :=
    freeNumber_spec ((ownAlarms x).map (·.number)) ((ownAlarms x).map (·.number)).length x.alarms.nextNumber
  have number : raiseNumber x = s.alarms.nextNumber + BitVec.ofNat 8 j := by
    rw [← hn, ← h2]
    rfl
  have free : x.alarms.nextNumber + BitVec.ofNat 8 j ∉ (ownAlarms x).map (·.number) := by
    by_cases hj : j < ((ownAlarms x).map (·.number)).length
    · exact h4 hj
    · obtain rfl : j = ((ownAlarms x).map (·.number)).length := by omega
      exact next_number_free _ _ (by simpa using few) h3
  refine ⟨fun e he ho hnum => free ?_, j, number, fun i hi => ?_⟩
  · rw [hn, ← number]
    exact (taken _).2 ⟨e, he, ho, hnum⟩
  · have := (taken _).1 (h3 i hi)
    rwa [hn] at this

/-! ### A raise (R119, R120, R123) -/

/-- A new own entry under the next number, with its notice. -/
theorem addOwn_spec (x : State) (n : Byte) (e : AlarmEntry) (p : NoticePhase) :
    let t := noticeFor e p (addEntry e (x.withAlarms { x.alarms with nextNumber := n }))
    t.alarms.table = x.alarms.table ++ [e] ∧ t.alarms.history = x.alarms.history ∧ t.alarms.nextNumber = n
      ∧ t.line.alarmPart = handedTo x ⟨e.number, e.kind, e.poles, p, e.raiseTime.getD 0⟩ x.line.alarmPart := by
  dsimp only
  rw [noticeFor_alarms, noticeFor_part, handedTo_of_loader (s := x) (by simp)]
  refine ⟨?_, by simp, by simp, by simp⟩
  unfold addEntry
  dsimp only
  split <;> simp

/-- A close with reason FORCED, of an entry in CLEARED_UNACK. -/
theorem closeOwn_forced (e : AlarmEntry) (s : State) (h : e.phase = .clearedUnack) :
    (closeOwn e .forced s).alarms.table = s.alarms.table.filter (fun x => !(x.origin == e.origin && x.number == e.number))
      ∧ (closeOwn e .forced s).alarms.history =
          (⟨e.origin, e.number, e.kind, e.poles, e.raiseTime, now s, false, .forced⟩ :: s.alarms.history).take 16
      ∧ (closeOwn e .forced s).line.alarmPart =
          handedTo s ⟨e.number, e.kind, e.poles, .closed true, e.raiseTime.getD 0⟩ s.line.alarmPart := by
  refine ⟨?_, ?_, ?_⟩
  · simp only [closeOwn, noticeFor_alarms, closeEntry, State.withAlarms_alarms]
    rfl
  · simp only [closeOwn, noticeFor_alarms, closeEntry, State.withAlarms_alarms, historyOf, h]
    rfl
  · unfold closeOwn
    rw [noticeFor_part]
    rfl

theorem raiseOwn_raises (k : AlarmKind) (ps : PoleSet) (s : State) :
    RaisedOwn k ps (raiseNumber (makeOwnRoom s)) s (raiseOwn k ps s) := by
  have time : now (raiseOwn k ps s) = now s := now_of_clock (by simp)
  have loader : (makeOwnRoom s).loader = s.loader := by simp
  have time' : now (makeOwnRoom s) = now s := now_of_clock (by simp)
  have own : (s.alarms.table.filter fun e => e.origin == s.loader.station) = ownAlarms s := rfl
  have key := addOwn_spec (makeOwnRoom s) (raiseNumber (makeOwnRoom s) + 1)
    ⟨(makeOwnRoom s).loader.station, raiseNumber (makeOwnRoom s), k, ps, .activeUnack, some (now (makeOwnRoom s)),
      now (makeOwnRoom s), .absent, false⟩ (.opened .activeUnack)
  change (raiseOwn k ps s).alarms.table = _ ∧ (raiseOwn k ps s).alarms.history = _ ∧ (raiseOwn k ps s).alarms.nextNumber = _
    ∧ (raiseOwn k ps s).line.alarmPart = _ at key
  rw [time', loader] at key
  obtain ⟨k1, k2, k3, k4⟩ := key
  refine ⟨k3, fun h => ?_, fun h e he => ?_⟩
  · rw [own] at h
    have room : makeOwnRoom s = s := by
      unfold makeOwnRoom
      rw [if_pos h]
    rw [room] at k1 k2 k4 ⊢
    rw [time]
    exact ⟨raiseNumber_firstFree s s rfl rfl (by omega), k1, k2, k4⟩
  · rw [own] at h he
    have room : makeOwnRoom s = closeOwn e .forced s := by
      have gives : givesWay s.loader.station s.alarms.table = some e := by
        unfold givesWay
        rw [show (ofOrigin s.loader.station s.alarms.table).find? isCleared = some e from he]
      unfold makeOwnRoom
      rw [if_neg (by omega), gives]
    obtain ⟨t1, t2, t3⟩ := closeOwn_forced e s (by have := List.find?_some he; simpa using this)
    have few : (ownAlarms (closeOwn e .forced s)).length < 256 := by
      have : (ownAlarms (closeOwn e .forced s)).length ≤ (ownAlarms s).length := by
        unfold ownAlarms ofOrigin
        rw [t1, show (closeOwn e .forced s).loader = s.loader by simp]
        exact (List.filter_sublist.filter _).length_le
      omega
    have free := raiseNumber_firstFree s (closeOwn e .forced s) (by simp [closeOwn, noticeFor]) (by simp) few
    rw [room] at k1 k2 k4 ⊢
    rw [time]
    rw [t1] at k1 free
    rw [t2] at k2
    rw [t3, handedTo_of_loader (s := s) (by simp)] at k4
    exact ⟨free, k1, k2, k4⟩

end Sys2Proof.Machine
end

