-- ==== Sys2Proof/Tests/Slice0.lean ====
section
/-!
SUPPORT. Small checks of the model. Expected results are the manual's worked examples and tables, or hand calculation from its rules;
each section says which. `witness_…` theorems show that the hypotheses of a statement can be met, at boundary values.
-/
namespace Sys2Proof.Tests

open Sys2Proof Sys2Proof.Machine

-- One theorem at a time: hundreds of waiting threads would not fit into the memory of the check.
set_option Elab.async false

/-! ### Records and states to test on -/

/-- The record of station 2 in Tables 1-7 and 5-10, with the default parameters. -/
def trcBytes : List Byte :=
  [1, 33, 138, 131, 0, 25, 3, 32, 25, 20, 10, 5, 40, 39, 16, 0, 100, 1, 44, 1, 194, 0, 50, 2, 88, 2, 48]
    ++ [1, 144, 11, 184, 0, 150, 2, 138, 30, 30, 5, 3, 232, 1, 244, 0, 60, 5, 220, 1, 244, 10, 70, 158, 144, 122, 142]

/-- A collector base's record. -/
def colBytes : List Byte :=
  [1, 16, 26, 131, 0, 128, 80, 20, 25, 20, 10, 5, 40, 39, 16, 0, 100, 1, 44, 1, 194, 0, 50, 2, 88, 2, 48]
    ++ [1, 144, 11, 184, 0, 150, 2, 138, 30, 30, 5, 3, 232, 1, 244, 0, 60, 5, 220, 1, 244, 10, 70, 158, 144, 51, 64]

/-- A desk's record: no voltage input, button, lamp and buzzer. -/
def dskBytes : List Byte :=
  [1, 96, 26, 115, 0, 64, 32, 8, 25, 20, 10, 5, 40, 39, 16, 0, 100, 1, 44, 1, 194, 0, 50, 2, 88, 2, 48]
    ++ [1, 144, 11, 184, 0, 150, 2, 138, 30, 30, 5, 3, 232, 1, 244, 0, 60, 5, 220, 1, 244, 10, 70, 158, 144, 112, 253]

/-- The record of section 9.6 with V_return 320 and amax 950. -/
def badBytes : List Byte :=
  [1, 33, 138, 131, 0, 25, 3, 32, 25, 20, 10, 5, 40, 39, 16, 0, 100, 1, 44, 1, 64, 0, 50, 2, 88, 2, 48]
    ++ [1, 144, 11, 184, 0, 150, 3, 182, 30, 30, 5, 3, 232, 1, 244, 0, 60, 5, 220, 1, 244, 10, 70, 158, 144, 86, 27]

/-- What `trcBytes` say, field by field. -/
def trc : Record where
  version := 1
  role := some .trc
  cls := 1
  weight := 8
  voltageInput := true
  ackButton := false
  lampEnabled := false
  buzzerEnabled := false
  cfgFloor := 0
  onLineCeiling := 400
  offWireCeiling := 200
  period := 20
  rampStep := 25
  staleCount := 3
  lostCount := 10
  demandTimeout := 5
  slotLength := 40
  fzero := 10000
  kv := 100
  vGap := 300
  vReturn := 450
  returnConfirm := 50
  lmax := 600
  vknee := 560
  vfloor := 400
  gapLimit := 3000
  amin := 150
  amax := 650
  adown := 30
  rateLimit := 30
  headWindow := 5
  sensitivity := 10
  calInterval := 1000
  rewireConfirm := 500
  suspicionConfirm := 60
  retrieveTimeout := 1500
  buzzDuration := 500
  reminder := 10
  levels := [1, 0, 1, 2, 2, 1, 3, 2, 2, 1, 0]

def col : Record :=
  { trc with role := some .col, cls := 0, weight := 1, cfgFloor := 2, onLineCeiling := 5, offWireCeiling := 5 }

def dsk : Record :=
  { trc with
    role := some .dsk, cls := 0, weight := 1, cfgFloor := 1, onLineCeiling := 2, offWireCeiling := 2
    voltageInput := false, ackButton := true, lampEnabled := true, buzzerEnabled := true }

def bat : Record := { trc with role := some .bat, cls := 2, weight := 1 }

/-- A station in this run state, ON_LINE with voltage ok, whose windows and boundaries count from 0. -/
def at_ (run : RunState) (r : Record) (n : Station) (ms : StationTime) : State :=
  { State.reset with
    clock := ⟨ms, 0, ms.toNat⟩
    loader := { State.reset.loader with station := n, run := run, attempt := .idle, locked := some r }
    supply := { State.reset.supply with
      windowStart := some 0, volts := [519, 521, 522, 520], run := 5, voltageOk := true, view := .onLine }
    line := { State.reset.line with idle := 12 }
    share := { State.reset.share with
      boundaryAt := some 0, demand := 300, ceiling := r.onLineCeiling, floor := r.cfgFloor }
    port := { State.reset.port with postedDemand := 300 } }

/-- Other stations' entries, as STATE frames of Table 5-3 leave them. -/
def entry (n : Station) (role : Role) (cls weight d f c : Nat) : Peer where
  station := n
  fields :=
    { boot := false, timedOut := false, role := role, cls := cls, weight := weight, seq := 10, view := .onLine, demand := d
      floor := f, ceiling := c, grant := f, voltage := none, discharge := none, summary := [] }
  heard := 0
  age := 0
  freshness := .fresh

/-- The reference vehicle (Table 5-3). -/
def vehicle : List Peer :=
  [ entry 0 .col 0 1 2 2 5, entry 1 .aux 0 4 60 40 80, entry 2 .trc 1 8 300 0 400, entry 3 .trc 1 8 300 0 400
  , entry 4 .hva 2 2 90 10 120, entry 5 .bat 2 1 80 0 150, entry 6 .dsk 0 1 1 1 2 ]

/-- Station 2 of the reference vehicle, RUNNING. -/
def station2 (ms : StationTime) : State := { at_ .running trc 2 ms with peers := vehicle }

/-- A collector base, RUNNING, with both poles ON_WIRE and calibrated at 800 (section 2.10). -/
def base0 (ms : StationTime) : State :=
  let pole : Pole :=
    { Pole.afterReset with state := .onWire, firstMark := false, baseline := 800, verdict := .present, headStart := some 0 }
  { at_ .running col 0 ms with
    poles := { PoleWatch.afterReset with p := pole, n := pole, calStart := some 0 }
    peers := [entry 0 .col 0 1 2 2 5] }

/-- The desk, RUNNING. -/
def desk (ms : StationTime) : State := { at_ .running dsk 6 ms with peers := [entry 0 .col 0 1 2 2 5, entry 6 .dsk 0 1 1 1 2] }

/-- A period of these microseconds, as its three edges. -/
def pulse (high period : Nat) : List AngleEdge := [⟨true, 0⟩, ⟨false, 1000 * high⟩, ⟨true, 1000 * (period - high)⟩]

/-- A frame at once, which no reset cuts. -/
def whole : PortFrame := ⟨0, 0⟩

/-- The state after a command. -/
def after (c : Instr) (s : State) : State :=
  match exec c s with
  | .next t => t
  | .fault _ => s
  | .refused _ => s

def alarm (n : Byte) (k : AlarmKind) (ps : PoleSet) (p : Phase) : AlarmEntry := ⟨0, n, k, ps, p, some 7, 7, .absent, false⟩

/-- `s` with this alarm table. -/
def holding (table : List AlarmEntry) (s : State) : State := { s with alarms := { s.alarms with table := table } }

/-! ### Well-formedness: one ill-formed command for each check -/

theorem test_wf_record_length : (Instr.configReadComplete 0 (trcBytes.take 53)).wf = false := by decide
theorem test_wf_stray_bits : (Instr.unknownRequest whole [0x18] 8).wf = false := by decide
theorem test_wf_known_request : (Instr.unknownRequest whole [0x18] 0).wf = false := by decide
theorem test_wf_cut : (Instr.readStatus ⟨0, 8⟩).wf = true ∧ (Instr.readStatus ⟨0, 9⟩).wf = false
    ∧ (Instr.unknownRequest ⟨0, 12⟩ [0x18] 3).wf = false := by decide
theorem test_wf_edges : (Instr.windowCompletion 0 ⟨620, [⟨true, 0⟩, ⟨true, 9⟩], []⟩).wf = false
    ∧ (Instr.rewireConfirm 0 ⟨620, [], [⟨false, 0⟩, ⟨false, 9⟩]⟩ .p).wf = false := by decide
theorem test_wf_suspicion_edges : (Instr.suspicionConfirm 0 ⟨620, [⟨true, 0⟩, ⟨true, 9⟩], []⟩ .p).wf = false := by decide
theorem test_wf_timeout_edges : (Instr.retrieveTimeout 0 ⟨620, [⟨true, 0⟩, ⟨true, 9⟩], []⟩ .n).wf = false := by decide
theorem test_wf_lapse_origin : (Instr.ackPendingLapse 0 2 5).wf = false := by decide
theorem test_wf_state_kind : (Instr.stateFrame 0 12 [0xAA, 0x1E, 0x02, 0x00, 0x0C, 0x92, 0xD1]).wf = false := by decide +kernel
theorem test_wf_alarm_crc : (Instr.alarmFrame 0 12 [0xAA, 16, 7, 5, 17, 1, 0, 0, 7, 238, 133, 48]).wf = false := by decide +kernel
theorem test_wf_ack_extra : (Instr.ackFrame 0 12 [0xAA, 0x1E, 0x02, 0x00, 0x0C, 0x92, 0xD1, 0]).wf = false := by decide +kernel
theorem test_wf_gap_start_phase : (Instr.gapStartFrame 0 12 (frameBytes ⟨0, .gap ⟨false, 17⟩⟩)).wf = false := by decide +kernel
theorem test_wf_gap_end_phase : (Instr.gapEndFrame 0 12 (frameBytes ⟨0, .gap ⟨true, 17⟩⟩)).wf = false := by decide +kernel
theorem test_wf_clash_incomplete : (Instr.clashFrame 0 12 [0xAA]).wf = false := by decide
theorem test_wf_fault_empty : (Instr.receiveFault 0 12 [] false).wf = false := by decide
theorem test_wf_truncation_gap : (Instr.frameTruncation 0 12 [0xAA] 20).wf = false := by decide
theorem test_wf_attempt_levels : (Instr.configAttemptFailed ⟨0, ⟨true, false, false, true, false⟩⟩).wf = false := by decide
theorem test_wf_deadline_step : (Instr.configReadDeadline ⟨0, 60⟩).wf = false := by decide
theorem test_wf_abort_bit : (Instr.collisionAbort 0 360).wf = false := by decide
theorem test_wf_press_short : (Instr.ackButtonPress 0 19).wf = false := by decide
theorem test_wf_release_short : (Instr.ackButtonRelease 0 19).wf = false := by decide

/-! ### Formats -/

/-- Table 10-5. -/
theorem test_crc_steps : crc16 [0x1E] = 0x120F#16 ∧ crc16 [0x1E, 2] = 0x1D31#16 ∧ crc16 [0x1E, 2, 0, 12] = 0x92D1#16 := by
  decide +kernel

/-- The worked ACK frame of section 10.1, both ways. -/
theorem test_ack_frame : frameBytes ⟨6, .ack ⟨0, 12⟩⟩ = [0xAA, 0x1E, 0x02, 0x00, 0x0C, 0x92, 0xD1]
    ∧ examine [0xAA, 0x1E, 0x02, 0x00, 0x0C, 0x92, 0xD1] = .good ⟨6, .ack ⟨0, 12⟩⟩ := by decide +kernel

/-- An ALARM frame written out from Table 10-4 (its CRC by R48): DEWIRE 5, pole P, ACTIVE_UNACK, raised at 2030. -/
theorem test_alarm_frame :
    examine [0xAA, 0x10, 7, 5, 0x11, 1, 0, 0, 7, 0xEE, 133, 49] = .good ⟨0, .alarm ⟨5, .dewire, .p, .opened .activeUnack, 2030⟩⟩ := by
  decide +kernel

/-- A byte on the line: start bit 0, data least significant bit first, stop bit 1 (R46); SYNC is AAh. -/
theorem test_line_bits :
    lineBits [0xAA] = [false, false, true, false, true, false, true, false, true, true] := by decide

/-- A wrong sync, a LEN of 32, a wrong CRC and an undefined kind (Table 3-3). -/
theorem test_receive_faults :
    examine [0xAB] = .fault .sync ∧ examine [0xAA, 0x1E, 32] = .fault .lengthRange
      ∧ examine [0xAA, 0x1E, 0x02, 0x00, 0x0C, 0x92, 0xD0] = .fault .crc
      ∧ examineFraming [0xAA, 0x1E] = .fault .framing := by decide +kernel

/-- Table 10-6's first bytes, and R160's refusals. -/
theorem test_request_decode :
    decodeRequest [0x06, 0x05, 0xDC] 0 = .ok (.postDemand 1500) ∧ decodeRequest [0x15, 2] 0 = .ok (.releaseRetrieve 2)
      ∧ decodeRequest [0x30] 0 = .ok .moduleReset ∧ decodeRequest [0x18, 0] 0 = .error .badLength
      ∧ decodeRequest [0x19, 0] 0 = .error .unknownRequest ∧ decodeRequest [0x18] 3 = .error .badLength
      ∧ decodeRequest [] 5 = .error .badLength ∧ decodeRequest [0x00] 0 = .error .unknownRequest := by decide

/-- A CRC taken in two parts, which keeps the kernel's evaluation short. -/
theorem crc16_parts (a b : List Byte) (x y : BitVec 16) (ha : crc16 a = x) (hb : b.foldl crcByte x = y) : crc16 (a ++ b) = y := by
  rw [crc16, List.foldl_append, ← hb, ← ha]; rfl

theorem test_trc_crc : crc16 (trcBytes.take 52) = 0x7A8E#16 :=
  crc16_parts (trcBytes.take 27) ((trcBytes.take 52).drop 27) 0x3820#16 _ (by decide +kernel) (by decide +kernel)

theorem test_col_crc : crc16 (colBytes.take 52) = 0x3340#16 :=
  crc16_parts (colBytes.take 27) ((colBytes.take 52).drop 27) 0x5C5A#16 _ (by decide +kernel) (by decide +kernel)

theorem test_dsk_crc : crc16 (dskBytes.take 52) = 0x70FD#16 :=
  crc16_parts (dskBytes.take 27) ((dskBytes.take 52).drop 27) 0x7C56#16 _ (by decide +kernel) (by decide +kernel)

theorem test_bad_crc : crc16 (badBytes.take 52) = 0x561B#16 :=
  crc16_parts (badBytes.take 27) ((badBytes.take 52).drop 27) 0xF33A#16 _ (by decide +kernel) (by decide +kernel)

/-- Table 10-10: the records decoded and accepted. -/
theorem test_trc_record : checkRecord trcBytes 2 = .ok trc := by
  unfold checkRecord crcBytes; rw [test_trc_crc]; decide +kernel

theorem test_col_record : checkRecord colBytes 0 = .ok col := by
  unfold checkRecord crcBytes; rw [test_col_crc]; decide +kernel

theorem test_dsk_record : checkRecord dskBytes 6 = .ok dsk := by
  unfold checkRecord crcBytes; rw [test_dsk_crc]; decide +kernel

/-- Section 9.6: V_return 320 and amax 950 report field 21. -/
theorem test_record_field21 : checkRecord badBytes 4 = .error (.field 21) := by
  unfold checkRecord crcBytes; rw [test_bad_crc]; decide +kernel

/-- Table 9-3: a collector base's record at station 2 reports field 2. -/
theorem test_record_collector_number : checkRecord colBytes 2 = .error (.field 2) := by
  unfold checkRecord crcBytes; rw [test_col_crc]; decide +kernel

/-- R155: a CRC that differs. -/
theorem test_record_crc_fault : checkRecord (trcBytes.set 53 0) 2 = .error .crcFault := by
  unfold checkRecord crcBytes
  rw [show (trcBytes.set 53 0).take 52 = trcBytes.take 52 from rfl, test_trc_crc]; decide +kernel

/-- No row of the table has bits. -/
theorem test_no_table_word : decodeTableWord 8 0 = none := by decide

/-! ### Worked figures -/

/-- Table 1-2. -/
theorem test_window_volts :
    [0, 100, 135, 360, 620, 1000, 12500].map (windowVolts trc) = [0, 0, 35, 260, 520, 900, 1200] := by decide +kernel

/-- Table 1-4. -/
theorem test_curve_budget :
    [700, 560, 520, 519, 480, 401, 400, 259].map (curveBudget trc) = [600, 600, 450, 446, 300, 3, 0, 0] := by decide +kernel

/-- R5: 50, 10 and 55 ms. -/
theorem test_confirm_count : [50, 10, 55].map (fun c => confirmCount { trc with returnConfirm := c }) = [5, 1, 6] := by decide

/-- The sums behind Table 1-7. -/
theorem test_smoothed : smoothed (station2 0) = 520
    ∧ smoothed { station2 0 with supply := { (station2 0).supply with volts := [521, 522, 520, 260] } } = 455 := by decide

/-- Table 2-2. -/
theorem test_angles :
    [(⟨412, 1000⟩ : AnglePeriod), ⟨100, 1000⟩, ⟨75, 1000⟩, ⟨900, 1000⟩, ⟨1880, 2000⟩, ⟨1100, 2000⟩, ⟨93, 1000⟩, ⟨40, 1000⟩, ⟨400, 450⟩].map
        angleOf
      = [some 351, some 0, some 0, some 900, some 900, some 506, some 0, none, none] := by decide

/-- Table 2-3, and the threshold of 500 under it. -/
theorem test_baseline_steps : stepBaseline 0 812 = 812 ∧ stepBaseline 800 840 = 805 ∧ stepBaseline 800 770 = 797
    ∧ stepBaseline 800 806 = 800 ∧ verdictOf col 800 499 = .low ∧ verdictOf col 800 500 = .present := by decide

/-- Table 3-2's deferrals, and section 3.9's. -/
theorem test_deferrals : deferral .alarm 0 = 12 ∧ deferral .ack 4 = 24 ∧ deferral .state 2 = 30 ∧ deferral .state 6 = 34 := by
  decide

/-- Table 4-4. -/
theorem test_sequence_window : inWindow 11 10 = true ∧ inWindow 137 10 = true ∧ inWindow 138 10 = false ∧ inWindow 10 10 = false
    ∧ inWindow 3 250 = true ∧ inWindow 199 200 = false := by decide

/-- Tables 5-4 and 5-5: the reference case at 450 A. -/
theorem test_allocate_reference :
    (allocate 450 (vehicle.map claimant)).1.map (·.g) = [2, 60, 188, 188, 10, 0, 1] := by decide

/-- Table 5-7: two rounds in the deferrable class. -/
theorem test_allocate_two_rounds :
    (allocate 450 ((vehicle.map claimant).map fun c =>
        if c.cls = 1 then { c with d := 150 } else if c.station = 5 then { c with d := 20 } else c)).1.map (·.g)
      = [2, 60, 150, 150, 67, 20, 1] := by decide

/-- Table 5-8: a floor shortfall at 37 A. -/
theorem test_allocate_shortfall :
    (allocate 37 (vehicle.map claimant)).1.map (·.g) = [1, 34, 0, 0, 0, 0, 0]
      ∧ (allocate 37 (vehicle.map claimant)).2 = true := by decide

/-- Table 5-9: station 3 STALE at a claim of 188. -/
theorem test_allocate_stale :
    (allocate 450 ((vehicle.map fun e => if e.station = 3 then { e with freshness := .stale 188 } else e).map claimant)).1.map (·.g)
      = [2, 60, 189, 188, 10, 0, 1] := by decide

/-- R10's floors-only budget of the reference vehicle. -/
theorem test_floors_only : floorsBudget vehicle = 53 := by decide

/-- Table 5-10: the duties. -/
theorem test_duties : limitDuty { Share.afterReset with grant := 175, ceiling := 400 } = 437
    ∧ limitDuty { Share.afterReset with grant := 188, ceiling := 300 } = 626 := by decide

/-- Table 6-4: the ranks of stations 2 and 6. -/
theorem test_ranks : restoreRank (station2 0) = 3 ∧ restoreRank { desk 0 with peers := vehicle } = 2 := by decide

/-- Section 8.7: among causes 7 and 8 at the default levels, 8 is selected; 7 alone is masked. -/
theorem test_selected_cause :
    selectedCause { desk 0 with port := { (desk 0).port with attention := 0x180#12 } } = some .alarmTableChanged
      ∧ attentionLine { desk 0 with port := { (desk 0).port with attention := 0x080#12 } } = false := by decide

/-! ### Commands, one step each -/

/-- R153: the straps give the station number, the cause is POWER_ON and the run state CONFIGURING. -/
theorem test_power_on : (after (.powerOnReset 5#3 false) (base0 2000)).loader = { State.reset.loader with station := 5 } := by
  decide +kernel

/-- R45, R137: a module reset keeps the retrieve output and gives the carried mark. -/
theorem test_module_reset_carries :
    let s := after (.moduleReset whole 0#3) { base0 2000 with poles := setPole .p { Pole.afterReset with retrieve := true } PoleWatch.afterReset }
    s.poles.p.retrieve = true ∧ s.poles.p.carried = true ∧ s.poles.n.carried = false ∧ s.loader.cause = .request := by decide +kernel

/-- R154: an attempt fails for want of an acknowledge of the address 50h, which is followed by a stop condition; the next begins 1 ms
later. -/
theorem test_retry :
    let s := { State.reset with loader := { State.reset.loader with attempt := .failed 0 } }
    let t := after (.configAttemptFailed ⟨7000, ⟨true, true, true, true, true⟩⟩) State.reset
    t.loader.attempt = .failed 7 ∧ t.loader.bus = [.start, .address 0x50 false, .stop]
      ∧ (after (.configReadRetry 1000) s).loader.attempt = .inProgress
      ∧ (after (.configReadRetry 999) s).loader.attempt = .failed 0 := by decide +kernel

/-- R154: NO_ANSWER at 20 ms, inside the attempt's third step. -/
theorem test_no_answer :
    let t := after (.configReadDeadline ⟨20000, 2⟩) State.reset
    t.loader.fault = .noAnswer ∧ t.loader.bus = [.start, .address 0x50 false, .stop] := by decide +kernel

/-- Table 8-5: POST_DEMAND 1500 is clamped. -/
theorem test_post_clamps : (after (.postDemand whole 1500#16) (station2 0)).port.postedDemand = 1023 := by decide +kernel

/-- Table 8-6: CAP_CEILING 350 after 300 is NOT_ALLOWED. -/
theorem test_cap_only_lowers :
    let s := after (.capCeiling whole 350#16) { station2 0 with port := { (station2 0).port with postedCap := 300 } }
    s.port.postedCap = 300 ∧ s.port.held = ⟨.notAllowed, 0x0E, []⟩ := by decide +kernel

/-- R139: a frame shifts out the answer to the frame before, and 00h beyond it. -/
theorem test_exchange :
    (after (.capCeiling whole 9#16) { station2 0 with port := { (station2 0).port with held := ⟨.noTarget, 0x10, []⟩ } }).port.shifted
      = [false, false, false, false, true, false, false, false, false, false, false, true, false, false, false, false]
        ++ List.replicate 8 false := by decide +kernel

/-- R138: bits shift out most significant first, in an incomplete last byte too. -/
theorem test_exchange_bits :
    (after (.unknownRequest whole [] 6) { station2 0 with port := { (station2 0).port with held := ⟨.ok, 0xC4, []⟩ } }).port.shifted.length = 6
      ∧ (shiftOut ⟨.ok, 0xC4, []⟩ 11).drop 8 = [true, true, false] := by decide +kernel

/-- R138: a reset after 11 bits of a frame: the bits of the response that stood held, and zeros for the rest. -/
theorem test_cut_frame :
    let s := { State.reset with
      loader := { State.reset.loader with pin := .holding }, port := { State.reset.port with lost := ⟨.ok, 0xC4, []⟩ } }
    (after (.capCeiling ⟨5, 11⟩ 9#16) s).port.shifted
        = List.replicate 7 false ++ [true, true, true, false] ++ List.replicate 13 false
      ∧ (pins (some 11) s).cs = false ∧ (pins (some 11) s).sdo = some false ∧ (pins none s).reset = false := by decide +kernel

/-- Table 10-8: READ_STATUS of the TRC station at its first bytes and its pending grant of none. -/
theorem test_read_status : (statusPayload (station2 0)).take 9 = [2, 2, 2, 3, 0, 0, 0, 0xFF, 0xFF]
    ∧ (statusPayload (station2 0)).length = 23 := by decide +kernel

/-- R147: READ_PEER of an absent station. -/
theorem test_read_peer_absent : (after (.readPeer whole 7) (station2 0)).port.held = ⟨.noTarget, 0x1D, []⟩ := by decide +kernel

/-- R151: CLEAR_ATTENTION 12 is NO_TARGET, and 0 clears RESTARTED. -/
theorem test_clear_attention : (after (.clearAttention whole 12) (station2 0)).port.held.status = .noTarget
    ∧ (after (.clearAttention whole 0) (station2 0)).port.attention = 0 := by decide +kernel

/-- R140: 18h with a second byte is BAD_LENGTH. -/
theorem test_unknown_request : (after (.unknownRequest whole [0x18, 0] 0) (station2 0)).port.held = ⟨.badLength, 0x18, []⟩ := by
  decide +kernel

/-- Table 1-7 at 1010: a loss in ON_LINE. -/
theorem test_loss : let s := after (.windowCompletion 0 ⟨360, [], []⟩) { station2 10 with share := { (station2 10).share with grant := 188 } }
    s.supply.volts = [521, 522, 520, 260] ∧ s.supply.run = 0 ∧ s.supply.view = .gap ∧ s.share.grant = 0 := by decide +kernel

/-- Table 1-7 at 1080: the fifth good window takes GAP to RESTORING, with the delay of rank 3. -/
theorem test_voltage_returns :
    let s := after (.windowCompletion 0 ⟨620, [], []⟩)
      { station2 10 with supply := { (station2 10).supply with view := .gap, gapStart := some 0, run := 4, voltageOk := false } }
    s.supply.view = .restoring ∧ s.shed.restore = some ⟨10, 3, 120⟩ := by decide +kernel

/-- Table 1-7 at 1200: the restore delay of 120 ms. -/
theorem test_restore_expiry :
    let s := { station2 120 with
      supply := { (station2 120).supply with view := .restoring }, shed := { Shed.afterReset with restore := some ⟨0, 3, 120⟩ } }
    (after (.restoreDelayExpiry 0) s).supply.view = .onLine := by decide +kernel

/-- Table 2-6 at 2030: A_fast takes SUSPECT to DEWIRED; DEWIRE 0 is raised and the view is OFF_LINE; the loss changes nothing. -/
theorem test_dewirement :
    let s := base0 10
    let q : Pole := { s.poles.p with
      state := .suspect, suspicionStart := some 0, verdict := .low, prevAngle := some 368, prevUsable := true }
    let t := after (.windowCompletion 0 ⟨100, pulse 475 1000, pulse 412 1000⟩) { s with poles := { s.poles with p := q } }
    t.poles.p.state = .dewired ∧ t.poles.p.retrieve = true ∧ t.poles.n.state = .onWire ∧ t.supply.view = .offLine
      ∧ t.alarms.table = [⟨0, 0, .dewire, .p, .activeUnack, some 10, 10, .absent, false⟩] ∧ t.poles.openGap = none := by
  decide +kernel

/-- R23: a period that opened in the span before, high for its last 100 µs, falls and closes in this one (Table 2-2's 412 µs of 1000). -/
theorem test_period_across_spans :
    let q : Pole := { (base0 10).poles.p with opened := some ⟨0, none⟩ }
    let s := { base0 10 with poles := { (base0 10).poles with p := q } }
    let t := after (.windowCompletion 0 ⟨620, [⟨false, 412000⟩, ⟨true, 588000⟩], pulse 412 1000⟩) s
    t.poles.p.prevAngle = some 351 ∧ t.poles.p.opened = some ⟨0, none⟩ ∧ t.poles.p.capture = none := by decide +kernel

/-- Table 2-8 at 4010: a loss in ON_LINE with both poles ON_WIRE hands GAP_START 17. -/
theorem test_gap_start_handed :
    let s := base0 10
    let t := after (.windowCompletion 0 ⟨360, pulse 412 1000, pulse 412 1000⟩) { s with poles := { s.poles with gapSerial := 17 } }
    t.line.gapPart = some ⟨⟨true, 17⟩, 0, false, false⟩ ∧ t.poles.gapSerial = 18 ∧ t.supply.view = .gap := by decide +kernel

/-- Table 2-3: the mean of one eligible window of 840 moves a baseline of 800 to 805. -/
theorem test_calibration :
    let s := base0 1000
    let t := after (.calibrationIntervalEnd 0)
      { s with poles := { s.poles with p := { s.poles.p with calSum := 840, calTally := 1 } } }
    (after (.headWindowCompletion 0 .p 840) s).poles.p.calSum = 840 ∧ t.poles.p.baseline = 805 ∧ t.poles.n.baseline = 800 := by
  decide +kernel

/-- R36: a release of a pole that is not LOWERED is WRONG_STATE; of one that is, STOWED and deasserted. -/
theorem test_release :
    let s := base0 10
    let t := { s with poles := { s.poles with p := { s.poles.p with state := .lowered, retrieve := true } } }
    (after (.releaseRetrieve whole 1) s).port.held.status = .wrongState ∧ (after (.releaseRetrieve whole 1) t).poles.p.state = .stowed
      ∧ (after (.releaseRetrieve whole 1) t).poles.p.retrieve = false := by decide +kernel

/-- R16, R42: the gap limit at a collector base with both poles ON_WIRE raises LINE_DEAD. -/
theorem test_gap_limit :
    let s := base0 3000
    let t := after (.gapLimitExpiry 0) { s with supply := { s.supply with view := .gap, gapStart := some 0, voltageOk := false } }
    t.supply.view = .offLine ∧ t.alarms.table.map (·.kind) = [.lineDead] := by decide +kernel

/-- Table 5-10 at 3105: pending 150 comes into force and 175 is formed. -/
theorem test_boundary :
    let s := { station2 20 with share := { (station2 20).share with pendingGrant := some 150, grant := 125 } }
    let t := after (.periodBoundary 0) s
    t.share.grant = 150 ∧ t.share.target = 188 ∧ t.share.pendingGrant = some 175 ∧ t.line.stateWaiting = true := by
  decide +kernel

/-- Table 4-6: at the third boundary the entry becomes STALE at its claim of 10; at the tenth it is removed. -/
theorem test_ageing :
    let aged (n : Nat) : State := { station2 20 with peers := vehicle.map fun e => if e.station = 4 then { e with age := n } else e }
    (peerOf (after (.peerStale 0 4) (aged 2)) 4).map (·.freshness) = some (.stale 10)
      ∧ peerOf (after (.peerLost 0 4) (aged 9)) 4 = none := by decide +kernel

/-- R158: the boundary for k = lost count ends the listen phase, with the own entry and a STATE waiting. -/
theorem test_listen_end :
    let s := at_ .listen trc 2 20
    let t := after (.listenPhaseEnd 0) { s with share := { s.share with boundaries := 9 } }
    t.loader.run = .running ∧ t.peers.map (·.station) = [2] ∧ t.line.stateWaiting = true := by decide +kernel

/-- R114: the fifth boundary without a post times the demand out to the configured floor. -/
theorem test_demand_timeout :
    let t := after (.demandTimeout 0) { station2 20 with shed := { Shed.afterReset with demandSilence := 4 } }
    t.shed.demandTimedOut = true ∧ t.share.demand = 0 := by decide +kernel

/-- R115: the source timeout makes the discharge limit 0. -/
theorem test_source_timeout :
    let s := at_ .running bat 5 20
    let t := after (.sourceTimeout 0)
      { s with shed := { Shed.afterReset with sourceSilence := 4 }, port := { s.port with postedSource := 300 } }
    t.shed.sourceTimedOut = true ∧ t.share.discharge = 0 := by decide +kernel

/-- R132: the fourth own boundary after "ACK sent". -/
theorem test_ack_lapse :
    let t := after (.ackPendingLapse 0 0 5) (holding [{ alarm 5 .dewire .p .activeUnack with ack := .sent 3 }]
      { desk 20 with supply := { (desk 20).supply with view := .offLine } })
    t.alarms.table.map (·.ack) = [.absent] := by decide +kernel

/-- Table 4-3: a STATE of an absent source creates its entry. -/
theorem test_state_creates :
    let t := after (.stateFrame 0 12 (frameBytes ⟨7, .state (entry 7 .gen 2 1 5 0 9).fields⟩)) (station2 0)
    (peerOf t 7).map (·.fields.demand) = some 5 ∧ isPending t.port .peerJoined = true := by decide +kernel

/-- R124, R133, R134, R17: a new DEWIRE at the desk: OFF_LINE, the lamp flashing and the buzzer sounding. -/
theorem test_alarm_heard :
    let t := after (.alarmFrame 0 12 [0xAA, 0x10, 7, 5, 0x11, 1, 0, 0, 7, 0xEE, 133, 49]) (desk 50)
    t.supply.view = .offLine ∧ t.alarms.lamp = .flashing ∧ t.alarms.buzzer = true
      ∧ t.alarms.table = [⟨0, 5, .dewire, .p, .activeUnack, some 2030, 50, .absent, false⟩] := by decide +kernel

/-- Table 7-3: an ACK of an ACTIVE_UNACK alarm at its origin; one of a CLEARED_UNACK alarm closes it. -/
theorem test_ack_at_origin :
    let off (p : Phase) : State := holding [alarm 12 .retrieveFail .p p] (base0 10)
    let bytes : List Byte := [0xAA, 0x1E, 0x02, 0x00, 0x0C, 0x92, 0xD1]
    (after (.ackFrame 0 12 bytes) (off .activeUnack)).alarms.table.map (·.phase) = [.activeAcked]
      ∧ (after (.ackFrame 0 12 bytes) (off .clearedUnack)).alarms.table = []
      ∧ (after (.ackFrame 0 12 bytes) (off .clearedUnack)).alarms.history.map (·.acknowledged) = [true] := by decide +kernel

/-- Table 1-7 at 1004 and 1077: GAP_START 17 takes ON_LINE to GAP with the record; GAP_END 17 releases it, before voltage ok. -/
theorem test_gap_frames :
    let s := after (.gapStartFrame 0 12 (frameBytes ⟨0, .gap ⟨true, 17⟩⟩)) (station2 0)
    let t := after (.gapEndFrame 0 12 (frameBytes ⟨0, .gap ⟨false, 17⟩⟩)) { station2 77 with
      supply := { (station2 77).supply with view := .gap, records := [⟨0, 17⟩], run := 4, voltageOk := false } }
    s.supply.view = .gap ∧ s.supply.records = [⟨0, 17⟩] ∧ t.supply.view = .gap ∧ t.supply.records = [] := by decide +kernel

/-- R80: a frame with the own number. -/
theorem test_clash :
    (after (.clashFrame 0 12 (frameBytes ⟨2, .ack ⟨0, 12⟩⟩)) (station2 0)).loader.run = .clash := by decide +kernel

/-- R50: a CRC fault, and a frame cut by 21 idle bit times, each raise REC. -/
theorem test_rec : (after (.receiveFault 0 12 [0xAA, 0x1E, 0x02, 0x00, 0x0C, 0x92, 0xD0] false) (station2 0)).line.recv = 1
    ∧ (after (.frameTruncation 0 12 [0xAA, 0x1E] 21) (station2 0)).line.recv = 1
    ∧ (after (.frameTruncation 0 12 [0xAA, 0x1E] 20) (station2 0)).line.recv = 0 := by decide +kernel

/-- R53: station 2's STATE starts at 30 idle bit times. -/
theorem test_deferral :
    let s := { station2 0 with line := { (station2 0).line with stateWaiting := true } }
    (after (.deferralReached 0 17) s).line.attempt = none ∧ (after (.deferralReached 0 18) s).line.attempt.isSome = true := by
  decide +kernel

/-- R55, R56: an abort raises TEC and the STATE waits again; a success lowers it. -/
theorem test_attempt_ends :
    let s := { station2 0 with line := { (station2 0).line with attempt := some ⟨.state true, [0xAA, 10], .hunting, 30, 0⟩, tec := 5 } }
    (after (.collisionAbort 0 18) s).line.tec = 6 ∧ (after (.collisionAbort 0 18) s).line.stateWaiting = true
      ∧ (after (.transmitSuccess 0) s).line.tec = 4 ∧ (after (.transmitSuccess 0) s).line.statesSent = 1 := by decide +kernel

/-- R46: a start bit read as 1 is a glitch, which leaves the receiver and the idle time as they were; TXEN is asserted until the last
stop bit, 2 µs after the last data bit, has been sent. -/
theorem test_glitch_and_stop_bit :
    let s := { station2 0 with line := { (station2 0).line with attempt := some ⟨.state true, [0xAA, 10], .hunting, 30, 0⟩ } }
    (after (.collisionAbort 0 0) s).line.idle = 30 ∧ (after (.collisionAbort 0 0) s).line.rx = .hunting
      ∧ (after (.collisionAbort 0 1) s).line.rx = .inFrame []
      ∧ (pins none (after (.transmitSuccess 0) s)).txen = true ∧ (pins none (advance 2 (after (.transmitSuccess 0) s))).txen = false := by
  decide +kernel

/-- R66, R67: the 32nd error suspends; 1000 ms later TEC is 16. -/
theorem test_suspension :
    let s := { station2 0 with line := { (station2 0).line with attempt := some ⟨.state true, [0xAA, 10], .hunting, 30, 0⟩, tec := 31 } }
    let t := { at_ .txSuspended trc 2 0 with line := { (station2 0).line with tec := 32, suspendedAt := some 0 } }
    (after (.collisionAbort 0 18) s).loader.run = .txSuspended ∧ (after (.suspensionExpiry 1000000) t).line.tec = 16
      ∧ (after (.suspensionExpiry 999999) t).loader.run = .txSuspended := by decide +kernel

/-- R130, R131: a press queues one ACK; the next press needs a release first. -/
theorem test_button :
    let s := holding [alarm 5 .dewire .p .activeUnack]
      { desk 50 with supply := { (desk 50).supply with view := .offLine }, alarms := { (desk 50).alarms with buttonArmed := true } }
    let t := after (.ackButtonPress 0 20) { s with alarms := { s.alarms with buttonArmed := true } }
    t.line.ackPart = [⟨⟨0, 5⟩, 0, false, false⟩] ∧ t.alarms.buttonArmed = false
      ∧ (after (.ackButtonRelease 0 20) (desk 19)).alarms.buttonArmed = false
      ∧ (after (.ackButtonRelease 0 20) (desk 20)).alarms.buttonArmed = true := by decide +kernel

/-- R133: the lamp changes every 500 ms. -/
theorem test_flash :
    let s := { desk 500 with alarms := { (desk 500).alarms with lamp := .flashing, lampLit := true, flashStart := some 0 } }
    (after (.flashClockToggle 0) s).alarms.lampLit = false ∧ (after (.flashClockToggle 0) s).alarms.flashStart = some 500 := by
  decide +kernel

/-- R134: silent after the buzz duration, and a reminder after 10 s. -/
theorem test_buzzer_timers :
    let s := holding [alarm 5 .dewire .p .activeUnack] (desk 10000)
    (after (.soundingTimerExpiry 0)
        { s with alarms := { s.alarms with buzzer := true, soundStart := some 9500 } }).alarms.buzzer = false
      ∧ (after (.reminderTimerExpiry 0) { s with alarms := { s.alarms with reminderStart := some 0 } }).alarms.buzzer = true := by
  decide +kernel

/-- R101: at a duty of 437 the output is low from 437 µs on. -/
theorem test_limit_output :
    let s := { station2 0 with share := { (station2 0).share with grant := 175, limitElapsed := some 999 } }
    let t := { s with share := { s.share with limitHigh := true, limitElapsed := some 0 } }
    (after (.limitPeriodOpens 1) s).share.limitHigh = true ∧ (after (.limitDutyReached 436) t).share.limitHigh = true
      ∧ (after (.limitDutyReached 437) t).share.limitHigh = false := by decide +kernel

/-- R153: while the pin holds a reset, requests do nothing; its release ends it. -/
theorem test_pin_reset :
    let s := { State.reset with loader := { State.reset.loader with pin := .holding } }
    (after .resetPinAsserted (station2 0)).loader.pin = .holding ∧ after (.readStatus ⟨5, 0⟩) s = { s with port := { s.port with shifted := List.replicate 8 false } }
      ∧ (after (.resetPin 3#3 false) s).loader.cause = .resetPin
      ∧ (after .supplyBelowOperatingLevel s).loader.supplyLow = true := by decide +kernel

/-! ### Witnesses: the hypotheses of the statements can be met -/

theorem witness_EmptyQueueIdles : State.reset.pending = [] := by decide

theorem witness_HeldResetStopsCommands :
    inReset (after .resetPinAsserted (station2 0)) = true ∧ (Instr.readStatus ⟨5, 0⟩).elapsed = some 5
      ∧ (Instr.readStatus ⟨5, 8⟩).asFrame = some (⟨5, 8⟩, 8) ∧ (Instr.unknownRequest ⟨5, 0⟩ [0x18] 3).asFrame = some (⟨5, 0⟩, 11)
      ∧ (Instr.readStatus ⟨5, 8⟩).elapsed = some 5 ∧ (Instr.gapLimitExpiry 5).asFrame = none ∧ (Instr.gapLimitExpiry 5).elapsed = some 5 := by decide +kernel

theorem witness_StationTimeAdvances :
    let c := Instr.readStatus ⟨1999, 0⟩
    inReset (station2 0xFFFFFFFF) = false ∧ c.elapsed = some 1999 ∧ c.isReset = false
      ∧ exec c (station2 0xFFFFFFFF) = .next (after c (station2 0xFFFFFFFF)) :=
  ⟨by decide +kernel, rfl, rfl, rfl⟩

theorem witness_ModuleResetEffect :
    PortReady (base0 10) ∧ (base0 10).loader.supplyLow = false ∧ (base0 10).loader.pin ≠ .absorbed := by decide +kernel

/-- A read in progress and a failed one; levels that fail at each of the five instants, and that fail nowhere. -/
theorem witness_ReadAttemptsAndDeadline :
    let s := State.reset
    let failed := { s with loader := { s.loader with attempt := .failed 3 } }
    inReset s = false ∧ s.loader.run = .configuring ∧ s.loader.attempt = .inProgress
      ∧ inReset failed = false ∧ failed.loader.run = .configuring ∧ failed.loader.attempt = .failed 3
      ∧ 1 ≤ (now (advance 4000 failed) - 3).toNat ∧ 20 ≤ (now (advance 20000 s) - s.loader.readStart).toNat
      ∧ ([⟨false, false, false, true, false⟩, ⟨true, true, false, true, false⟩, ⟨true, false, true, true, false⟩
          , ⟨true, false, false, false, false⟩, ⟨true, false, false, true, true⟩, ⟨true, false, false, true, false⟩] : List BusLevels).map
            failurePoint = [some 0, some 2, some 3, some 3, some 5, none] := by decide +kernel

/-- A record whose CRC differs, and one with a good CRC and a bad field. -/
theorem witness_FailedRecordVerdict :
    let s := { State.reset with loader := { State.reset.loader with station := 2 } }
    Reading 19999 s ∧ (trcBytes.set 53 0).length = 54
      ∧ checkRecord (trcBytes.set 53 0) s.loader.station = .error .crcFault
      ∧ (trcBytes.set 53 0).drop 52 ≠ crcBytes ((trcBytes.set 53 0).take 52)
      ∧ colBytes.length = 54 ∧ checkRecord colBytes s.loader.station = .error (.field 2)
      ∧ colBytes.drop 52 = crcBytes (colBytes.take 52) := by
  refine ⟨by decide +kernel, by decide, test_record_crc_fault, ?_, by decide, test_record_collector_number, ?_⟩
  · rw [show (trcBytes.set 53 0).take 52 = trcBytes.take 52 from rfl, crcBytes, test_trc_crc]; decide +kernel
  · rw [crcBytes, test_col_crc]; decide +kernel

/-- A collector base, a station with a voltage input that is none, and one without. -/
theorem witness_GoodRecordStartsListening :
    let s (n : Station) : State := { State.reset with loader := { State.reset.loader with station := n } }
    Reading 18000 (s 0) ∧ colBytes.length = 54 ∧ checkRecord colBytes (s 0).loader.station = .ok col ∧ col.role = some .col
      ∧ Reading 18000 (s 2) ∧ trcBytes.length = 54 ∧ checkRecord trcBytes (s 2).loader.station = .ok trc
      ∧ trc.role ≠ some .col ∧ trc.voltageInput = true
      ∧ Reading 18000 (s 6) ∧ dskBytes.length = 54 ∧ checkRecord dskBytes (s 6).loader.station = .ok dsk
      ∧ dsk.voltageInput = false ∧ (s 6).supply.view = .gap ∧ (s 6).supply.records = [] ∧ (s 6).alarms.table = []
      ∧ (s 6).peers = [] := by
  refine ⟨by decide +kernel, by decide, test_col_record, by decide, by decide +kernel, by decide, test_trc_record, by decide,
    by decide, by decide +kernel, by decide, test_dsk_record, by decide +kernel⟩

theorem witness_PostsAreTaken :
    Working (station2 0) ∧ PortReady (station2 0) ∧ (record (station2 0)).role ≠ some .bat
      ∧ Working (at_ .clash bat 5 0) ∧ PortReady (at_ .clash bat 5 0) ∧ (record (at_ .clash bat 5 0)).role = some .bat := by
  decide +kernel

theorem witness_CapCeilingOnlyLowers :
    Working (station2 0) ∧ PortReady (station2 0) ∧ (1023#16).toNat ≤ (station2 0).port.postedCap
      ∧ (station2 0).port.postedCap < (1024#16).toNat := by decide +kernel

/-- No eligible entry; one of another origin with room for its ACK, and with 3 ACK notices before it; an own one in each phase. -/
theorem witness_AckAlarmOutcomes :
    let e := alarm 5 .retrieveFail .p .activeUnack
    let f := alarm 5 .retrieveFail .p .clearedUnack
    let d := holding [alarm 4 .retrieveFail .p .activeAcked, e] (desk 0)
    let n : Notice AckContent := ⟨⟨0, 9⟩, 0, false, false⟩
    let full := { d with line := { d.line with ackPart := [n, n, n] } }
    let b := holding [e] (base0 0)
    let c := holding [f] (base0 0)
    (Working (desk 0) ∧ PortReady (desk 0) ∧ OffLineUnderAlarm (desk 0) ∧ (desk 0).alarms.table.find? isEligible = none)
      ∧ (Working d ∧ PortReady d ∧ OffLineUnderAlarm d ∧ d.alarms.table.find? isEligible = some e
          ∧ findAlarm d e.origin e.number = some e ∧ ¬(isCol d = true ∧ e.origin = d.loader.station) ∧ ackAccepted d = true)
      ∧ (Working full ∧ PortReady full ∧ OffLineUnderAlarm full ∧ full.alarms.table.find? isEligible = some e
          ∧ findAlarm full e.origin e.number = some e ∧ ¬(isCol full = true ∧ e.origin = full.loader.station)
          ∧ ackAccepted full = false)
      ∧ (Working b ∧ PortReady b ∧ OffLineUnderAlarm b ∧ b.alarms.table.find? isEligible = some e
          ∧ findAlarm b e.origin e.number = some e ∧ isCol b = true ∧ e.origin = b.loader.station ∧ e.phase = .activeUnack)
      ∧ (Working c ∧ PortReady c ∧ OffLineUnderAlarm c ∧ c.alarms.table.find? isEligible = some f
          ∧ findAlarm c f.origin f.number = some f ∧ isCol c = true ∧ f.origin = c.loader.station ∧ f.phase = .clearedUnack) := by
  decide +kernel

/-- No pole, a pole that is not LOWERED, and one that is: with no RETRIEVE_FAIL, one of both poles, and one of that pole in each phase. -/
theorem witness_ReleaseRetrieveOutcomes :
    let s := base0 0
    let t := { s with poles := { s.poles with n := { s.poles.n with state := .lowered } } }
    let v := { t with poles := { t.poles with retrieveFail := some ⟨3, .both, false, false⟩ } }
    let u (p : Phase) : State :=
      holding [alarm 3 .retrieveFail .n p] { t with poles := { t.poles with retrieveFail := some ⟨3, .n, false, false⟩ } }
    (Working (station2 0) ∧ PortReady (station2 0) ∧ isCol (station2 0) = false)
      ∧ (Working s ∧ PortReady s ∧ isCol s = true ∧ (0 : Byte) ≠ 1 ∧ (0 : Byte) ≠ 2 ∧ (3 : Byte) ≠ 1 ∧ (3 : Byte) ≠ 2)
      ∧ (poleOf .p s.poles).state ≠ .lowered
      ∧ (Working t ∧ PortReady t ∧ isCol t = true ∧ (poleOf .n t.poles).state = .lowered ∧ t.poles.retrieveFail = none)
      ∧ (Working v ∧ PortReady v ∧ isCol v = true ∧ v.poles.retrieveFail = some ⟨3, .both, false, false⟩
          ∧ (after (.releaseRetrieve whole 2) v).poles.retrieveFail = some ⟨3, .both, false, true⟩)
      ∧ ∀ p ∈ [Phase.activeUnack, .activeAcked, .clearedUnack],
          Working (u p) ∧ PortReady (u p) ∧ isCol (u p) = true ∧ (poleOf .n (u p).poles).state = .lowered
            ∧ OffLineUnderAlarm (u p) ∧ findAlarm (u p) (u p).loader.station 3 = some (alarm 3 .retrieveFail .n p)
            ∧ AlarmsDistinct (u p) ∧ (after (.releaseRetrieve whole 2) (u p)).poles.retrieveFail = none := by decide +kernel

theorem witness_ReadsAreSnapshots :
    let h : HistoryRecord := ⟨0, 5, .dewire, .p, none, 3, true, .normal⟩
    let s := { desk 0 with alarms := { (desk 0).alarms with history := [h] } }
    PortReady s ∧ s.peers.find? (fun e => e.station.val == (6 : Byte).toNat) = some (entry 6 .dsk 0 1 1 1 2)
      ∧ (∀ e ∈ s.peers, e.station.val ≠ (8 : Byte).toNat) ∧ s.alarms.history[(0 : Byte).toNat]? = some h
      ∧ s.alarms.history.length ≤ (1 : Byte).toNat
      ∧ ([alarm 5 .dewire .p .activeAcked, { alarm 6 .lineDead .none .clearedUnack with origin := 1, ack := .sent 3 }] : List AlarmEntry)[1]?
          = some { alarm 6 .lineDead .none .clearedUnack with origin := 1, ack := .sent 3 }
      ∧ ({ alarm 6 .lineDead .none .clearedUnack with origin := 1, ack := .sent 3 } : AlarmEntry).origin.val ≤ 1 := by decide +kernel

theorem witness_ClearsAndUnknownRequests :
    let s := { station2 0 with port := { (station2 0).port with held := ⟨.ok, 0xC4, []⟩ } }
    let gone := { s with port := { s.port with abandoned := true } }
    PortReady s ∧ (pins (some 8) s).sdo = some true ∧ (pins (some 10) s).sdo = some false ∧ (pins (some 16) s).sdo = some false
      ∧ 8 < 16 ∧ gone.port.abandoned = true ∧ (pins (some 8) gone).sdo = some false ∧ (pins (some 8) gone).cs = false
      ∧ PortReady (station2 0) ∧ causeNumber .sensorFault = (11 : Byte).toNat ∧ causeNumber .restarted = (0 : Byte).toNat
      ∧ 11 < (12 : Byte).toNat ∧ decodeRequest [0x18, 0] 0 = .error .badLength
      ∧ decodeRequest [0x34] 0 = .error .unknownRequest := by decide +kernel

theorem witness_RefusedAndAbandonedFrames :
    let s := { State.reset with port := { State.reset.port with abandoned := true } }
    (Instr.ackAlarm whole).asRequest = some (whole, .ackAlarm) ∧ (Instr.readStatus ⟨0, 4⟩).asFrame = some (⟨0, 4⟩, 8)
      ∧ (Instr.unknownRequest ⟨0, 11⟩ [0x18] 3).asFrame = some (⟨0, 11⟩, 11) ∧ decodeRequest [0x18] 3 = .error .badLength ∧ inReset State.reset = false ∧ State.reset.port.abandoned = false
      ∧ isLive State.reset = false ∧ inReset s = false ∧ s.port.abandoned = true := by decide

theorem witness_FrameCodingRoundTrip : (⟨7, .ack ⟨7, 255⟩⟩ : Frame).legal ∧ (⟨0, .alarm ⟨0, .lineDead, .none, .closed true, 9⟩⟩ : Frame).legal
    ∧ (⟨1, .state { (entry 1 .col 2 15 1023 1023 1023).fields with
        grant := 1023, voltage := some 1200, discharge := some 1023
        summary := [⟨0, .dewire, .both, .clearedUnack⟩] }⟩ : Frame).legal := by
  refine ⟨trivial, rfl, by decide, by decide, by decide, by decide, by decide, by decide, by decide, ?_, ?_, by decide, ?_, ?_⟩
  · intro v h; obtain rfl : (1200 : Nat) = v := Option.some.inj h; decide
  · intro v h; obtain rfl : (1023 : Nat) = v := Option.some.inj h; decide
  · intro i h; obtain rfl : i = ⟨0, .dewire, .both, .clearedUnack⟩ := by simpa using h
    rfl
  · intro _; decide

theorem witness_ReceivedFramesAreLegal :
    examine [0xAA, 0x1E, 0x02, 0x00, 0x0C, 0x92, 0xD1] = .good ⟨6, .ack ⟨0, 12⟩⟩ := by decide +kernel

theorem witness_ReceiveFaultsAreCounted :
    let s := { station2 0 with line := { (station2 0).line with recv := 255, idle := 0 } }
    Hearing s 12 ∧ ([0xAB] : List Byte) ≠ [] ∧ (if false then examineFraming [0xAB] else examine [0xAB]) = .fault .sync
      ∧ (if true then examineFraming [0xAA, 0x1E] else examine [0xAA, 0x1E]) = .fault .framing
      ∧ examine [0xAA, 0x1E] = .incomplete ∧ 20 < 21 := by decide +kernel

/-- An absent source; sequence differences of 1, 127, 0 and 128; a boot flag; and an entry that was a COL station's. -/
theorem witness_StateFrameUpdatesPeer :
    let f (n : Byte) (boot : Bool) : StateFields := { (entry 3 .trc 1 8 300 0 400).fields with seq := n, boot := boot }
    let s := station2 0
    let e := entry 3 .trc 1 8 300 0 400
    Hearing s 0 ∧ (3 : Station) ≠ s.loader.station ∧ peerOf s 3 = some e ∧ e.fields.role ≠ .col
      ∧ examine (frameBytes ⟨3, .state (f 11 false)⟩) = .good ⟨3, .state (f 11 false)⟩
      ∧ 1 ≤ ((11 : Byte) - e.fields.seq).toNat ∧ 1 ≤ ((137 : Byte) - e.fields.seq).toNat
      ∧ ((137 : Byte) - e.fields.seq).toNat ≤ 127 ∧ (f 10 false).seq = e.fields.seq
      ∧ 128 ≤ ((138 : Byte) - e.fields.seq).toNat ∧ (f 138 false).boot = false ∧ (f 138 true).boot = true
      ∧ peerOf s 0 = some (entry 0 .col 0 1 2 2 5) ∧ (entry 0 .col 0 1 2 2 5).fields.role = .col ∧ HistoryBounded s
      ∧ examine (frameBytes ⟨0, .state (f 11 false)⟩) = .good ⟨0, .state (f 11 false)⟩
      ∧ peerOf s 7 = none ∧ (7 : Station) ≠ s.loader.station ∧ (f 0 false).role ≠ .col
      ∧ examine (frameBytes ⟨7, .state (f 0 false)⟩) = .good ⟨7, .state (f 0 false)⟩ := by decide +kernel

/-- A collector base with two open alarms, one of which the table does not hold. -/
theorem witness_SummaryReconciled :
    let f : StateFields := { (entry 0 .col 0 1 2 2 5).fields with
      seq := 11, summary := [⟨21, .dewire, .p, .activeUnack⟩, ⟨22, .retrieveFail, .p, .activeUnack⟩] }
    let s := holding [alarm 20 .retrieveFail .n .clearedUnack, alarm 21 .dewire .p .activeUnack]
      { station2 0 with supply := { (station2 0).supply with view := .offLine } }
    Hearing s 0 ∧ examine (frameBytes ⟨0, .state f⟩) = .good ⟨0, .state f⟩ ∧ (0 : Station) ≠ s.loader.station ∧ f.role = .col
      ∧ peerOf s 0 = some (entry 0 .col 0 1 2 2 5) ∧ 1 ≤ (f.seq - (entry 0 .col 0 1 2 2 5).fields.seq).toNat
      ∧ (f.seq - (entry 0 .col 0 1 2 2 5).fields.seq).toNat ≤ 127
      ∧ (f.summary.map (·.number)).Nodup ∧ ((ofOrigin 0 s.alarms.table).map (·.number)).Nodup ∧ HistoryBounded s := by decide +kernel

/-- A new alarm as the fourth and as the fifth of its origin, with a CLEARED_UNACK one to put out and without; an update; a differing
alarm under a held number, opened and closed; and a CLOSED notice of the last supply alarm, and of one beside another. -/
theorem witness_AlarmNoticeTaken :
    let c : AlarmContent := ⟨5, .dewire, .p, .opened .activeUnack, 2030⟩
    let d : AlarmContent := ⟨5, .dewire, .p, .closed false, 7⟩
    let three := [alarm 1 .dewire .p .activeAcked, alarm 2 .dewire .p .activeAcked, alarm 3 .dewire .p .activeAcked]
    let cleared := alarm 4 .retrieveFail .p .clearedUnack
    let e := alarm 5 .dewire .p .activeAcked
    let off (t : List AlarmEntry) : State := holding t { desk 0 with supply := { (desk 0).supply with view := .offLine } }
    (∀ t ∈ [three, three ++ [alarm 4 .dewire .p .activeAcked], three ++ [cleared], [e], e :: three],
        Hearing (off t) 0 ∧ (0 : Station) ≠ (off t).loader.station ∧ noticeSource (off t) 0 = true
          ∧ (ofOrigin 0 (off t).alarms.table).length ≤ 4)
      ∧ examine (frameBytes ⟨0, .alarm c⟩) = .good ⟨0, .alarm c⟩ ∧ examine (frameBytes ⟨0, .alarm d⟩) = .good ⟨0, .alarm d⟩
      ∧ c.phase = .opened .activeUnack ∧ d.phase = .closed false ∧ c.kind ≠ .retrieveFail
      ∧ (findAlarm (off three) 0 c.number = none ∧ (ofOrigin 0 three).length < 4)
      ∧ (findAlarm (off (three ++ [alarm 4 .dewire .p .activeAcked])) 0 c.number = none
          ∧ 4 ≤ (ofOrigin 0 (three ++ [alarm 4 .dewire .p .activeAcked])).length
          ∧ (∀ x ∈ ofOrigin 0 (three ++ [alarm 4 .dewire .p .activeAcked]), x.phase ≠ .clearedUnack)
          ∧ (ofOrigin 0 (three ++ [alarm 4 .dewire .p .activeAcked])).head? = some (alarm 1 .dewire .p .activeAcked))
      ∧ (findAlarm (off (three ++ [cleared])) 0 c.number = none ∧ 4 ≤ (ofOrigin 0 (three ++ [cleared])).length
          ∧ (ofOrigin 0 (three ++ [cleared])).find? (fun x => x.phase == .clearedUnack) = some cleared)
      ∧ (findAlarm (off [e]) 0 5 = some e ∧ e.kind = d.kind ∧ e.raiseTime = some d.raiseTime
          ∧ ¬(e.raiseTime = none ∨ e.raiseTime = some c.raiseTime) ∧ c.kind = e.kind)
      ∧ ((off [e]).supply.view = .offLine ∧ isSupplyAlarm e = true ∧ (off [e]).supply.voltageOk = true
          ∧ (off [e]).supply.records = [] ∧ restoreRank (off [e]) * (record (off [e])).slotLength ≠ 0
          ∧ ([e].filter fun x => !(x.origin == 0 && x.number == 5)) = [] ∧ ∃ x ∈ three, isSupplyAlarm x = true) := by decide +kernel

/-- An ACK for another origin, and one for an own alarm in each phase; an ALARM part of four with a CLOSED notice in it, and one that
holds the alarm's notice. -/
theorem witness_AckFrameAtOrigin :
    let bytes : List Byte := [0xAA, 0x1E, 0x02, 0x00, 0x0C, 0x92, 0xD1]
    let s (p : Phase) : State := holding [alarm 12 .dewire .p p] (base0 0)
    let c : AckContent := ⟨0, 12⟩
    let n (k : Byte) (p : NoticePhase) : Notice AlarmContent := ⟨⟨k, .dewire, .p, p, 7⟩, 3, true, false⟩
    let part := [n 1 (.opened .activeUnack), n 2 (.closed true), n 3 (.closed false), n 4 (.opened .activeUnack)]
    ((∀ m ∈ part, m.content.number ≠ 5) ∧ 4 ≤ part.length ∧ part = [n 1 (.opened .activeUnack)] ++ n 2 (.closed true) :: part.drop 2
        ∧ joinAlarm (n 5 (.closed false)).content part
          = [n 1 (.opened .activeUnack)] ++ part.drop 2 ++ [⟨(n 5 (.closed false)).content, 0, false, false⟩]
        ∧ ∀ m ∈ [n 1 (.opened .activeUnack)] ++ part.drop 2, m.content.number ≠ 2)
      ∧ examine bytes = .good ⟨6, .ack c⟩ ∧ (Hearing (station2 0) 0 ∧ (6 : Station) ≠ (station2 0).loader.station
        ∧ ¬(isCol (station2 0) = true ∧ c.origin = (station2 0).loader.station))
      ∧ ∀ p ∈ [Phase.activeUnack, .activeAcked, .clearedUnack],
          Hearing (s p) 0 ∧ (6 : Station) ≠ (s p).loader.station ∧ isCol (s p) = true ∧ c.origin = (s p).loader.station
            ∧ findAlarm (s p) c.origin c.number = some (alarm 12 .dewire .p p) := by decide +kernel

/-- Station 2 in this view with these records, its entry of station 0 FRESH or STALE. -/
def gapped (v : View) (rs : List GapRecord) (f : Freshness) : State :=
  { station2 0 with
    supply := { (station2 0).supply with view := v, records := rs }
    peers := { entry 0 .col 0 1 2 2 5 with freshness := f } :: vehicle.drop 1 }

/-- GAP frames of a source without a COL entry and without an entry; GAP_START of a FRESH and a STALE entry in each view. -/
theorem witness_GapFramesMoveView :
    (∀ n ∈ [(0 : Station), 3, 7], ∀ b ∈ [true, false],
        examine (frameBytes ⟨n, .gap ⟨b, 17⟩⟩) = .good ⟨n, .gap ⟨b, 17⟩⟩ ∧ n ≠ (station2 0).loader.station)
      ∧ (((peerOf (station2 0) 3).map fun e => e.fields.role) = some .trc ∧ peerOf (station2 0) 7 = none ∧ Hearing (station2 0) 0)
      ∧ (∀ v ∈ [View.onLine, .restoring, .gap, .offLine], ∀ f ∈ [Freshness.fresh, .stale 2],
          Hearing (gapped v [] f) 0 ∧ ((peerOf (gapped v [] f) 0).map fun e => (e.fields.role, e.freshness)) = some (.col, f)
            ∧ ⟨0, 17⟩ ∉ (gapped v [] f).supply.records)
      ∧ putRecord ⟨0, 17⟩ [⟨0, 3⟩, ⟨1, 4⟩] = [⟨0, 17⟩, ⟨1, 4⟩] := by decide +kernel

/-- GAP_END that releases the last record with voltage ok in GAP and OFF_LINE (at rank 3 and at rank 0), that releases one of two, the
last without voltage ok or under a supply alarm, and one in ON_LINE. -/
theorem witness_GapFramesMoveView_ends :
    let first (v : View) : State := { gapped v [⟨0, 17⟩] .fresh with peers := [entry 0 .col 2 1 2 2 5] }
    let left (x : State) : List GapRecord := x.supply.records.filter fun r => !(r.source == 0 && r.serial == 17)
    let ends (x : State) : View := (after (.gapEndFrame 0 0 (frameBytes ⟨0, .gap ⟨false, 17⟩⟩)) x).supply.view
    let two := gapped .gap [⟨0, 17⟩, ⟨1, 4⟩] .fresh
    let dark := { first .gap with supply := { (first .gap).supply with voltageOk := false } }
    let under := holding [alarm 12 .dewire .p .activeUnack] (first .offLine)
    (∀ x ∈ [gapped .gap [⟨0, 17⟩] .fresh, gapped .offLine [⟨0, 17⟩] .fresh, first .gap, first .offLine],
        Hearing x 0 ∧ ⟨0, 17⟩ ∈ x.supply.records ∧ left x = [] ∧ x.supply.voltageOk = true ∧ holdsSupplyAlarm x.alarms.table = false)
      ∧ ends (gapped .offLine [⟨0, 17⟩] .fresh) = .restoring ∧ ends (first .offLine) = .onLine
      ∧ left two = [⟨1, 4⟩] ∧ holdsSupplyAlarm under.alarms.table = true
      ∧ (∀ x ∈ [two, dark, under, gapped .onLine [⟨0, 17⟩] .fresh],
          Hearing x 0 ∧ ⟨0, 17⟩ ∈ x.supply.records ∧ ends x = x.supply.view) := by decide +kernel

theorem witness_ClashFrameSilences :
    ∀ run ∈ [RunState.listen, .running, .txSuspended, .clash],
      Hearing (at_ run trc 2 0) 0 ∧ examine (frameBytes ⟨2, .ack ⟨0, 12⟩⟩) = .good ⟨2, .ack ⟨0, 12⟩⟩
        ∧ (2 : Station) = (at_ run trc 2 0).loader.station ∧ OffLineUnderAlarm (at_ run trc 2 0) := by decide +kernel

/-- One bit time short of the deferral and at it, with each kind of frame first, nothing to send, and the STATE or nothing first after a
suspension; a frame open on the line at 20 idle bit times, at 21 and at the deferral. -/
theorem witness_DeferralStartsFirstFrame :
    let s := base0 0
    let gap : Notice GapContent := ⟨⟨true, 17⟩, 0, false, false⟩
    let al : Notice AlarmContent := ⟨⟨5, .dewire, .p, .opened .activeUnack, 7⟩, 0, false, false⟩
    let ack : Notice AckContent := ⟨⟨1, 5⟩, 0, false, false⟩
    let l1 := { s.line with stateWaiting := true }
    let l2 := { l1 with ackPart := [ack] }
    let l3 := { l2 with alarmPart := [al] }
    let l4 := { l3 with gapPart := some gap }
    let started (x : State) (l : Line) (idle : Nat) : Option Sending :=
      (after (.deferralReached 0 idle) { x with line := l }).line.attempt.map fun a => a.what
    (∀ l ∈ [l1, l2, l3, l4], inReset { s with line := l } = false ∧ s.loader.run = .running ∧ l.attempt = none ∧ l.rx = .hunting
        ∧ l.stateFirst = false)
      ∧ l1.idle + 16 = 12 + 16 + s.loader.station.val ∧ started s l1 15 = none ∧ started s l1 16 = some (.state true)
      ∧ l2.idle + 8 = 12 + 8 + s.loader.station.val ∧ started s l2 8 = some .ack ∧ l2.ackPart = ack :: []
      ∧ l3.idle + 0 = 12 + 0 + s.loader.station.val ∧ started s l3 0 = some .alarm ∧ l3.alarmPart = al :: []
      ∧ started s l4 0 = some .gap ∧ l4.gapPart = some gap
      ∧ started s s.line 40 = none ∧ started s { l4 with stateFirst := true, stateWaiting := false } 40 = none
      ∧ started s { l4 with stateFirst := true } 15 = none ∧ started s { l4 with stateFirst := true } 16 = some (.state true)
      ∧ (let l := { l1 with rx := Receiver.inFrame [0xAA] }
        let short (idle : Nat) : Line := (after (.deferralReached 0 idle) { s with line := l }).line
        l.rx = .inFrame [0xAA] ∧ l.idle + 9 = 21
          ∧ (short 8).rx = .inFrame [0xAA] ∧ (short 9).rx = .hunting ∧ (short 9).recv = 1 ∧ (short 9).idle = 21
          ∧ (short 16).attempt.isSome = true ∧ (short 16).recv = 1) := by decide +kernel

/-- A STATE built at a TRC, a COL and a BAT station and at the desk, which has no voltage input. -/
theorem witness_DeferralStartsFirstFrame_built :
    let bearing := holding [alarm 12 .dewire .p .activeUnack, alarm 13 .lineDead .none .clearedUnack] (base0 0)
    let battery := { at_ .running bat 5 0 with peers := vehicle, shed := { (base0 0).shed with demandTimedOut := true } }
    let all := [station2 0, bearing, battery, desk 0].map builtFields
    (∀ x ∈ [station2 0, bearing, battery, desk 0],
        inReset x = false ∧ x.loader.run = .running ∧ x.line.attempt = none
          ∧ (x.peers.find? fun e => e.station == x.loader.station).isSome = true)
      ∧ all.map (fun f => f.role) = [.trc, .col, .bat, .dsk] ∧ all.map (fun f => f.demand) = [300, 2, 80, 1]
      ∧ all.map (fun f => f.voltage) = [some 520, some 520, some 520, none]
      ∧ all.map (fun f => f.discharge) = [none, none, some 0, none] ∧ all.map (fun f => f.timedOut) = [false, false, true, false]
      ∧ all.map (fun f => f.summary.map fun i => i.number) = [[], [12, 13], [], []] := by decide +kernel

/-- A STATE attempt, and ALARM attempts at their 15th and 16th try and renewed. -/
theorem witness_AttemptEnds :
    let a : Attempt := ⟨.state true, [0xAA, 10], .hunting, 30, 0⟩
    let s := { station2 0 with line := { (station2 0).line with attempt := some a, tec := 30 } }
    let n (k : Nat) (renewed : Bool) : Notice AlarmContent := ⟨⟨5, .dewire, .p, .opened .activeUnack, 7⟩, k, true, renewed⟩
    let b : Attempt := ⟨.alarm, [0xAA, 16], .hunting, 12, 0⟩
    let m : Notice AlarmContent := ⟨⟨6, .lineDead, .none, .opened .activeUnack, 7⟩, 0, false, false⟩
    let t (k : Nat) (renewed : Bool) : State :=
      { base0 0 with line := { (base0 0).line with attempt := some b, alarmPart := [n k renewed, m] } }
    (inReset s = false ∧ s.line.attempt = some a ∧ a.what = .state true ∧ 18 + 1 < 10 * a.bytes.length ∧ s.line.tec < 31
        ∧ s.loader.run = .running)
      ∧ ∀ x ∈ [(15, false), (16, false), (16, true)],
          inReset (t x.1 x.2) = false ∧ (t x.1 x.2).line.attempt = some b ∧ b.what = .alarm
            ∧ (t x.1 x.2).line.alarmPart = n x.1 x.2 :: [m] ∧ (n x.1 x.2).onWire = true
            ∧ (∀ y ∈ [m], y.onWire = false ∧ y.renewed = false)
            ∧ 18 + 1 < 10 * b.bytes.length ∧ (t x.1 x.2).line.tec < 31 := by decide +kernel

/-- An ACK attempt at its 15th and 16th try, and GAP attempts: plain, renewed, pairing, at the limit. -/
theorem witness_NoticeAttemptEnds :
    let a : Attempt := ⟨.ack, [0xAA, 30], .hunting, 26, 0⟩
    let g : Attempt := ⟨.gap, [0xAA, 32], .hunting, 12, 0⟩
    let e := { alarm 5 .retrieveFail .p .activeUnack with ack := .queued }
    let n (k : Nat) : Notice AckContent := ⟨⟨0, 5⟩, k, true, false⟩
    let s (k : Nat) : State :=
      holding [e] { desk 0 with line := { (desk 0).line with attempt := some a, ackPart := [n k], tec := 30 } }
    let m (k : Nat) (renewed : Bool) : Notice GapContent := ⟨⟨true, 17⟩, k, true, renewed⟩
    let t (k : Nat) (renewed pairing : Bool) : State :=
      { base0 0 with line := { (base0 0).line with attempt := some g, gapPart := some (m k renewed), gapPairing := pairing } }
    (∀ k ∈ [15, 16], inReset (s k) = false ∧ (s k).line.attempt = some a ∧ 18 + 1 < 10 * a.bytes.length ∧ (s k).line.tec < 31
        ∧ a.what = .ack ∧ (s k).line.ackPart = n k :: [] ∧ (n k).onWire = true ∧ (n k).renewed = false
        ∧ (∀ y ∈ ([] : List (Notice AckContent)), y.onWire = false ∧ y.renewed = false)
        ∧ findAlarm (s k) (n k).content.origin (n k).content.number = some e ∧ e.ack = .queued)
      ∧ ∀ x ∈ [(15, false, false), (16, false, false), (0, true, false), (0, false, true)],
          inReset (t x.1 x.2.1 x.2.2) = false ∧ (t x.1 x.2.1 x.2.2).line.attempt = some g ∧ g.what = .gap
            ∧ 18 + 1 < 10 * g.bytes.length ∧ (t x.1 x.2.1 x.2.2).line.tec < 31
            ∧ (t x.1 x.2.1 x.2.2).line.gapPart = some (m x.1 x.2.1) ∧ (m x.1 x.2.1).onWire = true := by decide +kernel

theorem witness_SuspensionCycle :
    let a : Attempt := ⟨.state true, [0xAA, 10], .hunting, 30, 0⟩
    let s := { station2 0 with line := { (station2 0).line with attempt := some a, tec := 31 } }
    let t := { at_ .txSuspended trc 2 0 with line := { (station2 0).line with tec := 32, suspendedAt := some 0 } }
    (inReset s = false ∧ s.line.attempt = some a ∧ 18 + 1 < 10 * a.bytes.length ∧ s.line.tec = 31 ∧ OffLineUnderAlarm s)
      ∧ (inReset t = false ∧ t.loader.run = .txSuspended ∧ t.line.suspendedAt = some 0
          ∧ 1000 ≤ (now (advance 1000000 t) - 0).toNat) := by decide +kernel

/-- The first window without pulses; a window at the loss threshold of a station that does not watch poles; the window at which voltage
ok returns, in GAP and OFF_LINE, with a record and without, at a TRC station and at a COL station with and without an open gap record,
with a LINE_DEAD that the window clears, and with a DEWIRE that it raises. -/
theorem witness_WindowCompletionMeasures :
    let s := station2 10
    Working s ∧ s.supply.windowStart = some 0 ∧ 10 ≤ (now (advance 0 s) - 0).toNat
      ∧ (min 65535 (s.supply.count + 0) = 0 ∧ s.supply.hadPulses = true)
      ∧ (isCol s = false ∧ (record s).vGap ≤ windowVoltage 400 s ∧ min 65535 (s.supply.count + 400) ≠ 0
          ∧ (record s).vReturn ≤ windowVoltage 550 s ∧ s.supply.voltageOk = true)
      ∧ (let dark (v : View) (r : List GapRecord) (b : State) : State :=
          { b with supply := { b.supply with view := v, records := r, run := 4, voltageOk := false, gapStart := some 0 } }
        (∀ x ∈ [(View.gap, []), (.offLine, []), (.gap, [⟨0, 17⟩])],
          let d := dark x.1 x.2 s
          Working d ∧ d.supply.windowStart = some 0 ∧ isCol d = false ∧ d.supply.voltageOk = false ∧ d.supply.view = x.1
            ∧ holdsSupplyAlarm d.alarms.table = false ∧ d.supply.records = x.2 ∧ restoreRank d * (record d).slotLength ≠ 0
            ∧ (after (.windowCompletion 0 ⟨620, [], []⟩) d).supply.voltageOk = true)
          ∧ (let i : WindowInput := ⟨620, pulse 412 1000, pulse 412 1000⟩
            let c := dark .gap [] { base0 10 with poles := { (base0 10).poles with openGap := some 17 } }
            let t := after (.windowCompletion 0 i) c
            (Working c ∧ isCol c = true ∧ OffLineUnderAlarm c ∧ c.poles.openGap = some 17 ∧ c.line.gapPart = none
              ∧ acceptsNotices c = true ∧ t.supply.voltageOk = true ∧ bothOnWire t = true
              ∧ t.line.gapPart = some ⟨⟨false, 17⟩, 0, false, false⟩ ∧ t.supply.view = .onLine)
            ∧ (let dead := holding [alarm 12 .lineDead .none .activeAcked] (base0 10)
              let dead := { dead with poles := { dead.poles with lineDead := some ⟨12, .none, false, false⟩ } }
              let torn := { base0 10 with
                poles := { (base0 10).poles with p := { (base0 10).poles.p with prevAngle := some 300, prevUsable := true } } }
              let view (d : State) : View := (after (.windowCompletion 0 i) d).supply.view
              let held (d : State) : Bool := holdsSupplyAlarm (after (.windowCompletion 0 i) d).alarms.table
              (∀ d ∈ [dark .offLine [] (base0 10), dark .offLine [] dead, dark .gap [⟨1, 4⟩] (base0 10), dark .gap [] torn,
                  dark .offLine [] torn],
                Working d ∧ isCol d = true ∧ OffLineUnderAlarm d ∧ d.supply.voltageOk = false
                  ∧ (record d).vGap ≤ windowVoltage 620 d ∧ (after (.windowCompletion 0 i) d).supply.voltageOk = true)
              ∧ held (dark .offLine [] dead) = false ∧ view (dark .offLine [] dead) = .onLine
              ∧ view (dark .offLine [] (base0 10)) = .onLine ∧ view (dark .gap [⟨1, 4⟩] (base0 10)) = .gap
              ∧ held (dark .gap [] torn) = true ∧ view (dark .gap [] torn) = .offLine
              ∧ held (dark .offLine [] torn) = true ∧ view (dark .offLine [] torn) = .offLine))) := by decide +kernel

/-- At a TRC station; at a COL station with both poles ON_WIRE, with one LOWERED and no raise, and with one that raises DEWIRE. -/
theorem witness_LossEntersGap :
    let i : WindowInput := ⟨399, pulse 412 1000, pulse 412 1000⟩
    let b := base0 10
    let low := { b with poles := { b.poles with p := { b.poles.p with state := .lowered } } }
    let off := { b with poles := { b.poles with p := { b.poles.p with prevAngle := some 300, prevUsable := true } } }
    let t (s : State) : State := after (.windowCompletion 0 i) s
    (∀ v ∈ [View.onLine, .restoring],
        let s := { station2 10 with supply := { (station2 10).supply with view := v } }
        Working s ∧ OffLineUnderAlarm s ∧ windowDue (advance 0 s) = true ∧ windowVoltage i.edges s < (record s).vGap
          ∧ s.supply.view = v ∧ isCol s = false)
      ∧ (∀ s ∈ [b, low, off], Working s ∧ OffLineUnderAlarm s ∧ windowDue (advance 0 s) = true
          ∧ windowVoltage i.edges s < (record s).vGap ∧ s.supply.view = .onLine ∧ isCol s = true)
      ∧ (bothOnWire (t b) = true ∧ b.poles.openGap = none ∧ b.line.gapPart = none ∧ acceptsNotices b = true)
      ∧ (bothOnWire (t low) = false ∧ holdsSupplyAlarm (t low).alarms.table = false ∧ (t low).supply.view = .gap)
      ∧ (holdsSupplyAlarm (t off).alarms.table = true ∧ (t off).supply.view = .offLine) := by decide +kernel

/-- Table 2-5, one window at 10: the state of pole P before, whether its head verdict is LOW, whether its previous angle of 368 counts,
and its angle, of duty 12.7 % (30, at adown), 12.8 % (31), 41.2 % (351, in the window) or 47.5 % (421), or no period. -/
theorem test_pole_table :
    let state (before : PoleState) (low prior : Bool) (edges : List AngleEdge) : PoleState :=
      let q : Pole := { (base0 10).poles.p with
        state := before, suspicionStart := some 0, dewiredAt := some 0, verdict := if low then .low else .present
        prevAngle := some 368, prevUsable := prior }
      let s := { base0 10 with poles := { (base0 10).poles with p := q } }
      (after (.windowCompletion 0 ⟨620, edges, pulse 412 1000⟩) s).poles.p.state
    [state .stowed false false (pulse 128 1000), state .stowed false false (pulse 127 1000), state .stowed false false []]
        = [.raising, .stowed, .stowed]
      ∧ [state .raising false false (pulse 127 1000), state .raising false false (pulse 412 1000), state .raising true false []]
        = [.stowed, .raising, .raising]
      ∧ [state .onWire false true (pulse 412 1000), state .onWire true true (pulse 412 1000), state .onWire false false (pulse 128 1000)
          , state .onWire true false (pulse 128 1000), state .onWire false true (pulse 475 1000)]
        = [.onWire, .suspect, .suspect, .dewired, .dewired]
      ∧ [state .suspect false true (pulse 412 1000), state .suspect true true (pulse 412 1000), state .suspect true true (pulse 475 1000)]
        = [.onWire, .suspect, .dewired]
      ∧ [state .dewired false false (pulse 127 1000), state .dewired false false (pulse 412 1000), state .lowered false false (pulse 412 1000)]
        = [.lowered, .dewired, .lowered] := by decide +kernel

/-- A RAISING pole at exactly the rewire confirm time, with an angle at amin; a SUSPECT pole at exactly the suspicion confirm time,
on H alone; a pole at its first evaluation, carried or not, with an angle at adown and one just above, and with an angle fault; a
watched pole with baseline 0 and an angle fault. -/
theorem witness_PoleConfirmations :
    let i : WindowInput := ⟨550, pulse 234 1000, pulse 412 1000⟩
    let b := base0 600
    let raising : Pole := { b.poles.p with state := .raising, runStart := some 100 }
    let s := { b with
      poles := { b.poles with p := raising }, supply := { b.supply with windowStart := some 590, run := 4, voltageOk := false } }
    let suspect : Pole := { b.poles.p with state := .suspect, suspicionStart := some 540, verdict := .low }
    let t := { b with poles := { b.poles with p := suspect }, supply := { b.supply with windowStart := some 590 } }
    let k := termsOf (record t) suspect (spanAngle suspect (edgesOf .p i))
    (Working s ∧ isCol s = true ∧ windowDue (advance 0 s) = true ∧ raising.state = .raising ∧ raising.runStart = some 100
        ∧ (record s).rewireConfirm ≤ (now (advance 0 s) - 100).toNat ∧ spanAngle raising (edgesOf .p i) = some 150
        ∧ (record s).amin ≤ 150 ∧ 150 ≤ (record s).amax ∧ (record s).adown < 150 ∧ raising.verdict ≠ .low
        ∧ (record s).vReturn ≤ windowVoltage i.edges s ∧ confirmCount (record s) ≤ s.supply.run + 1)
      ∧ (Working t ∧ isCol t = true ∧ windowDue (advance 0 t) = true ∧ suspect.state = .suspect
          ∧ suspect.suspicionStart = some 540 ∧ (record t).suspicionConfirm ≤ (now (advance 0 t) - 540).toNat
          ∧ (spanAngle suspect (edgesOf .p i) = none → suspect.baseline ≠ 0) ∧ (k.h = true ∨ k.aOut = true)
          ∧ k.aFast = false ∧ ¬(k.h = true ∧ k.aOut = true))
      ∧ (∀ x ∈ [(PoleState.notEvaluated, false), (.notEvaluated, true), (.unwatched, true)],
          let q : Pole := { Pole.afterReset with state := x.1, carried := x.2, retrieve := x.2 }
          let u := { base0 10 with poles := { (base0 10).poles with p := q } }
          let state (high : Nat) : PoleState := (after (.windowCompletion 0 ⟨550, pulse high 1000, pulse 412 1000⟩) u).poles.p.state
          Working u ∧ isCol u = true ∧ windowDue (advance 0 u) = true ∧ spanAngle q (pulse 127 1000) = some (record u).adown
            ∧ spanAngle q (pulse 128 1000) = some ((record u).adown + 1) ∧ spanAngle q [] = none
            ∧ state 127 = (if x.2 then .lowered else .stowed) ∧ state 128 = (if x.2 then .dewired else .raising)
            ∧ state 412 = (if x.2 then .dewired else .onWire))
      ∧ spanAngle { b.poles.p with baseline := 0 } [] = none := by decide +kernel

/-- A DEWIRED pole at exactly the retrieve timeout, just above adown, with its DEWIRE active and a RETRIEVE_FAIL of the other pole. -/
theorem witness_RetrieveTimeoutRaisesAlarm :
    let i : WindowInput := ⟨100, pulse 128 1000, pulse 412 1000⟩
    let b := base0 3530
    let q : Pole := { b.poles.p with state := .dewired, dewiredAt := some 2030, retrieve := true }
    let s := { b with
      poles := { b.poles with p := q, dewire := some ⟨5, .p, false, false⟩, retrieveFail := some ⟨4, .n, false, false⟩ }
      supply := { b.supply with windowStart := some 3520, view := .offLine } }
    Working s ∧ isCol s = true ∧ windowDue (advance 0 s) = true ∧ q.state = .dewired ∧ q.timedOut = false
      ∧ q.dewiredAt = some 2030 ∧ (record s).retrieveTimeout ≤ (now (advance 0 s) - 2030).toNat
      ∧ spanAngle q (edgesOf .p i) = some 31 ∧ (record s).adown < 31
      ∧ s.poles.dewire = some ⟨5, .p, false, false⟩ ∧ PoleSet.p ≠ .none ∧ s.poles.retrieveFail = some ⟨4, .n, false, false⟩
      ∧ PoleSet.n ≠ .none ∧ s.poles.n.state = .onWire ∧ s.poles.n.timedOut = false := by decide +kernel

/-- A raise of DEWIRE with room, and with four own alarms open of which the first is CLEARED_UNACK; a widening by the other pole; a
clear that ends the last supply alarm, with voltage ok and without; and an evaluation at which no alarm acts. -/
theorem witness_AlarmsOfAnEvaluation :
    let b := base0 10
    let i (volts : Nat) : WindowInput := ⟨volts, pulse 475 1000, pulse 412 1000⟩
    let calm : WindowInput := ⟨620, pulse 412 1000, pulse 412 1000⟩
    let fast : Pole := { b.poles.p with prevAngle := some 351, prevUsable := true }
    let r := { b with poles := { b.poles with p := fast } }
    let four := [alarm 1 .retrieveFail .p .clearedUnack, alarm 2 .dewire .p .clearedUnack, alarm 3 .lineDead .none .clearedUnack
      , alarm 4 .retrieveFail .n .activeAcked]
    let full := holding four { r with alarms := { r.alarms with nextNumber := 1 } }
    let off (s : State) : State := { s with supply := { s.supply with view := .offLine } }
    let wide := off (holding [alarm 5 .dewire .n .activeAcked]
      { r with poles := { r.poles with dewire := some ⟨5, .n, false, false⟩, n := { b.poles.n with state := .lowered } } })
    let ended := off (holding [alarm 5 .dewire .p .activeUnack]
      { b with poles := { b.poles with dewire := some ⟨5, .p, false, false⟩ } })
    let t (w : WindowInput) (s : State) : State := after (.windowCompletion 0 w) s
    (∀ s ∈ [r, full, wide, ended, b], Working s ∧ isCol s = true ∧ windowDue (advance 0 s) = true ∧ AlarmsDistinct s
        ∧ HistoryBounded s ∧ OffLineUnderAlarm s)
      ∧ (r.poles.dewire = none ∧ r.supply.view ≠ .offLine ∧ (ownAlarms r).length < 4
          ∧ (t (i 620) r).poles.dewire = some ⟨0, .p, false, false⟩ ∧ (t (i 620) r).poles.retrieveFail = none
          ∧ (t (i 620) r).poles.lineDead = none ∧ (t (i 620) r).supply.view = .offLine)
      ∧ ((ownAlarms full).length = 4 ∧ (ownAlarms full).find? isCleared = some (alarm 1 .retrieveFail .p .clearedUnack)
          ∧ (t (i 620) full).alarms.table.map (·.number) = [2, 3, 4, 1]
          ∧ (t (i 620) full).alarms.history.map (·.reason) = [.forced])
      ∧ (findAlarm wide wide.loader.station 5 = some (alarm 5 .dewire .n .activeAcked)
          ∧ (t (i 620) wide).poles.dewire = some ⟨5, .both, false, false⟩
          ∧ (t (i 620) wide).alarms.table.map (·.poles) = [.both])
      ∧ (holdsSupplyAlarm ended.alarms.table = true ∧ (t calm ended).poles.dewire = none ∧ ended.supply.records = []
          ∧ holdsSupplyAlarm (t calm ended).alarms.table = false ∧ (t calm ended).supply.voltageOk = true
          ∧ (record ended).vGap ≤ windowVoltage 620 ended ∧ (t calm ended).supply.view = .onLine
          ∧ (t ⟨500, calm.angleP, calm.angleN⟩ ended).supply.voltageOk = false
          ∧ holdsSupplyAlarm (t ⟨500, calm.angleP, calm.angleN⟩ ended).alarms.table = false)
      ∧ ((t calm b).poles.dewire = b.poles.dewire ∧ (t calm b).poles.retrieveFail = b.poles.retrieveFail
          ∧ (t calm b).poles.lineDead = b.poles.lineDead) := by decide +kernel

theorem witness_HeadWindowVerdict :
    Working (base0 5) ∧ isCol (base0 5) = true ∧ (poleOf .n (base0 5).poles).headStart = some 0
      ∧ (record (base0 5)).headWindow ≤ (now (advance 0 (base0 5)) - 0).toNat := by decide +kernel

theorem witness_CalibrationStep :
    Working (base0 1000) ∧ isCol (base0 1000) = true ∧ (base0 1000).poles.calStart = some 0
      ∧ (record (base0 1000)).calInterval ≤ (now (advance 0 (base0 1000)) - 0).toNat
      ∧ (base0 1000).poles.p.baseline ≤ 65535 ∧ (base0 1000).poles.p.calSum ≤ 65535 * (base0 1000).poles.p.calTally := by
  decide +kernel

/-- The three ways a period completes, by the span in which it opened and in which its signal fell; periods of 499, 500, 2000 and
2001 µs; duties at 49, 50, 99, 100, 900, 901, 950 and 951; and a span that leaves each kind of open period. -/
theorem witness_AngleOfPeriod :
    let q := Pole.afterReset
    let high : Pole := { q with opened := some ⟨0, none⟩ }
    let low : Pole := { q with opened := some ⟨412000, some 412000⟩ }
    let edges : List AngleEdge := [⟨true, 9⟩]
    pulse 412 1000 = [] ++ [⟨true, 0⟩, ⟨false, 412000⟩, ⟨true, 588000⟩] ++ []
      ∧ ([⟨false, 412000⟩, ⟨true, 588000⟩] : List AngleEdge) = [⟨false, 412000⟩, ⟨true, 588000⟩] ++ []
      ∧ (q.opened = none ∧ q.capture = none ∧ (takeEdges edges q).capture = none ∧ (takeEdges edges q).opened = some ⟨0, none⟩)
      ∧ [499, 500, 2000, 2001].map (fun n => (takeEdges (pulse 412 n) q).capture.map (·.period)) = [some 499, some 500, some 2000, some 2001]
      ∧ (takeEdges [⟨false, 412000⟩, ⟨true, 588000⟩] high).capture = some ⟨412, 1000⟩
      ∧ (takeEdges [⟨true, 588000⟩] low).capture = some ⟨412, 1000⟩
      ∧ (takeEdges [⟨false, 412000⟩] high).opened = some ⟨412000, some 412000⟩
      ∧ [49, 50, 99, 100, 900, 901, 950, 951].map (fun d => d * 1000 / 1000) = [49, 50, 99, 100, 900, 901, 950, 951] := by decide

/-- Without voltage ok, with it and a record, with it and neither, at a desk, which has no voltage input, and at a COL station with a
pole off the wire. -/
theorem witness_GapLimitEntersOffLine :
    let low := { base0 3000 with poles := { (base0 3000).poles with p := { (base0 3000).poles.p with state := .lowered } } }
    let s (b : State) (ok : Bool) (r : List GapRecord) : State :=
      { b with supply := { b.supply with view := .gap, gapStart := some 0, voltageOk := ok, records := r } }
    let common (x : State) : Prop :=
      Working x ∧ x.supply.view = .gap ∧ x.supply.gapStart = some 0 ∧ (record x).gapLimit ≤ (now (advance 0 x) - 0).toNat
    (common (s (base0 3000) false []) ∧ isCol (base0 3000) = true ∧ bothOnWire (s (base0 3000) false []) = true
        ∧ (s (base0 3000) false []).poles.lineDead = none)
      ∧ (common (s (station2 3000) true []) ∧ (record (station2 3000)).voltageInput = true)
      ∧ (∀ x ∈ [s (station2 3000) true [⟨0, 17⟩], s (desk 3000) true [], s low true [⟨1, 17⟩]],
          common x ∧ x.supply.voltageOk = true ∧ (x.supply.records ≠ [] ∨ (record x).voltageInput = false)
            ∧ ¬(isCol x = true ∧ bothOnWire x = true ∧ x.poles.lineDead = none) ∧ holdsSupplyAlarm x.alarms.table = false)
      ∧ isCol low = true ∧ (after (.gapLimitExpiry 0) (s low true [⟨1, 17⟩])).supply.view = .onLine
      ∧ restoreRank (desk 3000) * (record (desk 3000)).slotLength ≠ 0 := by decide +kernel

theorem witness_RestoreDelayExpiryEntersOnLine :
    let s := { station2 120 with
      supply := { (station2 120).supply with view := .restoring }, shed := { Shed.afterReset with restore := some ⟨0, 3, 120⟩ } }
    Working s ∧ s.supply.view = .restoring ∧ s.shed.restore = some ⟨0, 3, 120⟩
      ∧ 120 ≤ (now (advance 0 s) - 0).toNat := by decide +kernel

theorem witness_BoundaryLatchesAndLimits :
    ∀ s ∈ [station2 20, at_ .listen trc 2 20, at_ .clash col 0 20],
      Working s ∧ OffLineUnderAlarm s ∧ s.share.boundaryAt = some 0
        ∧ (record s).period ≤ (now (advance 0 s) - 0).toNat := by decide +kernel

/-- In three run states; at stations without a voltage input, with and without a FRESH entry that has a voltage. -/
theorem witness_BoundaryFormsPending :
    (∀ s ∈ [station2 20, at_ .listen trc 2 20, at_ .clash col 0 20, desk 20],
        Working s ∧ OffLineUnderAlarm s ∧ boundaryDue (advance 0 s) = true)
      ∧ (record (station2 20)).voltageInput = true ∧ (record (desk 20)).voltageInput = false
      ∧ (∀ e ∈ (after (.periodBoundary 0) (desk 20)).peers, e.freshness = .fresh → e.fields.voltage = none)
      ∧ (let e := entry 0 .col 0 1 2 2 5
        let s := { desk 20 with peers := [{ e with fields := { e.fields with voltage := some 520 } }, entry 6 .dsk 0 1 1 1 2] }
        let t := after (.periodBoundary 0) s
        Working s ∧ OffLineUnderAlarm s ∧ boundaryDue (advance 0 s) = true ∧ t.share.budget = 450
          ∧ ∃ x ∈ t.peers, x.freshness = .fresh ∧ x.fields.voltage = some 520
            ∧ ∀ y ∈ t.peers, y.freshness = .fresh → y.fields.voltage.isSome = true → x.station ≤ y.station)
      ∧ PeerTableOk (desk 20) := by
  refine ⟨by decide +kernel, by decide +kernel, by decide +kernel, by decide +kernel, by decide +kernel, by decide +kernel,
    by decide +kernel, fun _ => ⟨entry 6 .dsk 0 1 1 1 2, by decide +kernel⟩⟩

/-- An entry at age 0, one that reaches the stale count and one that reaches the lost count. -/
theorem witness_BoundaryAgesPeers :
    ∀ age ∈ [0, 2, 9],
      let e := { entry 0 .col 0 1 2 2 5 with age := age }
      let s := { station2 20 with peers := [e, entry 2 .trc 1 8 300 0 400] }
      (Working s ∧ boundaryDue (advance 0 s) = true ∧ peerOf s e.station = some e ∧ e.station ≠ s.loader.station)
        ∧ PeerTableOk s := by
  intro age h
  refine ⟨?_, ?_, by decide +revert, fun _ => ⟨entry 2 .trc 1 8 300 0 400, ?_⟩⟩ <;> revert age <;> decide +kernel

/-- What each of the other boundary rows names, on the last boundary before it comes about. -/
theorem witness_BoundaryRowsComeAbout :
    let l := { at_ .listen trc 2 20 with share := { (at_ .listen trc 2 20).share with boundaries := 9 } }
    let d := { at_ .running bat 5 20 with shed := { Shed.afterReset with demandSilence := 4, sourceSilence := 4 } }
    let e := { alarm 5 .retrieveFail .p .activeUnack with ack := .sent 3 }
    let a := holding [e] (desk 20)
    (Working l ∧ boundaryDue (advance 0 l) = true ∧ l.loader.run = .listen ∧ (record l).lostCount ≤ l.share.boundaries + 1)
      ∧ (Working d ∧ boundaryDue (advance 0 d) = true ∧ d.shed.demandTimedOut = false ∧ d.shed.demandTaken = false
          ∧ (record d).demandTimeout ≤ d.shed.demandSilence + 1 ∧ isBat d = true ∧ d.shed.sourceTimedOut = false
          ∧ d.shed.sourceTaken = false ∧ (record d).demandTimeout ≤ d.shed.sourceSilence + 1)
      ∧ (Working a ∧ boundaryDue (advance 0 a) = true ∧ findAlarm a 0 5 = some e ∧ e.ack = .sent 3 ∧ 3 ≤ 3) := by decide +kernel

theorem witness_GrantsBetweenFloorAndDemand :
    (allocate 450 (vehicle.map claimant)).2 = false
      ∧ (⟨2, 1, 300, 0, 8, true, 188⟩ : Claimant) ∈ (allocate 450 (vehicle.map claimant)).1 := by decide

theorem witness_WaterFillingEndsInEightRounds :
    ((vehicle.map claimant) ++ [(⟨7, 1, 9, 0, 1, true, 0⟩ : Claimant)]).length ≤ 8
      ∧ 608 < wantedSum 1 ((vehicle.map claimant) ++ [(⟨7, 1, 9, 0, 1, true, 0⟩ : Claimant)]) := by decide

/-- The excess pass of Table 5-4: class 0 fits, class 1 is water-filled in a round that satisfies nobody and ends the pass; with a demand
of 150 at station 3 a round satisfies it. -/
theorem witness_ExcessRounds :
    let x := floorsPass 450 (vehicle.map claimant)
    let y := excessClass x 0
    let wants (e : Claimant) : Bool := decide (e.cls = 1 ∧ e.takesExcess = true ∧ e.g < e.d)
    let satisfied (rem d : Nat) : List Byte :=
      let es := y.entries.map fun e => if e.station = 3 then { e with d := d } else e
      ((es.filter wants).filter fun e => decide (e.d - e.g ≤ rem * e.weight / ((es.filter wants).map (·.weight)).sum)).map
        fun e => BitVec.ofNat 8 e.station
    x.stopped = false ∧ wantedSum 0 x.entries ≤ x.rem ∧ y.stopped = false ∧ y.rem < wantedSum 1 y.entries
      ∧ (excessClass y 1).stopped = true ∧ satisfied y.rem 300 = [] ∧ satisfied y.rem 150 = [3] := by decide

/-- A class whose floors just fit, and one ampere short. -/
theorem witness_FloorsClassRule :
    let es := vehicle.map claimant
    (⟨es, 43, false⟩ : Division).stopped = false ∧ ((es.filter fun e => e.cls == 0).map (·.f)).sum = 43
      ∧ 42 < ((es.filter fun e => e.cls == 0).map (·.f)).sum
      ∧ ((List.range 3).foldl floorsClass (⟨es, 450, false⟩ : Division)).stopped = false
      ∧ (floorsPass 450 es).entries.map (·.cls) = [0, 0, 1, 1, 2, 2, 0] := by decide

theorem witness_ButtonPressAndRelease :
    let armed (s : State) : State := { s with alarms := { s.alarms with buttonArmed := true } }
    let e := alarm 5 .retrieveFail .p .activeUnack
    let s := armed (holding [e] (desk 20))
    ∀ t ∈ [desk 20, armed (desk 20), s],
      (Working t ∧ (record t).ackButton = true ∧ 20 ≤ 20 ∧ 20 ≤ (advance 0 t).clock.up - t.alarms.debounceStart)
        ∧ (desk 20).alarms.buttonArmed = false ∧ (armed (desk 20)).alarms.table.find? isEligible = none
        ∧ s.alarms.buttonArmed = true ∧ s.alarms.table.find? isEligible = some e ∧ isCol s = false ∧ ackAccepted s = true := by
  decide +kernel

/-- A press at a COL station for an own alarm in either phase, and for another origin's; and one whose ACK notice is refused. -/
theorem witness_PressAtOrigin :
    let button := { col with ackButton := true }
    let armed (table : List AlarmEntry) (s : State) : State :=
      holding table { s with alarms := { s.alarms with buttonArmed := true } }
    let ready (s : State) : Prop := Working s ∧ (record s).ackButton = true ∧ 20 ≤ (advance 0 s).clock.up - s.alarms.debounceStart
    let n : Notice AckContent := ⟨⟨1, 9⟩, 0, false, false⟩
    let other := { alarm 5 .retrieveFail .p .activeUnack with origin := 1 }
    let full := armed [other] { at_ .running button 0 20 with line := { (at_ .running button 0 20).line with ackPart := [n, n, n] } }
    (∀ p ∈ [Phase.activeUnack, .clearedUnack],
        let e := alarm 5 .retrieveFail .p p
        let s := armed [e] (at_ .running button 0 20)
        ready s ∧ s.alarms.table.find? isEligible = some e ∧ isCol s = true ∧ e.origin = s.loader.station
          ∧ findAlarm s e.origin e.number = some e
          ∧ (after (.ackButtonPress 0 20) s).alarms.table.map (·.phase) = if p = .activeUnack then [.activeAcked] else [])
      ∧ (ready full ∧ full.alarms.table.find? isEligible = some other ∧ other.origin ≠ full.loader.station
          ∧ ackAccepted full = false) := by decide +kernel

theorem witness_AnnunciatorTimers :
    let s := holding [alarm 5 .retrieveFail .p .activeUnack] (desk 10000)
    let t := { s with alarms := { s.alarms with
      lamp := .flashing, flashStart := some 9500, soundStart := some 9500, reminderStart := some 0 } }
    inReset t = false ∧ t.alarms.lamp = .flashing ∧ t.alarms.flashStart = some 9500
      ∧ 500 ≤ (now (advance 0 t) - 9500).toNat ∧ t.alarms.soundStart = some 9500
      ∧ (record t).buzzDuration ≤ (now (advance 0 t) - 9500).toNat ∧ t.alarms.reminderStart = some 0
      ∧ (record t).reminder * 1000 ≤ (now (advance 0 t) - 0).toNat ∧ (record t).buzzerEnabled = true ∧ (record t).reminder ≠ 0
      ∧ (∃ e ∈ t.alarms.table, e.phase = .activeUnack) ∧ t.alarms.table ≠ [alarm 5 .retrieveFail .p .activeAcked]
      ∧ (∀ e ∈ [alarm 5 .retrieveFail .p .activeAcked], e.phase ≠ .activeUnack) ∧ (record t).lampEnabled = true
      ∧ (record (base0 0)).lampEnabled = false ∧ (record (base0 0)).buzzerEnabled = false := by decide +kernel

theorem witness_LimitOutputFollowsDuty :
    let s := { station2 0 with share := { (station2 0).share with limitElapsed := some 999 } }
    inReset s = false ∧ s.share.limitElapsed = some 999 ∧ 999 + 1 = 1000 ∧ 999 + 0 < 1000 := by decide +kernel

/-- A state with a grant and a pending grant at their largest, from which a boundary steps. -/
def grown : State :=
  let s := station2 20
  { s with
    share := { s.share with grant := 375, pendingGrant := some 400 }
    peers := vehicle.map fun e => if e.station = 2 then { e with fields := { e.fields with grant := 375 } } else e
    pending := [.periodBoundary 0] }

theorem witness_grown_steps : step grown = .next (after (.periodBoundary 0) { grown with pending := [] }) := rfl

theorem witness_LineLawsKept : CountersBounded grown ∧ QueueBounded grown ∧ HistoryBounded grown ∧ SilentWhenNotRunning grown := by
  decide +kernel

theorem witness_AlarmLawsKept : AlarmTableBounded grown ∧ AlarmsDistinct grown ∧ OffLineUnderAlarm grown :=
  ⟨⟨fun o => by revert o; decide +kernel, by decide +kernel, by decide +kernel⟩, by decide +kernel, by decide +kernel⟩

theorem witness_PeerLawsKept : SilentWhenNotRunning grown ∧ PeerTableOk grown ∧ OwnEntryFollows grown :=
  ⟨by decide +kernel, ⟨by decide +kernel, by decide +kernel, fun _ => ⟨_, by rfl, by decide +kernel⟩⟩,
    fun _ => ⟨_, by rfl, by decide +kernel⟩⟩

theorem witness_GrantLawKept : GrantLaw grown := by
  refine ⟨by decide +kernel, by unfold grantHeld; decide +kernel, ?_⟩
  intro p h
  obtain rfl : (400 : Nat) = p := Option.some.inj h
  unfold grantHeld
  decide +kernel

theorem witness_WatchLawsKept :
    SilentWhenNotRunning grown ∧ RetrieveFollowsPole grown ∧ TimersFollowView grown ∧ WindowsOk grown := by decide +kernel

theorem witness_GrantRisesOnlyAtBoundary :
    GrantLaw grown ∧ (Instr.periodBoundary 0).asBoundary = some 0 ∧ (Instr.readStatus whole).asBoundary = none
      ∧ exec (.readStatus whole) grown = .next (after (.readStatus whole) grown) :=
  ⟨witness_GrantLawKept, by decide, by decide, rfl⟩

theorem witness_OnlyTheseCommandsMove :
    SilentWhenNotRunning grown ∧ (Instr.capCeiling whole 9).isReset = false
      ∧ exec (.capCeiling whole 9) grown = .next (after (.capCeiling whole 9) grown) := ⟨by decide +kernel, rfl, rfl⟩

end Sys2Proof.Tests
end

section
/-!
The reset state: the values that the manual gives it, and the laws that hold at it.
-/
namespace Sys2Proof.Machine

/-- Settles O6: every field is read off the reset values, and the attention set is a mark of cause 0 alone. -/
theorem resetStateValues : Obligations.ResetStateValues := by
  have restarted : ∀ c, isPending State.reset.port c = true ↔ c = .restarted := by
    intro c
    cases c <;> decide
  have line : attentionLine State.reset = true := by decide
  refine ⟨rfl, rfl, rfl, rfl, rfl, rfl, rfl, rfl, rfl, rfl, rfl, rfl, rfl, rfl, rfl, ?_, rfl, rfl, rfl, rfl, rfl, rfl, rfl, rfl,
    rfl, rfl, rfl, rfl, rfl, rfl, rfl, rfl, rfl, rfl, rfl, rfl, rfl, rfl, rfl, rfl, rfl, rfl, rfl, rfl, rfl, rfl, rfl, rfl, rfl,
    rfl, rfl, rfl, rfl, rfl, rfl, rfl, rfl, rfl, rfl, rfl, rfl, rfl, rfl, restarted, rfl, line⟩
  simp [State.reset, PoleWatch.afterReset, Pole.afterReset]

/-- Settles O53: nothing is queued, held or in force at the reset state, and it is not live. -/
theorem lawsHoldAtReset : Obligations.LawsHoldAtReset := by
  have grants : GrantLaw State.reset := by
    refine ⟨by decide, by unfold grantHeld; decide, fun p hp => ?_⟩
    cases hp
  refine ⟨by decide, by decide, by decide, by decide, ⟨by decide, by decide, by decide⟩, by decide, by decide, ?_, ?_, grants,
    by decide, by decide, by decide⟩
  · exact ⟨by decide, by decide, fun h => absurd h (by decide)⟩
  · exact fun h => absurd h (by decide)

/-- Settles O41: the delay has run, so the view goes on to ON_LINE. -/
theorem restoreDelayExpiryEntersOnLine : Obligations.RestoreDelayExpiryEntersOnLine := by
  intro dt d s ⟨reset, live⟩ view restore ran
  have due : restoreDue (advance dt s) = true := by
    simp only [restoreDue, advance_keeps, restore]
    exact reached_of ran
  have live' : isLive (advance dt s) = true := live
  change perform dt endRestore s = _
  rw [perform_working dt endRestore reset, endRestore, if_pos ⟨live', view, due⟩]
  rfl

end Sys2Proof.Machine
end

section
/-!
Rules about the supply view that several statements need: what the end of an event of the Alarm Table can make of it, when its
exits are taken, and that no operation of the blocks ends a pending cause.
-/
namespace Sys2Proof.Machine

/-! ### Pending causes -/

/-- Every cause that was pending still is. -/
def PendingGrows (s t : State) : Prop := ∀ c, isPending s.port c = true → isPending t.port c = true

theorem PendingGrows.trans {s t u : State} (h : PendingGrows s t) (h' : PendingGrows t u) : PendingGrows s u :=
  fun c hc => h' c (h c hc)

theorem PendingGrows.of_port {s t : State} (h : t.port = s.port) : PendingGrows s t := fun c hc => by rw [h]; exact hc

theorem PendingGrows.of_raised {s t : State} {d : Cause} (h : t.port = raiseIn s.port d) : PendingGrows s t :=
  fun c hc => by rw [h, isPending_raiseIn, hc, Bool.true_or]

theorem PendingGrows.of_sensor {s t : State} {src : SensorSource} (h : t.port = raiseSensorIn s.port src) : PendingGrows s t :=
  fun c hc => by rw [h, isPending_raiseSensorIn, hc, Bool.true_or]

/-! ### The ways out of the wait -/

/-- The rank depends on the entries of the other stations, which no change of the own entry moves (R109). -/
theorem restoreRank_of_mapPeer {s t : State} {f : StateFields → StateFields} (hl : t.loader = s.loader)
    (hp : t.peers = mapPeer s.loader.station f s.peers) : restoreRank t = restoreRank s := by
  have ahead : ∀ e : Peer,
      sortsAhead t (if e.station = s.loader.station then { e with fields := f e.fields } else e) = sortsAhead s e := by
    intro e
    by_cases h : e.station = s.loader.station <;> simp [sortsAhead, hl, record_of_loader hl, h]
  unfold restoreRank
  rw [hp, mapPeer, List.filter_map, List.length_map]
  exact congrArg List.length (List.filter_congr fun e _ => ahead e)

theorem restoreRank_of_peers {s t : State} (hl : t.loader = s.loader) (hp : t.peers = s.peers) :
    restoreRank t = restoreRank s := by
  simp only [restoreRank, hp]
  exact congrArg List.length (List.filter_congr fun e _ => by simp [sortsAhead, hl, record_of_loader hl])

theorem leftTheWait_enterRestoring {s u : State} (hl : u.loader = s.loader) (hr : restoreRank u = restoreRank s) :
    LeftTheWait s (enterRestoring u) := by
  have time : now (enterRestoring u) = now u := now_of_clock (by simp)
  unfold LeftTheWait
  dsimp only
  rw [← hr, ← record_of_loader hl, time]
  obtain ⟨⟨zero, supply, shed, -⟩ | ⟨delay, supply, shed, -⟩, -⟩ := enterRestoring_spec u
  · exact ⟨by rw [supply], fun _ => by rw [supply, shed]; exact ⟨rfl, rfl⟩, fun h => absurd zero h⟩
  · exact ⟨by rw [supply], fun h => absurd h delay, fun _ => by rw [supply, shed]; exact ⟨rfl, rfl⟩⟩

/-- LeftTheWait looks at the view, its two timers and the clock only. -/
theorem LeftTheWait.of_same {s t u : State} (h : LeftTheWait s t) (clock : u.clock = t.clock) (view : u.supply.view = t.supply.view)
    (gap : u.supply.gapStart = t.supply.gapStart) (restore : u.shed.restore = t.shed.restore) : LeftTheWait s u := by
  unfold LeftTheWait at h ⊢
  rw [view, gap, restore, now_of_clock clock]
  exact h

/-- Out of the wait the view is RESTORING or ON_LINE. -/
theorem LeftTheWait.view {s t : State} (h : LeftTheWait s t) : t.supply.view = .onLine ∨ t.supply.view = .restoring := by
  obtain ⟨-, zero, delay⟩ := h
  by_cases d : restoreRank s * (record s).slotLength = 0
  · exact .inl (zero d).1
  · exact .inr (delay d).1

theorem enterRestoring_view (s : State) :
    (enterRestoring s).supply.view = .onLine ∨ (enterRestoring s).supply.view = .restoring :=
  (leftTheWait_enterRestoring rfl rfl).view

/-- Going to RESTORING or ON_LINE changes the view and its two timers, no more of Supply Watch and the Shed Sequencer. -/
theorem enterRestoring_supply (s : State) :
    (enterRestoring s).supply = { s.supply with view := (enterRestoring s).supply.view, gapStart := none } := by
  obtain ⟨⟨-, supply, -⟩ | ⟨-, supply, -⟩, -⟩ := enterRestoring_spec s <;> rw [supply]

/-- In GAP or OFF_LINE with voltage ok, no record and no supply alarm the exit is taken. -/
theorem examineExit_leaves {s : State} (view : s.supply.view = .gap ∨ s.supply.view = .offLine) (ok : s.supply.voltageOk = true)
    (records : s.supply.records = []) (alarm : holdsSupplyAlarm s.alarms.table = false) : examineExit s = enterRestoring s := by
  unfold examineExit
  rw [if_pos ⟨view, by simp [exitHolds, ok, records, alarm]⟩]

/-- In ON_LINE and RESTORING, without voltage ok, with a record or under a supply alarm there is no exit to take. -/
theorem examineExit_stands {s : State}
    (h : s.supply.view = .onLine ∨ s.supply.view = .restoring ∨ s.supply.voltageOk = false ∨ s.supply.records ≠ []
      ∨ holdsSupplyAlarm s.alarms.table = true) : examineExit s = s := by
  rcases examineExit_cases s with stands | ⟨view, ok, records, alarm, -⟩
  · exact stands
  · rcases view with view | view <;> simp_all

theorem examineExit_pending (s : State) : PendingGrows s (examineExit s) := by
  rcases examineExit_cases s with h | ⟨-, -, -, -, h⟩ <;> rw [h]
  · exact .of_port rfl
  · exact .of_raised (enterRestoring_spec s).2

/-! ### The end of an event of the Alarm Table (R118) -/

/-- The station once an event has changed the table, before Supply Watch is told: lamp, buzzer and attention follow the table. -/
def settled (before : List AlarmEntry) (s : State) : State := settleBuzzer before (settleLamp (raise .alarmTableChanged s))

@[simp] theorem settled_keeps (before : List AlarmEntry) (s : State) :
    (settled before s).clock = s.clock ∧ (settled before s).loader = s.loader ∧ (settled before s).supply = s.supply ∧
    (settled before s).poles = s.poles ∧ (settled before s).line = s.line ∧ (settled before s).peers = s.peers ∧
    (settled before s).share = s.share ∧ (settled before s).shed = s.shed ∧ (settled before s).alarms.table = s.alarms.table ∧
    (settled before s).port = raiseIn s.port .alarmTableChanged := by
  simp [settled]

/-- All that Supply Watch makes of a changed table: it stands, enters OFF_LINE, or takes the exit of OFF_LINE (R17, R18). -/
theorem tellSupply_cases (before : List AlarmEntry) (s : State) :
    (tellSupply before s = s
        ∧ (holdsSupplyAlarm s.alarms.table = true → s.supply.view = .offLine)
        ∧ (holdsSupplyAlarm s.alarms.table = false → holdsSupplyAlarm before = true → s.supply.view = .offLine →
            s.supply.voltageOk = false ∨ s.supply.records ≠ []))
      ∨ (tellSupply before s = enterOffLine s ∧ holdsSupplyAlarm s.alarms.table = true ∧ s.supply.view ≠ .offLine)
      ∨ (tellSupply before s = enterRestoring s ∧ holdsSupplyAlarm s.alarms.table = false ∧ holdsSupplyAlarm before = true
          ∧ s.supply.view = .offLine ∧ s.supply.voltageOk = true ∧ s.supply.records = []) := by
  unfold tellSupply
  by_cases holds : holdsSupplyAlarm s.alarms.table = true
  · rw [if_pos holds]
    by_cases view : s.supply.view = .offLine
    · exact .inl ⟨if_pos view, fun _ => view, fun h => absurd holds (by simp [h])⟩
    · exact .inr (.inl ⟨if_neg view, holds, view⟩)
  · have none : holdsSupplyAlarm s.alarms.table = false := by simpa using holds
    rw [if_neg holds]
    by_cases held : holdsSupplyAlarm before = true ∧ s.supply.view = .offLine
    · rw [if_pos held]
      rcases examineExit_cases s with stands | ⟨-, ok, records, -, leaves⟩
      · refine .inl ⟨stands, fun h => absurd h holds, fun _ _ view => ?_⟩
        by_contra exit
        push Not at exit
        have out := examineExit_leaves (.inr view) (by simpa using exit.1) exit.2 none
        have := enterRestoring_view s
        rw [← out, stands, view] at this
        simp at this
      · exact .inr (.inr ⟨leaves, none, held.1, held.2, ok, records⟩)
    · exact .inl ⟨if_neg held, fun h => absurd h holds, fun _ h v => absurd ⟨h, v⟩ held⟩

/-- All that the end of an event can do: nothing where the table stands, and else it settles the annunciator and may enter or leave
OFF_LINE (R17, R18, R118). -/
theorem endAlarmEvent_cases (before : List AlarmEntry) (s : State) :
    (s.alarms.table = before ∧ endAlarmEvent before s = s)
      ∨ (endAlarmEvent before s = settled before s
          ∧ (holdsSupplyAlarm s.alarms.table = true → s.supply.view = .offLine)
          ∧ (holdsSupplyAlarm s.alarms.table = false → holdsSupplyAlarm before = true → s.supply.view = .offLine →
              s.supply.voltageOk = false ∨ s.supply.records ≠ []))
      ∨ (endAlarmEvent before s = enterOffLine (settled before s) ∧ holdsSupplyAlarm s.alarms.table = true
          ∧ s.supply.view ≠ .offLine)
      ∨ (endAlarmEvent before s = enterRestoring (settled before s) ∧ holdsSupplyAlarm s.alarms.table = false
          ∧ holdsSupplyAlarm before = true ∧ s.supply.view = .offLine ∧ s.supply.voltageOk = true ∧ s.supply.records = []) := by
  by_cases same : s.alarms.table = before
  · exact .inl ⟨same, by rw [endAlarmEvent, if_pos same]⟩
  have told : endAlarmEvent before s = tellSupply before (settled before s) := by rw [endAlarmEvent, if_neg same]; rfl
  rw [told]
  obtain ⟨-, -, supply, -, -, -, -, -, table, -⟩ := settled_keeps before s
  have := tellSupply_cases before (settled before s)
  rw [table, supply] at this
  exact .inr this

theorem endAlarmEvent_pending (before : List AlarmEntry) (s : State) : PendingGrows s (endAlarmEvent before s) := by
  have raised : PendingGrows s (settled before s) := .of_raised (settled_keeps before s).2.2.2.2.2.2.2.2.2
  rcases endAlarmEvent_cases before s with ⟨-, h⟩ | ⟨h, -⟩ | ⟨h, -⟩ | ⟨h, -⟩ <;> rw [h]
  · exact .of_port rfl
  · exact raised
  · exact raised.trans (.of_raised (enterOffLine_spec _).2.1)
  · exact raised.trans (.of_raised (enterRestoring_spec _).2)

/-- An event that leaves the table as it finds it does no more than its changes. -/
theorem alarmEvent_idle {f : State → State} {s : State} (h : (f s).alarms.table = s.alarms.table) : alarmEvent f s = f s := by
  rw [alarmEvent, endAlarmEvent, if_pos h]

/-! ### Entry to OFF_LINE (R17, R106) -/

/-- The entry to OFF_LINE of a station whose Share Engine and record are those of `s`. -/
theorem enteredOffLine_enterOffLine {s u : State} (hl : u.loader = s.loader) (hc : u.share.cap = s.share.cap)
    (hg : u.share.grant = s.share.grant) : EnteredOffLine s (enterOffLine u) := by
  obtain ⟨supply, -, shed, poles, grant, pending, ceiling, floor, -⟩ := enterOffLine_spec u
  have wire : offWire u = offWire s := by simp [offWire, record_of_loader hl, hc]
  unfold EnteredOffLine
  rw [supply, shed, poles, grant, pending, ceiling, floor, wire, hg]
  exact ⟨rfl, rfl, rfl, rfl, rfl, rfl, rfl, rfl, rfl⟩

end Sys2Proof.Machine
end

section
/-!
The gap limit (R16, R17, R18, R42, R106; assumption log 12).
-/
namespace Sys2Proof.Machine

/-- LINE_DEAD is raised at a COL station with both poles ON_WIRE and no LINE_DEAD active (R42). -/
abbrev RaisesLineDead (s : State) : Prop := isCol s = true ∧ bothOnWire s = true ∧ s.poles.lineDead = none

/-- Without a reason to raise LINE_DEAD the event changes nothing. -/
theorem lineDeadEvent_stands {s : State} (h : ¬RaisesLineDead s) : alarmEvent lineDeadRaise s = s := by
  have idle : lineDeadRaise s = s := if_neg h
  rw [alarmEvent_idle (by rw [idle]), idle]

/-- A raise leaves a new entry at the end of the table. -/
theorem raiseOwn_table (k : AlarmKind) (ps : PoleSet) (s : State) :
    ∃ e, (raiseOwn k ps s).alarms.table = (makeOwnRoom s).alarms.table ++ [e] ∧ e.kind = k ∧ e.phase = .activeUnack := by
  obtain ⟨table, -⟩ := addOwn_spec (makeOwnRoom s) (raiseNumber (makeOwnRoom s) + 1)
    ⟨(makeOwnRoom s).loader.station, raiseNumber (makeOwnRoom s), k, ps, .activeUnack, some (now (makeOwnRoom s)),
      now (makeOwnRoom s), .absent, false⟩ (.opened .activeUnack)
  exact ⟨_, table, rfl, rfl⟩

/-- A raise of DEWIRE or LINE_DEAD leaves a supply alarm held. -/
theorem raiseOwn_holds {k : AlarmKind} (hk : k ≠ .retrieveFail) (ps : PoleSet) (s : State) :
    holdsSupplyAlarm (raiseOwn k ps s).alarms.table = true := by
  obtain ⟨e, table, kind, phase⟩ := raiseOwn_table k ps s
  rw [table]
  simp [holdsSupplyAlarm, isSupplyAlarm, kind, phase, hk]

/-- What RaisedOwn says of a raise carries over to a later state with the same alarms and notices, and to an earlier one. -/
theorem RaisedOwn.of_same {k : AlarmKind} {ps : PoleSet} {n : Byte} {s s' t t' : State} (h : RaisedOwn k ps n s t)
    (loader : s'.loader = s.loader) (alarms : s'.alarms.table = s.alarms.table)
    (history : s'.alarms.history = s.alarms.history) (number : s'.alarms.nextNumber = s.alarms.nextNumber)
    (part : s'.line.alarmPart = s.line.alarmPart) (time : now t' = now t)
    (table' : t'.alarms.table = t.alarms.table) (history' : t'.alarms.history = t.alarms.history)
    (number' : t'.alarms.nextNumber = t.alarms.nextNumber) (part' : t'.line.alarmPart = t.line.alarmPart) :
    RaisedOwn k ps n s' t' := by
  unfold RaisedOwn FirstFree handedTo at h ⊢
  rw [loader, alarms, history, number, part, time, table', history', number', part']
  exact h

/-- The event that raises LINE_DEAD, found in OFF_LINE: the record and the raise, and the view stays. -/
theorem lineDeadEvent_raises {s : State} (h : RaisesLineDead s) (view : s.supply.view = .offLine) :
    ∃ n, (alarmEvent lineDeadRaise s).poles = { s.poles with lineDead := some ⟨n, .none, false, false⟩ }
      ∧ RaisedOwn .lineDead .none n s (alarmEvent lineDeadRaise s)
      ∧ holdsSupplyAlarm (alarmEvent lineDeadRaise s).alarms.table = true
      ∧ (alarmEvent lineDeadRaise s).supply = s.supply ∧ (alarmEvent lineDeadRaise s).share = s.share
      ∧ (alarmEvent lineDeadRaise s).shed = s.shed ∧ PendingGrows s (alarmEvent lineDeadRaise s) := by
  have raised : lineDeadRaise s =
      withLineDead (some ⟨raiseNumber (makeOwnRoom s), .none, false, false⟩) (raiseOwn .lineDead .none s) := if_pos h
  obtain ⟨-, -, -, poles, -, share, shed, port, -⟩ := raiseOwn_keeps .lineDead .none s
  have supply : (lineDeadRaise s).supply = s.supply := (lineDeadRaise_keeps s).2.2.1
  have alarms : (lineDeadRaise s).alarms = (raiseOwn .lineDead .none s).alarms := by rw [raised]; rfl
  have line : (lineDeadRaise s).line = (raiseOwn .lineDead .none s).line := by rw [raised]; rfl
  have watch : (lineDeadRaise s).poles = { s.poles with lineDead := some ⟨raiseNumber (makeOwnRoom s), .none, false, false⟩ } := by
    rw [raised]
    simp [withLineDead]
  have holds : holdsSupplyAlarm (lineDeadRaise s).alarms.table = true := by
    rw [alarms]
    exact raiseOwn_holds (by decide) _ _
  have stays : (alarmEvent lineDeadRaise s).poles = (lineDeadRaise s).poles ∧
      (alarmEvent lineDeadRaise s).supply = s.supply ∧ (alarmEvent lineDeadRaise s).share = (lineDeadRaise s).share ∧
      (alarmEvent lineDeadRaise s).shed = (lineDeadRaise s).shed := by
    rw [← supply]
    unfold alarmEvent
    rcases endAlarmEvent_cases s.alarms.table (lineDeadRaise s) with ⟨-, e⟩ | ⟨e, -⟩ | ⟨-, -, off⟩ | ⟨-, none, -⟩
    · simp [e]
    · simp [e]
    · exact absurd (supply ▸ view) off
    · rw [holds] at none
      cases none
  obtain ⟨stays1, stays2, stays3, stays4⟩ := stays
  refine ⟨raiseNumber (makeOwnRoom s), stays1.trans watch, ?_, ?_, stays2, ?_, ?_, ?_⟩
  · refine (raiseOwn_raises .lineDead .none s).of_same rfl rfl rfl rfl rfl (now_of_clock (by simp [alarmEvent])) ?_ ?_ ?_ ?_
    all_goals simp [alarmEvent, alarms, line]
  · simpa [alarmEvent] using holds
  · simpa using stays3
  · simpa using stays4
  · exact PendingGrows.trans (.of_port (by simp)) (endAlarmEvent_pending _ _)

/-! ### The expiry -/

theorem raisesLineDead_enterOffLine (s : State) : RaisesLineDead (enterOffLine s) ↔ RaisesLineDead s := by
  simp only [RaisesLineDead, isCol_of_loader (s := s) (t := enterOffLine s) (by simp), bothOnWire, (enterOffLine_spec s).2.2.2.1]

/-- With LINE_DEAD raised no exit is left to take. -/
theorem reachGapLimit_raises {s : State} (due : gapLimitDue s = true) (raises : RaisesLineDead s) :
    reachGapLimit s = alarmEvent lineDeadRaise (enterOffLine s) := by
  obtain ⟨n, -, -, held, -⟩ := lineDeadEvent_raises ((raisesLineDead_enterOffLine s).2 raises) (by rw [(enterOffLine_spec s).1])
  have stays := examineExit_stands (s := alarmEvent lineDeadRaise (enterOffLine s)) (.inr (.inr (.inr (.inr held))))
  rw [reachGapLimit, if_pos due]
  dsimp only
  split
  · rfl
  · exact stays

/-- Without a raise the exit is examined where assumption log 12 says so. -/
theorem reachGapLimit_quiet {s : State} (due : gapLimitDue s = true) (quiet : ¬RaisesLineDead s) :
    reachGapLimit s =
      if (s.supply.records.isEmpty && (record s).voltageInput) = true then enterOffLine s else examineExit (enterOffLine s) := by
  have event := lineDeadEvent_stands (mt (raisesLineDead_enterOffLine s).1 quiet)
  rw [reachGapLimit, if_pos due, event]

/-- What the expiry leaves in every case: the OFF_LINE shed, no record and no timer of the wait (R16, R106). -/
structure GapLimitTaken (s t : State) : Prop where
  ceiling : t.share.ceiling = min (record s).offWireCeiling s.share.cap
  floor : t.share.floor = min (record s).cfgFloor t.share.ceiling
  grant : t.share.grant = min s.share.grant t.share.floor
  pending : t.share.pendingGrant = none
  openGap : t.poles.openGap = none
  records : t.supply.records = []
  gapStart : t.supply.gapStart = none
  noted : isPending t.port .supplyViewChanged = true
  loader : t.loader = s.loader

theorem gapLimitTaken_enterOffLine (dt : Nat) (s : State) : GapLimitTaken s (enterOffLine (advance dt s)) := by
  obtain ⟨-, gap, records, openGap, -, ceiling, floor, grant, pending⟩ :=
    enteredOffLine_enterOffLine (s := s) (u := advance dt s) rfl rfl rfl
  exact ⟨ceiling, floor, grant, pending, openGap, records, gap, by rw [(enterOffLine_spec _).2.1]; simp, by simp⟩

/-- What follows the entry leaves that alone. -/
theorem GapLimitTaken.after {s u t : State} (h : GapLimitTaken s u) (share : t.share = u.share)
    (openGap : t.poles.openGap = u.poles.openGap) (records : t.supply.records = u.supply.records)
    (gapStart : t.supply.gapStart = none) (port : PendingGrows u t) (loader : t.loader = u.loader) : GapLimitTaken s t where
  ceiling := by rw [share, h.ceiling]
  floor := by rw [share, h.floor]
  grant := by rw [share, h.grant]
  pending := by rw [share, h.pending]
  openGap := openGap.trans h.openGap
  records := records.trans h.records
  gapStart := gapStart
  noted := port _ h.noted
  loader := loader.trans h.loader

theorem gapLimitTaken_examineExit (dt : Nat) (s : State) : GapLimitTaken s (examineExit (enterOffLine (advance dt s))) := by
  have entered := gapLimitTaken_enterOffLine dt s
  refine entered.after (by simp) (by simp) (by simp) ?_ (examineExit_pending _) (by simp)
  rcases examineExit_cases (enterOffLine (advance dt s)) with h | ⟨-, -, -, -, h⟩ <;> rw [h]
  · exact entered.gapStart
  · rw [enterRestoring_supply]

/-- Settles O40: the entry to OFF_LINE, the event that may raise LINE_DEAD there, and the exit examined where log 12 says so. -/
theorem gapLimitEntersOffLine : Obligations.GapLimitEntersOffLine := by
  intro dt t0 s ⟨reset, live⟩ view start ran
  have due : gapLimitDue (advance dt s) = true := by
    have live' : isLive (advance dt s) = true := live
    simp only [gapLimitDue, live', advance_keeps, view, Bool.true_and, beq_self_eq_true]
    exact expired_of start ran
  obtain ⟨u, entry⟩ : ∃ u, u = enterOffLine (advance dt s) := ⟨_, rfl⟩
  have entered := gapLimitTaken_enterOffLine dt s
  obtain ⟨supply, -, shed, poles, -, -, -, -, peers⟩ := enterOffLine_spec (advance dt s)
  rw [← entry] at entered supply shed poles peers
  have waits : u.supply =
      { s.supply with view := .offLine, gapStart := none, records := [] } ∧ u.shed = { s.shed with restore := none } :=
    ⟨supply, shed⟩
  have alarms : u.alarms = s.alarms := by simp [entry]
  have line : u.line = s.line := by simp [entry]
  refine ⟨_, perform_working dt reachGapLimit reset, ?_⟩
  by_cases raises : RaisesLineDead s
  · obtain ⟨n, poles', raised, held, supply', share', shed', port'⟩ :=
      lineDeadEvent_raises ((raisesLineDead_enterOffLine (advance dt s)).2 raises) (by rw [(enterOffLine_spec _).1])
    rw [reachGapLimit_raises due raises]
    rw [← entry] at poles' raised held supply' share' shed' port' ⊢
    have taken : GapLimitTaken s (alarmEvent lineDeadRaise u) :=
      entered.after share' (by rw [poles']) (by rw [supply']) (by rw [supply', entered.gapStart]) port' (by simp [alarmEvent])
    obtain ⟨ceiling, floor, grant, pending, openGap, records, gapStart, noted, loader⟩ := taken
    refine ⟨ceiling, floor, grant, pending, openGap, records, gapStart, noted, loader,
      fun _ => ⟨supply'.trans waits.1, shed'.trans waits.2⟩, fun _ _ no => absurd raises no,
      fun _ _ _ => ⟨held, by rw [supply', waits.1], n, by rw [poles'], ?_⟩, fun no => absurd raises no⟩
    exact raised.of_same entered.loader.symm (by rw [alarms]) (by rw [alarms]) (by rw [alarms]) (by rw [line]) rfl rfl rfl rfl rfl
  · obtain ⟨t, ht⟩ : ∃ t, t = reachGapLimit (advance dt s) := ⟨_, rfl⟩
    have result := ht.trans (reachGapLimit_quiet due raises)
    rw [← entry] at result
    have exits : GapLimitTaken s (examineExit u) := entry ▸ gapLimitTaken_examineExit dt s
    have taken : GapLimitTaken s t := by
      rw [result]
      split
      · exact entered
      · exact exits
    have stands : t.alarms = s.alarms ∧ t.line = s.line := by
      rw [result]
      split
      · exact ⟨alarms, line⟩
      · exact ⟨by simp [alarms], by simp [line]⟩
    rw [← ht]
    obtain ⟨ceiling, floor, grant, pending, openGap, records, gapStart, noted, loader⟩ := taken
    refine ⟨ceiling, floor, grant, pending, openGap, records, gapStart, noted, loader, fun no => ?_, fun ok some _ none => ?_,
      fun col wire dead => absurd ⟨col, wire, dead⟩ raises, fun _ => stands⟩
    · have stays : t = u := by
        rw [result]
        rcases no with no | ⟨empty, input⟩
        · split
          · rfl
          · exact examineExit_stands (.inr (.inr (.inl (by rw [waits.1, no]))))
        · rw [if_pos (by simp [empty, record_of_loader (s := s) (t := advance dt s) rfl, input])]
      rw [stays]
      exact waits
    · have exit : t = enterRestoring u := by
        rw [result, if_neg, examineExit_leaves (.inr (by rw [waits.1])) (by rw [waits.1, ok]) (by rw [waits.1]) (by rw [alarms, none])]
        rcases some with some | some <;> simp [some, record_of_loader (s := s) (t := advance dt s) rfl]
      rw [exit]
      exact leftTheWait_enterRestoring entered.loader (restoreRank_of_mapPeer entered.loader peers)

end Sys2Proof.Machine
end

section
/-!
GAP frames of another station (R12 to R15, R18, R51).
-/
namespace Sys2Proof.Machine

/-! ### A frame heard from its first byte (R49, R51) -/

/-- The station once it has taken a whole frame, before it acts on it. -/
def heardFrame (dt : Nat) (s : State) : State := (advance dt s).withLine (afterFrame s.line)

@[simp] theorem heardFrame_keeps (dt : Nat) (s : State) :
    (heardFrame dt s).clock = (advance dt s).clock ∧ (heardFrame dt s).loader = s.loader ∧ (heardFrame dt s).supply = s.supply ∧
    (heardFrame dt s).poles = s.poles ∧ (heardFrame dt s).line = afterFrame s.line ∧ (heardFrame dt s).peers = s.peers ∧
    (heardFrame dt s).share = (advance dt s).share ∧ (heardFrame dt s).shed = s.shed ∧ (heardFrame dt s).alarms = s.alarms ∧
    (heardFrame dt s).port = s.port := ⟨rfl, rfl, rfl, rfl, rfl, rfl, rfl, rfl, rfl, rfl⟩

/-- A good frame is acted on once the receiver hunts again. -/
theorem receive_good {dt idle : Nat} {bytes : List Byte} {f : Frame} {s : State} (hears : Hearing s idle)
    (good : examine bytes = .good f) :
    perform dt (receive idle bytes false) s = .next (handOn f (heardFrame dt s)) := by
  obtain ⟨⟨reset, live⟩, attempt, hunting, idle12⟩ := hears
  have some : bytes.isEmpty = false := by
    cases bytes with
    | nil => simp [examine] at good
    | cons => rfl
  have live' : isLive (advance dt s) = true := live
  rw [perform_working dt _ reset, receive, if_pos ⟨live', attempt⟩]
  simp only [some, Bool.false_eq_true, if_false, advance_keeps, frameSoFar, hunting, if_pos idle12, List.nil_append, good,
    settleReception, State.withLine_line, State.withLine_withLine]
  rfl

/-- A GAP frame of another station goes to Supply Watch. -/
theorem handOn_gap {f : Frame} {g : GapContent} {s : State} (other : f.source ≠ s.loader.station) (body : f.body = .gap g) :
    handOn f s = gapHeard f.source g s := by
  rw [handOn, if_neg other, body]

/-- Without a COL entry of the source a GAP frame is discarded (R12). -/
theorem gapHeard_discards {src : Station} {g : GapContent} {s : State}
    (h : ∀ e, peerOf s src = some e → e.fields.role ≠ .col) : gapHeard src g s = s := by
  unfold gapHeard
  split
  · rfl
  · next e he => rw [if_neg (h e he)]

theorem gapHeard_start {src : Station} {n : Byte} {e : Peer} {s : State} (h : peerOf s src = some e) (col : e.fields.role = .col) :
    gapHeard src ⟨true, n⟩ s = gapStartHeard src n e s := by
  simp [gapHeard, h, col]

theorem gapHeard_end {src : Station} {n : Byte} {e : Peer} {s : State} (h : peerOf s src = some e) (col : e.fields.role = .col) :
    gapHeard src ⟨false, n⟩ s = gapEndHeard src n s := by
  simp [gapHeard, h, col]

/-! ### GAP_START (R12, R14) -/

/-- The records a GAP_START leaves: one of a FRESH source is entered. -/
def recordsAfterStart (src : Station) (n : Byte) (e : Peer) (rs : List GapRecord) : List GapRecord :=
  if e.freshness = .fresh then putRecord ⟨src, n⟩ rs else rs

theorem gapStartHeard_eq (src : Station) (n : Byte) (e : Peer) (s : State) :
    gapStartHeard src n e s =
      let t := s.withSupply { s.supply with records := recordsAfterStart src n e s.supply.records }
      if s.supply.view = .onLine ∨ s.supply.view = .restoring then enterGap t else t := by
  unfold gapStartHeard recordsAfterStart
  by_cases fresh : e.freshness = .fresh
  · simp only [if_pos fresh, State.withSupply_supply]
  · simp only [if_neg fresh]
    rfl

/-- What the GAP shed leaves of the grant, by class (R105). -/
theorem gapGrant_eq (s : State) : gapGrant s = if (record s).cls = 0 then min s.share.grant s.share.floor else 0 := by
  unfold gapGrant
  split <;> simp

/-! ### GAP_END (R13, R15, R18) -/

/-- A record that is not outstanding is not released. -/
theorem gapEndHeard_absent {src : Station} {n : Byte} {s : State} (h : (⟨src, n⟩ : GapRecord) ∉ s.supply.records) :
    gapEndHeard src n s = s := by
  unfold gapEndHeard releaseRecords
  rw [if_neg]
  simpa using h

/-- The release of an outstanding record; the exit is examined if none is left. -/
theorem gapEndHeard_present {src : Station} {n : Byte} {s : State} (h : (⟨src, n⟩ : GapRecord) ∈ s.supply.records) :
    gapEndHeard src n s =
      let left := s.supply.records.filter fun r => !(r.source == src && r.serial == n)
      let t := s.withSupply { s.supply with records := left }
      if left = [] then examineExit t else t := by
  have test : (fun x : GapRecord => !(x == (⟨src, n⟩ : GapRecord))) = fun r => !(r.source == src && r.serial == n) := by
    funext r
    obtain ⟨source, serial⟩ := r
    rw [Bool.eq_iff_iff]
    simp [imp_iff_not_or]
  unfold gapEndHeard releaseRecords
  rw [if_pos (by simpa using h), test]
  simp only [State.withSupply_supply, List.isEmpty_iff]

/-- Settles O27: the reception of the frame, then the rule of its kind in Supply Watch. -/
theorem gapFramesMoveView : Obligations.GapFramesMoveView := by
  intro dt idle bytes src n s hears other
  have start : ∀ g, examine bytes = .good ⟨src, .gap g⟩ →
      exec (.gapStartFrame dt idle bytes) s = .next (gapHeard src g (heardFrame dt s))
        ∧ exec (.gapEndFrame dt idle bytes) s = .next (gapHeard src g (heardFrame dt s)) := by
    intro g good
    have run := receive_good (dt := dt) hears good
    rw [handOn_gap (f := ⟨src, .gap g⟩) (s := heardFrame dt s) other rfl] at run
    exact ⟨run, run⟩
  refine ⟨fun none => ⟨fun good => ?_, fun good => ?_⟩, fun r => mem_putRecord _ _ _,
    fun e found col => ⟨fun good => ?_, fun good => ?_⟩⟩
  · rw [(start _ good).1, gapHeard_discards (s := heardFrame dt s) none]
    rfl
  · rw [(start _ good).2, gapHeard_discards (s := heardFrame dt s) none]
    rfl
  · have run := (start _ good).1
    rw [gapHeard_start (s := heardFrame dt s) found col, gapStartHeard_eq] at run
    refine ⟨fun view => ?_, fun view => ?_⟩
    · refine ⟨_, run.trans (congrArg _ (if_pos view)), ?_⟩
      obtain ⟨supply, port, shed, grant, pending, -⟩ := enterGap_spec ((heardFrame dt s).withSupply
        { s.supply with records := recordsAfterStart src n e s.supply.records })
      exact ⟨supply, grant.trans (gapGrant_eq _), pending, rfl, rfl, shed, port, rfl, rfl, rfl, rfl⟩
    · have stays : ¬(s.supply.view = .onLine ∨ s.supply.view = .restoring) := by rcases view with v | v <;> simp [v]
      exact run.trans (congrArg _ (if_neg stays))
  · have run := (start _ good).2
    rw [gapHeard_end (s := heardFrame dt s) found col] at run
    refine ⟨fun mine left view ok alarm => ?_, fun mine stays => ?_, fun absent => ?_⟩
    · rw [gapEndHeard_present (s := heardFrame dt s) mine] at run
      have exit := examineExit_leaves (s := (heardFrame dt s).withSupply { s.supply with records := [] }) view ok rfl alarm
      have run' : exec (.gapEndFrame dt idle bytes) s =
          .next (enterRestoring ((heardFrame dt s).withSupply { s.supply with records := [] })) := by
        rw [run, ← exit]
        simp only [heardFrame_keeps, left, if_true]
      refine ⟨_, run', leftTheWait_enterRestoring rfl (restoreRank_of_peers rfl rfl), enterRestoring_supply _,
        (enterRestoring_spec _).2, ?_⟩
      simp
    · rw [run, gapEndHeard_present (s := heardFrame dt s) mine]
      by_cases left : (s.supply.records.filter fun r => !(r.source == src && r.serial == n)) = []
      · have stands := examineExit_stands (s := (heardFrame dt s).withSupply { s.supply with records := [] }) (by
          simp only [State.withSupply_supply, State.withSupply_alarms, heardFrame_keeps]
          tauto)
        simp only [heardFrame_keeps, left, if_true, stands]
        rfl
      · simp only [heardFrame_keeps, if_neg left]
        rfl
    · rw [run, gapEndHeard_absent (s := heardFrame dt s) absent]
      rfl

end Sys2Proof.Machine
end

section
/-!
The start of an attempt (R49, R50, R53, R54, R58, R64, R67).
-/
namespace Sys2Proof.Machine

/-! ### The line at rest and the frame that stands first -/

/-- The line block after it has stood idle for `idle` bit times in all (R49). -/
def idledLine (idle : Nat) (l : Line) : Line :=
  match l.rx with
  | .hunting => { l with idle := idle }
  | .inFrame _ => if 20 < idle then { countFault l with rx := .hunting, idle := idle } else { l with idle := idle }

theorem idleLine_eq (idle : Nat) (s : State) : idleLine idle s = s.withLine (idledLine idle s.line) := by
  cases rx : s.line.rx with
  | hunting => simp only [idleLine, idledLine, rx]
  | inFrame bytes =>
    simp only [idleLine, idledLine, rx]
    split <;> rfl

/-- Standing idle moves the receiver, the idle time and REC only. -/
theorem idledLine_eq (idle : Nat) (l : Line) :
    idledLine idle l = { l with rx := (idledLine idle l).rx, idle := idle, recv := (idledLine idle l).recv } := by
  unfold idledLine
  split
  · rfl
  · split <;> rfl

theorem idledLine_hunting {idle : Nat} {l : Line} (h : l.rx = .hunting) : idledLine idle l = { l with idle := idle } := by
  rw [idledLine, h]

theorem idledLine_inFrame {idle : Nat} {l : Line} {bytes : List Byte} (h : l.rx = .inFrame bytes) :
    idledLine idle l =
      if 20 < idle then { countFault l with rx := .hunting, idle := idle } else { l with idle := idle } := by
  rw [idledLine, h]

@[simp] theorem firstWaiting_idledLine (idle : Nat) (l : Line) : firstWaiting (idledLine idle l) = firstWaiting l := by
  rw [idledLine_eq]
  rfl

/-- The send order of R64 and R67 by the contents of the slot and the queue. -/
theorem firstWaiting_eq (l : Line) :
    firstWaiting l =
      if l.stateFirst = true then (if l.stateWaiting = true then some .state else none)
      else if l.gapPart ≠ none then some .gap
      else if l.alarmPart ≠ [] then some .alarm
      else if l.ackPart ≠ [] then some .ack
      else if l.stateWaiting = true then some .state
      else none := by
  simp [firstWaiting, Option.isSome_iff_ne_none]

/-- Where a part of the queue is to be sent it holds a notice. -/
theorem firstWaiting_parts {l : Line} {w : Waiting} (h : firstWaiting l = some w) :
    (w = .gap → l.gapPart ≠ none) ∧ (w = .alarm → l.alarmPart ≠ []) ∧ (w = .ack → l.ackPart ≠ []) := by
  rw [firstWaiting_eq] at h
  split_ifs at h with _ _ gap alarm ack <;> obtain rfl := Option.some.inj h
  · exact ⟨nofun, nofun, nofun⟩
  · exact ⟨fun _ => gap, nofun, nofun⟩
  · exact ⟨nofun, fun _ => alarm, nofun⟩
  · exact ⟨nofun, nofun, fun _ => ack⟩
  · exact ⟨nofun, nofun, nofun⟩

/-- Where a frame stands first it can be taken. -/
theorem takeFirst_some {s : State} {w : Waiting} (h : firstWaiting s.line = some w) : ∃ x, takeFirst s = some x := by
  obtain ⟨gap, alarm, ack⟩ := firstWaiting_parts h
  unfold takeFirst
  rw [h]
  cases w with
  | gap =>
    obtain ⟨n, part⟩ := Option.ne_none_iff_exists'.1 (gap rfl)
    rw [part]
    exact ⟨_, rfl⟩
  | alarm =>
    obtain ⟨n, rest, part⟩ := List.exists_cons_of_ne_nil (alarm rfl)
    rw [part]
    exact ⟨_, rfl⟩
  | ack =>
    obtain ⟨n, rest, part⟩ := List.exists_cons_of_ne_nil (ack rfl)
    rw [part]
    exact ⟨_, rfl⟩
  | state => exact ⟨_, rfl⟩

/-! ### The attempt -/

section
variable {idle : Nat} {s : State} (live : isLive s = true) (free : s.line.attempt = none)

include live free in
/-- With nothing to send, or short of the deferral, the line stands idle and no more (R53). -/
theorem startAttempt_waits
    (short : ∀ w, firstWaiting s.line = some w → s.line.idle + idle < deferral w s.loader.station) :
    startAttempt idle s = s.withLine (idledLine (s.line.idle + idle) s.line) := by
  rw [startAttempt, if_pos ⟨live, free⟩, idleLine_eq]
  dsimp only
  split
  · next w what body l first taken =>
    have wait := short w (by simpa using first)
    rw [if_neg]
    rintro ⟨-, reached⟩
    rw [State.withLine_line, idledLine_eq, State.withLine_loader] at reached
    dsimp only at reached
    omega
  · rfl

include live free in
/-- At the deferral the first frame in send order is taken, and its start bit opens the attempt (R53, R54). -/
theorem startAttempt_starts (run : s.loader.run = .running) {w : Waiting} {what : Sending} {body : Body} {l : Line}
    (first : firstWaiting s.line = some w) (reached : deferral w s.loader.station ≤ s.line.idle + idle)
    (taken : takeFirst (s.withLine (idledLine (s.line.idle + idle) s.line)) = some (what, body, l)) :
    startAttempt idle s = s.withLine (openAttempt what (frameBytes ⟨s.loader.station, body⟩) l) := by
  rw [startAttempt, if_pos ⟨live, free⟩, idleLine_eq]
  dsimp only
  rw [State.withLine_line, firstWaiting_idledLine, first, taken]
  dsimp only
  rw [if_pos]
  · rfl
  · refine ⟨run, ?_⟩
    rw [idledLine_eq]
    exact reached

end

/-- What the taking of a frame leaves as it stands of the receiver's side of the line. -/
theorem takeFirst_line {s : State} {what : Sending} {body : Body} {l : Line} (h : takeFirst s = some (what, body, l)) :
    l.rx = s.line.rx ∧ l.idle = s.line.idle ∧ l.recv = s.line.recv := by
  unfold takeFirst at h
  split at h
  · cases h
  · obtain ⟨n, -, e⟩ := Option.map_eq_some_iff.1 h
    cases e
    exact ⟨rfl, rfl, rfl⟩
  · obtain ⟨n, -, e⟩ := Option.map_eq_some_iff.1 h
    cases e
    exact ⟨rfl, rfl, rfl⟩
  · obtain ⟨n, -, e⟩ := Option.map_eq_some_iff.1 h
    cases e
    exact ⟨rfl, rfl, rfl⟩
  · cases h
    exact ⟨rfl, rfl, rfl⟩

/-- A start bit after at least 12 idle bit times truncates an open frame once, whether the idle time has done so before or not (R49). -/
theorem truncateOpen_recv {idle : Nat} {l l' : Line} {bytes : List Byte} (h : l.rx = .inFrame bytes)
    (rx : l'.rx = (idledLine idle l).rx) (recv : l'.recv = (idledLine idle l).recv) :
    (truncateOpen l').recv = min 255 (l.recv + 1) := by
  rw [idledLine_inFrame h] at rx recv
  unfold truncateOpen
  split at rx <;> rename_i long
  · rw [if_pos long] at recv
    rw [rx]
    exact recv
  · rw [if_neg long] at recv
    rw [rx]
    dsimp only
    rw [h]
    simp only [countFault, recv]

/-- The smoothed voltage by the list (R4). -/
theorem smoothed_eq (s : State) : smoothed s = if s.supply.volts = [] then 0 else s.supply.volts.sum / s.supply.volts.length := by
  unfold smoothed
  split
  · next h => simp [h]
  · rfl

/-- Settles O29: the line idles, and at the deferral the attempt of the first frame opens on the line as it then is. -/
theorem deferralStartsFirstFrame : Obligations.DeferralStartsFirstFrame := by
  intro dt idle s reset run free total counted first deferred
  have live : isLive (advance dt s) = true := by simp [isLive, run]
  have order : firstWaiting s.line = first := firstWaiting_eq s.line
  have wait : ∀ w, deferral w s.loader.station = deferred w := fun w => by cases w <;> rfl
  have count : min 255 (s.line.recv + 1) = counted := by
    change _ = if s.line.recv < 255 then s.line.recv + 1 else 255
    split <;> omega
  have exec_eq : exec (.deferralReached dt idle) s = .next (startAttempt idle (advance dt s)) := perform_working _ _ reset
  refine ⟨fun short => ?_, fun w isFirst reached => ⟨fun hunting => ?_, fun bytes inFrame => ?_⟩⟩
  · have waits := startAttempt_waits (idle := idle) (s := advance dt s) live free
      (fun w hw => lt_of_lt_of_eq (short w (order ▸ hw)) (wait w).symm)
    rw [exec_eq, waits]
    refine ⟨fun hunting => ?_, fun bytes inFrame => ?_⟩
    · rw [show idledLine ((advance dt s).line.idle + idle) (advance dt s).line = _ from idledLine_hunting hunting]
      rfl
    · rw [show idledLine ((advance dt s).line.idle + idle) (advance dt s).line = _ from idledLine_inFrame inFrame, ← count]
      rfl
  · have idles : idledLine ((advance dt s).line.idle + idle) (advance dt s).line = { s.line with idle := total } :=
      idledLine_hunting hunting
    let t := (advance dt s).withLine { s.line with idle := total }
    have head : firstWaiting t.line = some w := order.trans isFirst
    have starts : ∀ {what body l}, takeFirst t = some (what, body, l) →
        exec (.deferralReached dt idle) s = .next ((advance dt s).withLine { l with
          attempt := some ⟨what, frameBytes ⟨s.loader.station, body⟩, .hunting, total, s.line.recv⟩
          sentAt := none, rx := .inFrame [], idle := 0, recv := s.line.recv }) := by
      intro what body l taken
      obtain ⟨rx, stood, recv⟩ := takeFirst_line taken
      rw [exec_eq, startAttempt_starts (idle := idle) (s := advance dt s) (what := what) (body := body) (l := l) live free run
        (order.trans isFirst) ((wait w).trans_le reached) (by rw [idles]; exact taken), openAttempt, truncateOpen, rx, stood]
      simp only [recv, t, State.withLine_line, hunting, advance_keeps]
    refine ⟨fun own isState found => ?_, fun n isGap part => ?_, fun n rest isAlarm part => ?_, fun n rest isAck part => ?_⟩
    · subst isState
      have taken : takeFirst t = some (.state (s.line.statesSent < 3), .state (builtFields t),
          { s.line with idle := total, stateWaiting := false, seq := s.line.seq + 1 }) := by
        rw [takeFirst, head]
        rfl
      rw [starts taken, builtFields_of_own (s := t) found, ownFields, smoothed_eq]
      simp [t, isBat, isCol, ownSummary, ownAlarms, ofOrigin, record, State.withLine]
      rfl
    · subst isGap
      have taken : takeFirst t = some (.gap, .gap n.content, { s.line with
          idle := total, gapPart := some { n with attempts := n.attempts + 1, onWire := true, renewed := false }
          gapPairing := false }) := by
        rw [takeFirst, head]
        simp [t, part]
      rw [starts taken]
      rfl
    · subst isAlarm
      have taken : takeFirst t = some (.alarm, .alarm n.content, { s.line with
          idle := total, alarmPart := { n with attempts := n.attempts + 1, onWire := true, renewed := false } :: rest }) := by
        rw [takeFirst, head]
        simp [t, part]
      rw [starts taken]
      rfl
    · subst isAck
      have taken : takeFirst t = some (.ack, .ack n.content, { s.line with
          idle := total, ackPart := { n with attempts := n.attempts + 1, onWire := true } :: rest }) := by
        rw [takeFirst, head]
        simp [t, part]
      rw [starts taken]
      rfl
  · have head : firstWaiting ((advance dt s).withLine (idledLine total s.line)).line = some w := by
      rw [State.withLine_line, firstWaiting_idledLine, order, isFirst]
    obtain ⟨⟨what, body, l⟩, taken⟩ := takeFirst_some head
    obtain ⟨rx, -, recv⟩ := takeFirst_line taken
    rw [exec_eq, startAttempt_starts (idle := idle) (s := advance dt s) live free run (order.trans isFirst)
      ((wait w).trans_le reached) taken]
    exact ⟨_, rfl, rfl, rfl, rfl, (truncateOpen_recv inFrame rx recv).trans count⟩

end Sys2Proof.Machine
end

section
/-!
The evaluation of both poles at a window completion (R30): the poles that enter DEWIRED or time out, and what the hand-offs of stage 5
make of the three active-alarm records and of the alarm table.
-/
namespace Sys2Proof.Machine

/-! ### Pole sets -/

theorem poleSet_hasP (p n : Bool) : hasP (poleSet p n) = p := by cases p <;> cases n <;> rfl

theorem poleSet_hasN (p n : Bool) : hasN (poleSet p n) = n := by cases p <;> cases n <;> rfl

theorem poleSet_eq_none {p n : Bool} : poleSet p n = .none ↔ p = false ∧ n = false := by cases p <;> cases n <;> decide

theorem eq_none_of_lacks {ps : PoleSet} (p : hasP ps = false) (n : hasN ps = false) : ps = .none := by
  cases ps <;> simp_all [hasP, hasN]

/-- A set that is not none has a pole. -/
theorem hasP_or_hasN {ps : PoleSet} (h : ps ≠ .none) : hasP ps = true ∨ hasN ps = true := by
  cases ps <;> simp_all [hasP, hasN]

theorem unionSet_none {ps : PoleSet} (h : ps ≠ .none) : unionSet ps .none = ps := by cases ps <;> simp_all <;> rfl

/-- A set that is not none and does not take up another becomes both with it. -/
theorem unionSet_both {a b : PoleSet} (ha : a ≠ .none) (h : unionSet a b ≠ a) : unionSet a b = .both := by
  revert ha h
  cases a <;> cases b <;> decide

theorem hasP_of_union {a b : PoleSet} (h : unionSet a b = a) (hb : hasP b = true) : hasP a = true := by
  rw [← h, unionSet, poleSet_hasP, hb, Bool.or_true]

theorem hasN_of_union {a b : PoleSet} (h : unionSet a b = a) (hb : hasN b = true) : hasN a = true := by
  rw [← h, unionSet, poleSet_hasN, hb, Bool.or_true]

theorem allOf_eq_true {ps : PoleSet} {p n : Bool} :
    allOf ps p n = true ↔ (hasP ps = true → p = true) ∧ (hasN ps = true → n = true) := by
  unfold allOf
  cases hasP ps <;> cases hasN ps <;> simp

/-! ### The poles of one evaluation -/

/-- What every transition of a pole respects: the angle input's fields stand, no flag of the timeout is set, and the first-evaluation
mark only ends. -/
def Moved (q q' : Pole) : Prop :=
  q'.capture = q.capture ∧ q'.opened = q.opened ∧ (q'.timedOut = q.timedOut ∨ q'.timedOut = false)
    ∧ (q'.firstMark = q.firstMark ∨ q'.firstMark = false)

theorem moved_refl (q : Pole) : Moved q q := ⟨rfl, rfl, .inl rfl, .inl rfl⟩

theorem moved_toState (q : Pole) (st : PoleState) : Moved q (toState q st) := ⟨rfl, rfl, .inl rfl, .inl rfl⟩

theorem moved_toDewired (t : StationTime) (q : Pole) : Moved q (toDewired t q) := ⟨rfl, rfl, .inr rfl, .inl rfl⟩

theorem moved_toUnwatched (q : Pole) : Moved q (toUnwatched q) := ⟨rfl, rfl, .inl rfl, .inr rfl⟩

theorem moved_firstState (k : Terms) (q : Pole) : Moved q (firstState k q) := by
  unfold firstState
  dsimp only
  split_ifs <;> exact ⟨rfl, rfl, .inl rfl, .inr rfl⟩

theorem moved_carriedState (t : StationTime) (k : Terms) (q : Pole) : Moved q (carriedState t k q) := by
  unfold carriedState
  dsimp only
  split_ifs
  · exact ⟨rfl, rfl, .inl rfl, .inr rfl⟩
  · exact ⟨rfl, rfl, .inr rfl, .inr rfl⟩

theorem moved_fromRaising (r : Record) (t : StationTime) (ok has : Bool) (k : Terms) (q : Pole) :
    Moved q (fromRaising r t ok has k q) := by
  unfold fromRaising
  split_ifs
  · exact moved_toState q _
  · exact moved_toState q _
  · exact ⟨rfl, rfl, .inl rfl, .inl rfl⟩
  · exact ⟨rfl, rfl, .inl rfl, .inl rfl⟩

theorem moved_fromOnWire (t : StationTime) (k : Terms) (q : Pole) : Moved q (fromOnWire t k q) := by
  unfold fromOnWire
  split_ifs
  · exact moved_toDewired t q
  · exact ⟨rfl, rfl, .inl rfl, .inl rfl⟩
  · exact moved_refl q

theorem moved_fromSuspect (r : Record) (t : StationTime) (k : Terms) (q : Pole) : Moved q (fromSuspect r t k q) := by
  unfold fromSuspect
  split_ifs
  · exact moved_toDewired t q
  · exact moved_toState q _
  · exact moved_toDewired t q
  · exact moved_refl q

/-- A pole that has no state yet, or none any more, takes one or is UNWATCHED (R31, R32). -/
theorem moved_fromNone (t : StationTime) (angle : Option Nat) (k : Terms) (q : Pole) :
    Moved q (if angle.isNone then toUnwatched q else if q.carried then carriedState t k q else firstState k q) := by
  split_ifs
  · exact moved_toUnwatched q
  · exact moved_carriedState t k q
  · exact moved_firstState k q

theorem moved_transition (r : Record) (t : StationTime) (ok : Bool) (angle : Option Nat) (k : Terms) (q : Pole) :
    Moved q (transition r t ok angle k q) := by
  unfold transition
  split
  · exact moved_toUnwatched q
  cases q.state <;> dsimp only
  case notEvaluated => exact moved_fromNone t angle k q
  case unwatched => exact moved_fromNone t angle k q
  case stowed => split <;> [exact moved_toState q _; exact moved_refl q]
  case raising => exact moved_fromRaising r t ok _ k q
  case onWire => exact moved_fromOnWire t k q
  case suspect => exact moved_fromSuspect r t k q
  case dewired => split <;> [exact moved_toState q _; exact moved_refl q]
  case lowered => exact moved_refl q

/-- The first evaluation ends the first-evaluation mark (R31). -/
theorem transition_evaluates (r : Record) (t : StationTime) (ok : Bool) (angle : Option Nat) (k : Terms) {q : Pole}
    (h : q.state = .notEvaluated) : (transition r t ok angle k q).firstMark = false := by
  unfold transition
  rw [h]
  dsimp only
  split_ifs
  · rfl
  · rfl
  · unfold carriedState; dsimp only; split <;> rfl
  · unfold firstState; dsimp only; split_ifs <;> rfl

/-- The pole as it enters its transition: its angle taken and its capture emptied (R23, R25). -/
def spanned (edges : List AngleEdge) (q : Pole) : Pole := keepAngle (spanAngle q edges) (takeEdges edges q)

/-- Taking the span's edges changes the fields of the angle input only, and empties the capture. -/
theorem spanned_keeps (edges : List AngleEdge) (q : Pole) :
    (spanned edges q).state = q.state ∧ (spanned edges q).firstMark = q.firstMark ∧ (spanned edges q).carried = q.carried ∧
    (spanned edges q).baseline = q.baseline ∧ (spanned edges q).timedOut = q.timedOut ∧
    (spanned edges q).dewiredAt = q.dewiredAt ∧ (spanned edges q).capture = none := by
  unfold spanned keepAngle
  rw [takeEdges_eq]
  split <;> exact ⟨rfl, rfl, rfl, rfl, rfl, rfl, rfl⟩

/-- A pole after its transition, before the retrieve output and its timeout are settled (R33 to R35). -/
def stepped (r : Record) (t : StationTime) (ok : Bool) (edges : List AngleEdge) (q : Pole) : Pole :=
  transition r t ok (spanAngle q edges) (termsOf r q (spanAngle q edges)) (spanned edges q)

theorem evalPole_eq (r : Record) (t : StationTime) (ok : Bool) (edges : List AngleEdge) (q : Pole) :
    evalPole r t ok edges q = settleTimeout r t (settleRetrieve (stepped r t ok edges q)) := rfl

/-- The timeout sets its flag and nothing else. -/
theorem settleTimeout_cases (r : Record) (t : StationTime) (q : Pole) :
    settleTimeout r t q = q ∨ (q.state = .dewired ∧ settleTimeout r t q = { q with timedOut := true }) := by
  unfold settleTimeout
  split
  · next h => exact .inr ⟨h.1, rfl⟩
  · exact .inl rfl

/-- A pole that times out at an evaluation is DEWIRED (R38). -/
theorem evalPole_timesOut {r : Record} {t : StationTime} {ok : Bool} {edges : List AngleEdge} {q : Pole}
    (before : q.timedOut = false) (after : (evalPole r t ok edges q).timedOut = true) :
    (evalPole r t ok edges q).state = .dewired := by
  rw [evalPole_eq] at after ⊢
  obtain ⟨-, -, -, -, kept, -⟩ := spanned_keeps edges q
  obtain ⟨-, -, flag, -⟩ := moved_transition r t ok (spanAngle q edges) (termsOf r q (spanAngle q edges)) (spanned edges q)
  have off : (settleRetrieve (stepped r t ok edges q)).timedOut = false := by
    rcases flag with h | h
    · exact h.trans (kept.trans before)
    · exact h
  rcases settleTimeout_cases r t (settleRetrieve (stepped r t ok edges q)) with h | ⟨h, e⟩
  · rw [h, off] at after
    cases after
  · rw [e]
    exact h

/-- A pole that is still DEWIRED at its retrieve timeout times out, with its output asserted (R37, R38). -/
theorem evalPole_dewired {r : Record} {t t0 : StationTime} {ok : Bool} {edges : List AngleEdge} {q : Pole}
    (state : q.state = .dewired) (flag : q.timedOut = false) (since : q.dewiredAt = some t0)
    (ran : r.retrieveTimeout ≤ (t - t0).toNat) (watched : spanAngle q edges = none → q.baseline ≠ 0)
    (up : ∀ a, spanAngle q edges = some a → r.adown < a) :
    (evalPole r t ok edges q).state = .dewired ∧ (evalPole r t ok edges q).timedOut = true
      ∧ (evalPole r t ok edges q).retrieve = true := by
  obtain ⟨state', -, -, baseline', flag', since', -⟩ := spanned_keeps edges q
  have notDown : (termsOf r q (spanAngle q edges)).down = false := by
    cases angle : spanAngle q edges with
    | none => rfl
    | some a => simpa [termsOf] using up a angle
  have stays : stepped r t ok edges q = spanned edges q := by
    unfold stepped transition
    rw [if_neg]
    · rw [state', state]
      dsimp only
      rw [notDown]
      rfl
    · cases angle : spanAngle q edges with
      | none => simpa [baseline'] using watched angle
      | some a => simp
  have times : settleTimeout r t (settleRetrieve (spanned edges q)) =
      { settleRetrieve (spanned edges q) with timedOut := true } := by
    unfold settleTimeout
    exact if_pos ⟨state'.trans state, flag'.trans flag, expired_of (since'.trans since) ran⟩
  rw [evalPole_eq, stays, times]
  exact ⟨state'.trans state, rfl, by simp [settleRetrieve, state', state]⟩

end Sys2Proof.Machine
end

section
/-!
The hand-offs of stage 5 (R39 to R42): each of the three active-alarm records takes one step, by a raise, a widening or a clear of
its own alarm, or it stands and the alarms with it.
-/
namespace Sys2Proof.Machine

/-! ### Stages 1 to 4 -/

theorem polesStage_poles (i : WindowInput) (s : State) :
    (polesStage i s).poles = { s.poles with
      p := evalPole (record s) (now s) s.supply.voltageOk i.angleP s.poles.p
      n := evalPole (record s) (now s) s.supply.voltageOk i.angleN s.poles.n } := by
  unfold polesStage
  dsimp only
  split <;> split <;> rfl

theorem polesStage_pending (i : WindowInput) (s : State) : PendingGrows s (polesStage i s) := by
  unfold polesStage
  dsimp only
  split <;> split
  · exact PendingGrows.trans (.of_sensor (t := raiseSensor .angleP _) rfl) (.of_sensor rfl)
  · exact .of_sensor rfl
  · exact .of_sensor rfl
  · exact .of_port rfl

/-- The poles that entered DEWIRED at an evaluation. -/
def enteredAt (i : WindowInput) (s : State) : PoleSet := enteredSet s.poles (polesStage i s).poles

/-- The poles that timed out at an evaluation. -/
def timedAt (i : WindowInput) (s : State) : PoleSet := timedSet s.poles (polesStage i s).poles

/-- Every pole of the set is DEWIRED. -/
def AllDewired (ps : PoleSet) (w : PoleWatch) : Prop :=
  (hasP ps = true → w.p.state = .dewired) ∧ (hasN ps = true → w.n.state = .dewired)

theorem enteredAt_dewired (i : WindowInput) (s : State) : AllDewired (enteredAt i s) (polesStage i s).poles := by
  unfold AllDewired enteredAt enteredSet
  rw [poleSet_hasP, poleSet_hasN]
  simp

theorem timedAt_dewired (i : WindowInput) (s : State) : AllDewired (timedAt i s) (polesStage i s).poles := by
  unfold AllDewired timedAt timedSet
  rw [poleSet_hasP, poleSet_hasN, polesStage_poles]
  simp only [Bool.and_eq_true, Bool.not_eq_true', and_imp]
  exact ⟨evalPole_timesOut, evalPole_timesOut⟩

/-- With both poles ON_WIRE none of a set of DEWIRED poles is left. -/
theorem AllDewired.none_of_onWire {ps : PoleSet} {s : State} (h : AllDewired ps s.poles) (wire : bothOnWire s = true) :
    ps = .none := by
  obtain ⟨p, n⟩ : s.poles.p.state = .onWire ∧ s.poles.n.state = .onWire := by simpa [bothOnWire] using wire
  refine eq_none_of_lacks ?_ ?_ <;> by_contra has
  · have := h.1 (by simpa using has)
    rw [p] at this
    cases this
  · have := h.2 (by simpa using has)
    rw [n] at this
    cases this

/-! ### One step of an active-alarm record -/

/-- The two states hold the same alarms and the same line block. -/
def SameAlarms (s t : State) : Prop := t.alarms = s.alarms ∧ t.line = s.line

/-- What the hand-offs of one kind make of its record and of the alarms, when the poles `acting` entered the kind's condition. -/
inductive RecordStep (k : AlarmKind) (acting : PoleSet) (before after : Option ActiveAlarm) (s t : State) : Prop
  | stands : before.map (fun a => (a.number, a.poles)) = after.map (fun a => (a.number, a.poles)) → SameAlarms s t →
      RecordStep k acting before after s t
  | raised : acting ≠ .none → before = none → after = some ⟨raiseNumber (makeOwnRoom s), acting, false, false⟩ →
      SameAlarms (raiseOwn k acting s) t → RecordStep k acting before after s t
  | widened (a b : ActiveAlarm) : acting ≠ .none → before = some a → after = some b → b.poles = .both → a.poles ≠ .both →
      SameAlarms (widenOwn a.number s) t → RecordStep k acting before after s t
  | cleared (a : ActiveAlarm) : before = some a → after = none → SameAlarms (clearOwn a.number s) t →
      RecordStep k acting before after s t

/-- A record that is found and left alike has stood. -/
theorem RecordStep.stood {k : AlarmKind} {acting : PoleSet} {a : Option ActiveAlarm} {s t : State}
    (h : RecordStep k acting a a s t) : SameAlarms s t := by
  cases h with
  | stands _ same => exact same
  | raised _ none some _ => rw [none] at some; cases some
  | widened x y _ before after both not _ =>
    rw [before] at after
    cases after
    exact absurd both not
  | cleared x some none _ => rw [some] at none; cases none

/-! ### DEWIRE (R40) -/

/-- What R40 makes of the DEWIRE record, but for the clear. -/
def dewireWith (entered : PoleSet) (n : Byte) : Option ActiveAlarm → Option ActiveAlarm
  | none => if entered = .none then none else some ⟨n, entered, false, false⟩
  | some a => some { a with poles := if entered = .none ∨ unionSet a.poles entered = a.poles then a.poles else .both }

theorem dewireEntry_poles (entered : PoleSet) (s : State) :
    (dewireEntry entered s).poles =
      { s.poles with dewire := dewireWith entered (raiseNumber (makeOwnRoom s)) s.poles.dewire } := by
  unfold dewireEntry dewireWith
  by_cases none : entered = .none
  · cases h : s.poles.dewire <;> simp [none, ← h]
  · cases h : s.poles.dewire with
    | none => simp [none, withDewire]
    | some a =>
      by_cases same : unionSet a.poles entered = a.poles
      · simp [none, same, ← h]
      · simp [none, same, withDewire]

theorem dewireClear_none {s : State} (h : s.poles.dewire = none) : dewireClear s = s := by simp [dewireClear, h]

theorem dewireClear_kept {s : State} {a : ActiveAlarm} (h : s.poles.dewire = some a)
    (off : allOf a.poles (s.poles.p.state == .onWire) (s.poles.n.state == .onWire) = false) : dewireClear s = s := by
  simp [dewireClear, h, off]

theorem dewireClear_clears {s : State} {a : ActiveAlarm} (h : s.poles.dewire = some a)
    (on : allOf a.poles (s.poles.p.state == .onWire) (s.poles.n.state == .onWire) = true) :
    dewireClear s = withDewire none (clearOwn a.number s) := by
  simp [dewireClear, h, on]

theorem dewireClear_poles (s : State) :
    (dewireClear s).poles = { s.poles with
      dewire := s.poles.dewire.filter fun a => !allOf a.poles (s.poles.p.state == .onWire) (s.poles.n.state == .onWire) } := by
  cases h : s.poles.dewire with
  | none => rw [dewireClear_none h, Option.filter_none, ← h]
  | some a =>
    cases on : allOf a.poles (s.poles.p.state == .onWire) (s.poles.n.state == .onWire) with
    | false => rw [dewireClear_kept h on, Option.filter_some_pos (by simp [on]), ← h]
    | true =>
      rw [dewireClear_clears h on, Option.filter_some_neg (by simp [on])]
      simp [withDewire]

/-- A raise of DEWIRE or a widening is not cleared in the same evaluation: a pole of it is DEWIRED. -/
theorem not_allOf_onWire {ps entered : PoleSet} {w : PoleWatch} (some : entered ≠ .none) (dewired : AllDewired entered w)
    (p : hasP entered = true → hasP ps = true) (n : hasN entered = true → hasN ps = true) :
    allOf ps (w.p.state == .onWire) (w.n.state == .onWire) = false := by
  rw [← Bool.not_eq_true, allOf_eq_true]
  rintro ⟨onP, onN⟩
  rcases hasP_or_hasN some with h | h
  · have := onP (p h)
    rw [dewired.1 h] at this
    cases this
  · have := onN (n h)
    rw [dewired.2 h] at this
    cases this

/-- The hand-offs of DEWIRE. -/
def dewireStage (entered : PoleSet) (s : State) : State := dewireClear (dewireEntry entered s)

theorem dewireStage_poles (entered : PoleSet) (s : State) :
    (dewireStage entered s).poles = { s.poles with
      dewire := (dewireWith entered (raiseNumber (makeOwnRoom s)) s.poles.dewire).filter fun a =>
        !allOf a.poles (s.poles.p.state == .onWire) (s.poles.n.state == .onWire) } := by
  rw [dewireStage, dewireClear_poles, dewireEntry_poles]

theorem dewireStage_step {entered : PoleSet} {s : State} (dewired : AllDewired entered s.poles) :
    RecordStep .dewire entered s.poles.dewire (dewireStage entered s).poles.dewire s (dewireStage entered s) := by
  unfold dewireStage dewireEntry
  by_cases none : entered = .none
  · rw [if_pos none]
    cases found : s.poles.dewire with
    | none =>
      rw [dewireClear_none found, found]
      exact .stands rfl ⟨rfl, rfl⟩
    | some a =>
      cases on : allOf a.poles (s.poles.p.state == .onWire) (s.poles.n.state == .onWire) with
      | false =>
        rw [dewireClear_kept found on, found]
        exact .stands rfl ⟨rfl, rfl⟩
      | true =>
        rw [dewireClear_clears found on]
        exact .cleared a rfl rfl ⟨rfl, rfl⟩
  · rw [if_neg none]
    cases found : s.poles.dewire with
    | none =>
      dsimp only
      rw [dewireClear_kept (a := ⟨raiseNumber (makeOwnRoom s), entered, false, false⟩) rfl
        (by simpa [withDewire] using not_allOf_onWire none dewired id id)]
      exact .raised none rfl rfl ⟨rfl, rfl⟩
    | some a =>
      dsimp only
      by_cases union : unionSet a.poles entered = a.poles
      · rw [if_pos union, dewireClear_kept found (not_allOf_onWire none dewired (hasP_of_union union) (hasN_of_union union)), found]
        exact .stands rfl ⟨rfl, rfl⟩
      · rw [if_neg union, dewireClear_kept (a := { a with poles := .both }) rfl
          (by simpa [withDewire] using not_allOf_onWire (ps := .both) none dewired (fun _ => rfl) (fun _ => rfl))]
        refine .widened a _ none rfl rfl rfl (fun both => union ?_) ⟨rfl, rfl⟩
        rw [both]
        cases entered <;> rfl

end Sys2Proof.Machine
end

section
/-!
The hand-offs of RETRIEVE_FAIL and LINE_DEAD (R41, R42), and those of all three kinds in their order.
-/
namespace Sys2Proof.Machine

/-! ### RETRIEVE_FAIL (R41) -/

/-- What the poles that timed out make of the RETRIEVE_FAIL record (R41). -/
def failWith (timed : PoleSet) (n : Byte) : Option ActiveAlarm → Option ActiveAlarm
  | none => if timed = .none then none else some ⟨n, timed, false, false⟩
  | some a => some
      { a with
        poles := if timed = .none ∨ unionSet a.poles timed = a.poles then a.poles else .both
        reachedP := a.reachedP && !hasP timed
        reachedN := a.reachedN && !hasN timed }

/-- A record with the reached marks of the poles that are now down. -/
def withReached (downP downN : Bool) (a : ActiveAlarm) : ActiveAlarm :=
  { a with reachedP := a.reachedP || (hasP a.poles && downP), reachedN := a.reachedN || (hasN a.poles && downN) }

/-- Every pole of the record has its reached mark. -/
def allReached (a : ActiveAlarm) : Bool := allOf a.poles a.reachedP a.reachedN

theorem retrieveFailEntry_poles (timed : PoleSet) (s : State) :
    (retrieveFailEntry timed s).poles =
      { s.poles with retrieveFail := failWith timed (raiseNumber (makeOwnRoom s)) s.poles.retrieveFail } := by
  unfold retrieveFailEntry failWith
  by_cases none : timed = .none
  · have lacks : hasP .none = false ∧ hasN .none = false := ⟨rfl, rfl⟩
    cases h : s.poles.retrieveFail <;> simp [none, lacks, ← h]
  · cases h : s.poles.retrieveFail with
    | none => simp [none, withRetrieveFail]
    | some a =>
      by_cases same : unionSet a.poles timed = a.poles
      · simp [none, same, withRetrieveFail]
      · simp [none, same, withRetrieveFail]

theorem retrieveFailReached_none {dp dn : Bool} {s : State} (h : s.poles.retrieveFail = none) :
    retrieveFailReached dp dn s = s := by simp [retrieveFailReached, h]

theorem retrieveFailReached_kept {dp dn : Bool} {s : State} {a : ActiveAlarm} (h : s.poles.retrieveFail = some a)
    (off : allReached (withReached dp dn a) = false) :
    retrieveFailReached dp dn s = withRetrieveFail (some (withReached dp dn a)) s := by
  unfold allReached withReached at off
  simp only [retrieveFailReached, h, off]
  rfl

theorem retrieveFailReached_clears {dp dn : Bool} {s : State} {a : ActiveAlarm} (h : s.poles.retrieveFail = some a)
    (on : allReached (withReached dp dn a) = true) :
    retrieveFailReached dp dn s = withRetrieveFail none (clearOwn a.number s) := by
  unfold allReached withReached at on
  simp only [retrieveFailReached, h, on]
  rfl

theorem retrieveFailReached_poles (dp dn : Bool) (s : State) :
    (retrieveFailReached dp dn s).poles = { s.poles with
      retrieveFail := (s.poles.retrieveFail.map (withReached dp dn)).filter fun a => !allReached a } := by
  cases h : s.poles.retrieveFail with
  | none => rw [retrieveFailReached_none h, Option.map_none, Option.filter_none, ← h]
  | some a =>
    rw [Option.map_some]
    cases on : allReached (withReached dp dn a) with
    | false => rw [retrieveFailReached_kept h on, Option.filter_some_pos (by simp [on])]; rfl
    | true =>
      rw [retrieveFailReached_clears h on, Option.filter_some_neg (by simp [on])]
      simp [withRetrieveFail]

/-- A DEWIRED pole has reached neither LOWERED nor STOWED. -/
theorem AllDewired.not_down {ps : PoleSet} {w : PoleWatch} (h : AllDewired ps w) :
    (hasP ps = true → isDownState w.p = false) ∧ (hasN ps = true → isDownState w.n = false) :=
  ⟨fun p => by simp [isDownState, h.1 p], fun n => by simp [isDownState, h.2 n]⟩

/-- A record that a pole has timed out for is not cleared in the same evaluation: that pole is DEWIRED and its mark is clear. -/
theorem not_allReached {timed ps : PoleSet} {w : PoleWatch} (n : Byte) (markP markN : Bool) (some : timed ≠ .none)
    (dewired : AllDewired timed w) (p : hasP timed = true → hasP ps = true) (q : hasN timed = true → hasN ps = true) :
    allReached (withReached (isDownState w.p) (isDownState w.n) ⟨n, ps, markP && !hasP timed, markN && !hasN timed⟩) = false := by
  rw [← Bool.not_eq_true, allReached, allOf_eq_true]
  rintro ⟨onP, onN⟩
  rcases hasP_or_hasN some with h | h
  · have := onP (p h)
    simp [withReached, h, dewired.not_down.1 h] at this
  · have := onN (q h)
    simp [withReached, h, dewired.not_down.2 h] at this

/-- The hand-offs of RETRIEVE_FAIL, with which poles are down. -/
def retrieveFailStage (timed : PoleSet) (s : State) : State :=
  retrieveFailReached (isDownState s.poles.p) (isDownState s.poles.n) (retrieveFailEntry timed s)

theorem retrieveFailStage_poles (timed : PoleSet) (s : State) :
    (retrieveFailStage timed s).poles = { s.poles with
      retrieveFail := ((failWith timed (raiseNumber (makeOwnRoom s)) s.poles.retrieveFail).map
        (withReached (isDownState s.poles.p) (isDownState s.poles.n))).filter fun a => !allReached a } := by
  rw [retrieveFailStage, retrieveFailReached_poles, retrieveFailEntry_poles]

theorem retrieveFailStage_step {timed : PoleSet} {s : State} (dewired : AllDewired timed s.poles) :
    RecordStep .retrieveFail timed s.poles.retrieveFail (retrieveFailStage timed s).poles.retrieveFail s
      (retrieveFailStage timed s) := by
  unfold retrieveFailStage retrieveFailEntry
  by_cases none : timed = .none
  · rw [if_pos none]
    cases found : s.poles.retrieveFail with
    | none =>
      rw [retrieveFailReached_none found, found]
      exact .stands rfl ⟨rfl, rfl⟩
    | some a =>
      cases on : allReached (withReached (isDownState s.poles.p) (isDownState s.poles.n) a) with
      | false =>
        rw [retrieveFailReached_kept found on]
        exact .stands rfl ⟨rfl, rfl⟩
      | true =>
        rw [retrieveFailReached_clears found on]
        exact .cleared a rfl rfl ⟨rfl, rfl⟩
  · rw [if_neg none]
    cases found : s.poles.retrieveFail with
    | none =>
      dsimp only
      have off := not_allReached (ps := timed) (raiseNumber (makeOwnRoom s)) false false none dewired id id
      rw [retrieveFailReached_kept (a := ⟨raiseNumber (makeOwnRoom s), timed, false, false⟩) rfl (by simpa using off)]
      have fresh : withReached (isDownState s.poles.p) (isDownState s.poles.n) ⟨raiseNumber (makeOwnRoom s), timed, false, false⟩ =
          ⟨raiseNumber (makeOwnRoom s), timed, false, false⟩ := by
        have down := dewired.not_down
        cases hp : hasP timed <;> cases hn : hasN timed <;> simp_all [withReached]
      rw [fresh]
      exact .raised none rfl rfl ⟨rfl, rfl⟩
    | some a =>
      dsimp only
      by_cases union : unionSet a.poles timed = a.poles
      · rw [if_pos union, retrieveFailReached_kept rfl (by
          simpa [withRetrieveFail] using
            not_allReached a.number a.reachedP a.reachedN none dewired (hasP_of_union union) (hasN_of_union union))]
        exact .stands rfl ⟨rfl, rfl⟩
      · rw [if_neg union, retrieveFailReached_kept rfl (by
          simpa [withRetrieveFail] using
            not_allReached (ps := .both) a.number a.reachedP a.reachedN none dewired (fun _ => rfl) (fun _ => rfl))]
        refine .widened a _ none rfl rfl rfl (fun both => union ?_) ⟨rfl, rfl⟩
        rw [both]
        cases timed <;> rfl

/-! ### LINE_DEAD (R42) -/

theorem lineDeadClear_poles (s : State) :
    (lineDeadClear s).poles = { s.poles with lineDead := if s.supply.voltageOk = true then none else s.poles.lineDead } := by
  unfold lineDeadClear
  cases h : s.poles.lineDead with
  | none => simp [← h]
  | some a => cases ok : s.supply.voltageOk <;> simp [withLineDead, ← h]

theorem lineDeadClear_step (s : State) :
    RecordStep .lineDead .none s.poles.lineDead (lineDeadClear s).poles.lineDead s (lineDeadClear s) := by
  unfold lineDeadClear
  cases found : s.poles.lineDead with
  | none =>
    dsimp only
    rw [found]
    exact .stands rfl ⟨rfl, rfl⟩
  | some a =>
    cases ok : s.supply.voltageOk with
    | false =>
      simp only [Bool.false_eq_true, if_false]
      rw [found]
      exact .stands rfl ⟨rfl, rfl⟩
    | true =>
      simp only [if_true]
      exact .cleared a rfl rfl ⟨rfl, rfl⟩

/-! ### Stage 5 -/

theorem handOffs_eq (entered timed : PoleSet) (s : State) :
    handOffs entered timed s = lineDeadClear (retrieveFailStage timed (dewireStage entered s)) := by
  simp [handOffs, retrieveFailStage, dewireStage]

/-- A clear takes supply alarms away and gives none. -/
theorem clearOwn_holds {n : Byte} {s : State} (h : holdsSupplyAlarm (clearOwn n s).alarms.table = true) :
    holdsSupplyAlarm s.alarms.table = true := by
  unfold clearOwn at h
  split at h
  · exact h
  · next e found =>
    split at h
    · simp only [changeOwn, noticeFor_alarms, mapAlarm, State.withAlarms_alarms, holdsSupplyAlarm, List.any_map,
        List.any_eq_true] at h ⊢
      obtain ⟨x, mem, supply⟩ := h
      refine ⟨x, mem, ?_⟩
      dsimp only [Function.comp] at supply
      split at supply
      · simp [isSupplyAlarm] at supply
      · exact supply
    · simp only [closeOwn, noticeFor_alarms, closeEntry, State.withAlarms_alarms, holdsSupplyAlarm, List.any_eq_true] at h ⊢
      obtain ⟨x, mem, supply⟩ := h
      exact ⟨x, List.mem_of_mem_filter mem, supply⟩
    · exact h

/-- Where no pole enters the condition of a kind, its step gives no supply alarm. -/
theorem RecordStep.holds {k : AlarmKind} {before after : Option ActiveAlarm} {s t : State}
    (h : RecordStep k .none before after s t) (held : holdsSupplyAlarm t.alarms.table = true) :
    holdsSupplyAlarm s.alarms.table = true := by
  cases h with
  | stands _ same => rwa [same.1] at held
  | raised no => exact absurd rfl no
  | widened _ _ no => exact absurd rfl no
  | cleared _ _ _ same =>
    rw [same.1] at held
    exact clearOwn_holds held

end Sys2Proof.Machine
end

section
/-!
A window completion (R1 to R8, R30, R43, R44): the measures of the window, the stages of a COL station's evaluation one after the
other, and what they make of the supply view.
-/
namespace Sys2Proof.Machine

/-! ### The measures of a window (R1 to R6) -/

/-- The run of a window of this voltage (R5). -/
def windowRun (s : State) (v : Nat) : Nat :=
  if (record s).vReturn ≤ v then min (s.supply.run + 1) (confirmCount (record s)) else 0

theorem measure_supply (edges : Nat) (s : State) :
    (measure edges s).supply = { s.supply with
      count := 0
      windowStart := s.supply.windowStart.map (later · 10)
      volts := appendVolts s.supply.volts (windowVoltage edges s)
      run := windowRun s (windowVoltage edges s)
      voltageOk := windowRun s (windowVoltage edges s) == confirmCount (record s)
      hadPulses := windowCount edges s != 0 } := by
  unfold measure
  dsimp only
  split <;> rfl

theorem measure_port (edges : Nat) (s : State) :
    (measure edges s).port =
      if windowCount edges s = 0 ∧ s.supply.hadPulses = true then raiseSensorIn s.port .voltage else s.port := by
  unfold measure
  dsimp only
  by_cases h : windowCount edges s = 0 ∧ s.supply.hadPulses = true
  · rw [if_pos h, if_pos (by simpa using h)]
    rfl
  · rw [if_neg h, if_neg (by simpa using h)]
    rfl

theorem appendVolts_eq (volts : List Nat) (v : Nat) : appendVolts volts v = (volts ++ [v]).drop (volts.length - 3) := by
  simp [appendVolts]

/-- The window at which voltage ok returns. -/
def returnsOk (edges : Nat) (s : State) : Bool := (measure edges s).supply.voltageOk && !s.supply.voltageOk

/-- A loss in the window that ends (R6). -/
def lossIn (edges : Nat) (s : State) : Bool := isLoss (record s) (windowVoltage edges s)

theorem completeWindow_other {i : WindowInput} {s : State} (due : windowDue s = true) (col : isCol s = false) :
    completeWindow i s = viewAfterWindow (lossIn i.edges s) (returnsOk i.edges s) (measure i.edges s) := by
  simp only [completeWindow, due, col, if_true, Bool.false_eq_true, if_false]
  rfl

theorem completeWindow_col {i : WindowInput} {s : State} (due : windowDue s = true) (col : isCol s = true) :
    completeWindow i s = viewAfterWindow (lossIn i.edges s) (returnsOk i.edges s)
      (evaluate i (lossIn i.edges s) (returnsOk i.edges s) s.supply.view (measure i.edges s)) := by
  simp only [completeWindow, due, col, if_true]
  rfl

/-- The fourth step of R8: entry to GAP on a loss, the exit examined when voltage ok returns, or nothing. -/
theorem viewAfterWindow_cases (loss became : Bool) (s : State) :
    (loss = true ∧ (s.supply.view = .onLine ∨ s.supply.view = .restoring) ∧ viewAfterWindow loss became s = enterGap s)
      ∨ (¬(loss = true ∧ (s.supply.view = .onLine ∨ s.supply.view = .restoring)) ∧ became = true
          ∧ viewAfterWindow loss became s = examineExit s)
      ∨ (¬(loss = true ∧ (s.supply.view = .onLine ∨ s.supply.view = .restoring)) ∧ became = false
          ∧ viewAfterWindow loss became s = s) := by
  unfold viewAfterWindow
  by_cases gap : loss = true ∧ (s.supply.view = .onLine ∨ s.supply.view = .restoring)
  · exact .inl ⟨gap.1, gap.2, if_pos gap⟩
  · rw [if_neg gap]
    cases became
    · exact .inr (.inr ⟨gap, rfl, rfl⟩)
    · exact .inr (.inl ⟨gap, rfl, rfl⟩)

theorem viewAfterWindow_pending (loss became : Bool) (s : State) : PendingGrows s (viewAfterWindow loss became s) := by
  rcases viewAfterWindow_cases loss became s with ⟨-, -, h⟩ | ⟨-, -, h⟩ | ⟨-, -, h⟩ <;> rw [h]
  · exact .of_raised (enterGap_spec s).2.1
  · exact examineExit_pending s
  · exact .of_port rfl

/-! ### Stage 5 of an evaluation -/

/-- The station after the changes of stage 5, before the event they make up ends. -/
def evaluated (i : WindowInput) (s : State) : State :=
  closingInOrder (handOffs (enteredAt i s) (timedAt i s)) (polesStage i s)

theorem evaluate_eq (i : WindowInput) (loss became : Bool) (prior : View) (s : State) :
    evaluate i loss became prior s =
      gapStage loss became (stageRaises (enteredAt i s) (timedAt i s) (polesStage i s).poles) prior
        (endAlarmEvent s.alarms.table (evaluated i s)) := by
  have table : (polesStage i s).alarms.table = s.alarms.table := by simp
  rw [← table]
  rfl

@[simp] theorem evaluated_keeps (i : WindowInput) (s : State) :
    (evaluated i s).clock = s.clock ∧ (evaluated i s).loader = s.loader ∧ (evaluated i s).supply = s.supply ∧
    (evaluated i s).peers = s.peers ∧ (evaluated i s).share = s.share ∧ (evaluated i s).shed = s.shed ∧
    (evaluated i s).port = (polesStage i s).port ∧ (evaluated i s).line.gapPart = s.line.gapPart ∧
    (evaluated i s).poles.openGap = s.poles.openGap ∧ (evaluated i s).poles.gapSerial = s.poles.gapSerial ∧
    (evaluated i s).poles.p = (polesStage i s).poles.p ∧ (evaluated i s).poles.n = (polesStage i s).poles.n := by
  simp [evaluated, closingInOrder, handOffs]

/-- The three records of an evaluation, and the station between their steps: from the poles' stage with an empty list of new history
records to the end of the hand-offs. -/
theorem evaluated_steps (i : WindowInput) (s : State) :
    ∃ x y u : State,
      let start := (polesStage i s).withAlarms { (polesStage i s).alarms with history := [] }
      let t := evaluated i s
      RecordStep .dewire (enteredAt i s) s.poles.dewire t.poles.dewire start x
        ∧ RecordStep .retrieveFail (timedAt i s) s.poles.retrieveFail t.poles.retrieveFail x y
        ∧ RecordStep .lineDead .none s.poles.lineDead t.poles.lineDead y u
        ∧ x.loader = s.loader ∧ y.loader = s.loader ∧ x.clock = s.clock ∧ y.clock = s.clock
        ∧ t = u.withAlarms { u.alarms with
            history := (tableOrder s.alarms.table u.alarms.history ++ s.alarms.history).take 16 } := by
  obtain ⟨start, hstart⟩ : ∃ start, start = (polesStage i s).withAlarms { (polesStage i s).alarms with history := [] } := ⟨_, rfl⟩
  have poles : start.poles = (polesStage i s).poles := by rw [hstart]; rfl
  have result : evaluated i s =
      (lineDeadClear (retrieveFailStage (timedAt i s) (dewireStage (enteredAt i s) start))).withAlarms
        { (lineDeadClear (retrieveFailStage (timedAt i s) (dewireStage (enteredAt i s) start))).alarms with
          history := (tableOrder s.alarms.table
            (lineDeadClear (retrieveFailStage (timedAt i s) (dewireStage (enteredAt i s) start))).alarms.history
              ++ s.alarms.history).take 16 } := by
    rw [hstart, ← handOffs_eq]
    have alarms : (polesStage i s).alarms = s.alarms := by simp
    unfold evaluated closingInOrder
    dsimp only
    rw [alarms]
  obtain ⟨x, hx⟩ : ∃ x, x = dewireStage (enteredAt i s) start := ⟨_, rfl⟩
  have xpoles : x.poles = _ := hx ▸ dewireStage_poles (enteredAt i s) start
  obtain ⟨y, hy⟩ : ∃ y, y = retrieveFailStage (timedAt i s) x := ⟨_, rfl⟩
  have ypoles : y.poles = _ := hy ▸ retrieveFailStage_poles (timedAt i s) x
  have upoles := lineDeadClear_poles y
  rw [← hx, ← hy] at result
  have dewired : AllDewired (enteredAt i s) start.poles := poles ▸ enteredAt_dewired i s
  have timed : AllDewired (timedAt i s) x.poles := by
    have := timedAt_dewired i s
    rw [xpoles, poles]
    exact this
  have first := dewireStage_step dewired
  have second := retrieveFailStage_step timed
  have third := lineDeadClear_step y
  rw [← hx] at first
  rw [← hy] at second
  have same : start.poles.dewire = s.poles.dewire ∧ x.poles.retrieveFail = s.poles.retrieveFail
      ∧ y.poles.lineDead = s.poles.lineDead := by
    rw [ypoles, xpoles, poles, polesStage_poles]
    exact ⟨rfl, rfl, rfl⟩
  have left : (evaluated i s).poles.dewire = x.poles.dewire ∧ (evaluated i s).poles.retrieveFail = y.poles.retrieveFail
      ∧ (evaluated i s).poles.lineDead = (lineDeadClear y).poles.lineDead := by
    rw [result, State.withAlarms_poles, upoles, ypoles]
    exact ⟨rfl, rfl, rfl⟩
  refine ⟨x, y, lineDeadClear y, ?_, ?_, ?_, ?_, ?_, ?_, ?_, result⟩
  · rw [left.1, ← same.1, ← hstart]
    exact first
  · rw [left.2.1, ← same.2.1]
    exact second
  · rw [left.2.2, ← same.2.2]
    exact third
  all_goals simp [hy, hx, hstart, retrieveFailStage, dewireStage]

/-- Without a pole that enters DEWIRED or times out an evaluation gives no supply alarm. -/
theorem evaluated_holds {i : WindowInput} {s : State} (wire : bothOnWire (evaluated i s) = true)
    (held : holdsSupplyAlarm (evaluated i s).alarms.table = true) : holdsSupplyAlarm s.alarms.table = true := by
  have onWire : bothOnWire (polesStage i s) = true := by simpa [bothOnWire] using wire
  obtain ⟨x, y, u, first, second, third, -, -, -, -, result⟩ := evaluated_steps i s
  rw [(enteredAt_dewired i s).none_of_onWire onWire] at first
  rw [(timedAt_dewired i s).none_of_onWire onWire] at second
  have table : (evaluated i s).alarms.table = u.alarms.table := by rw [result]; rfl
  rw [table] at held
  have := first.holds (second.holds (third.holds held))
  simpa using this

end Sys2Proof.Machine
end

section
/-!
The view and the GAP notices of a window completion (R14, R15, R17, R18, R43, R44).
-/
namespace Sys2Proof.Machine

/-! ### Stage 6 (R43, R44) -/

theorem handGap_empty {c : GapContent} {s : State} (empty : s.line.gapPart = none) (accepts : acceptsNotices s = true) :
    (handGap c s).line.gapPart = some ⟨c, 0, false, false⟩ := by
  simp [handGap, accepts, joinGap, empty]

/-- With a pole off the wire no gap record is left open and nothing is handed. -/
theorem gapStage_offWire {loss became raised : Bool} {prior : View} {s : State} (wire : bothOnWire s = false) :
    (gapStage loss became raised prior s).poles = { s.poles with openGap := none }
      ∧ (gapStage loss became raised prior s).line = s.line := by
  unfold gapStage
  cases gap : s.poles.openGap with
  | none => simp [wire, ← gap]
  | some g => simp [wire]

/-- A loss with both poles on the wire, without a raise and without an open record, opens one and hands GAP_START. -/
theorem gapStage_starts {became raised : Bool} {prior : View} {s : State} (view : prior = .onLine ∨ prior = .restoring)
    (wire : bothOnWire s = true) (quiet : raised = false) (shut : s.poles.openGap = none) :
    gapStage true became raised prior s = handGap ⟨true, s.poles.gapSerial⟩
      (s.withPoles { s.poles with openGap := some s.poles.gapSerial, gapSerial := s.poles.gapSerial + 1 }) := by
  have prior' : (prior == .onLine || prior == .restoring) = true := by simpa using view
  simp [gapStage, shut, prior', wire, quiet]

/-- An open record ends with voltage ok returning, and GAP_END is handed. -/
theorem gapStage_ends {loss raised : Bool} {prior : View} {g : Byte} {s : State} (wire : bothOnWire s = true)
    (openGap : s.poles.openGap = some g) :
    gapStage loss true raised prior s = handGap ⟨false, g⟩ (s.withPoles { s.poles with openGap := none }) := by
  simp [gapStage, openGap, wire]

/-! ### Supply Watch through an evaluation -/

/-- The two states have the same Supply Watch, Shed Sequencer and grant, at one instant of one station. -/
def SameWatch (s t : State) : Prop :=
  t.clock = s.clock ∧ t.loader = s.loader ∧ t.supply = s.supply ∧ t.shed = s.shed ∧ t.share = s.share ∧ t.peers = s.peers

theorem SameWatch.trans {s t u : State} (h : SameWatch s t) (h' : SameWatch t u) : SameWatch s u := by
  obtain ⟨a, b, c, d, e, f⟩ := h
  obtain ⟨a', b', c', d', e', f'⟩ := h'
  exact ⟨a'.trans a, b'.trans b, c'.trans c, d'.trans d, e'.trans e, f'.trans f⟩

theorem sameWatch_settled (before : List AlarmEntry) (s : State) : SameWatch s (settled before s) := by simp [SameWatch]

theorem sameWatch_evaluated (i : WindowInput) (s : State) : SameWatch s (evaluated i s) := by simp [SameWatch]

theorem sameWatch_gapStage (loss became raised : Bool) (prior : View) (s : State) :
    SameWatch s (gapStage loss became raised prior s) := by simp [SameWatch]

/-- The station of an evaluation when Supply Watch is told of its alarms. -/
def told (i : WindowInput) (s : State) : State := settled s.alarms.table (evaluated i s)

theorem sameWatch_told (i : WindowInput) (s : State) : SameWatch s (told i s) :=
  (sameWatch_evaluated i s).trans (sameWatch_settled _ _)

theorem evaluate_table (i : WindowInput) (loss became : Bool) (prior : View) (s : State) :
    (evaluate i loss became prior s).alarms.table = (evaluated i s).alarms.table := by simp [evaluate_eq]

theorem evaluate_bothOnWire (i : WindowInput) (loss became : Bool) (prior : View) (s : State) :
    bothOnWire (evaluate i loss became prior s) = bothOnWire (evaluated i s) := by simp [bothOnWire, evaluate_eq]

theorem evaluate_pending (i : WindowInput) (loss became : Bool) (prior : View) (s : State) :
    PendingGrows s (evaluate i loss became prior s) := by
  rw [evaluate_eq]
  have changes : PendingGrows (polesStage i s) (evaluated i s) := .of_port (by simp)
  exact (((polesStage_pending i s).trans changes).trans (endAlarmEvent_pending s.alarms.table _)).trans (.of_port (by simp))

/-- All that an evaluation makes of the view: it stands, OFF_LINE is entered under a supply alarm, or the exit of OFF_LINE is taken
as the last one ends (R17, R18). -/
theorem evaluate_view (i : WindowInput) (loss became : Bool) (prior : View) (s : State) :
    (SameWatch s (evaluate i loss became prior s)
        ∧ ((evaluated i s).alarms.table = s.alarms.table
          ∨ ((holdsSupplyAlarm (evaluated i s).alarms.table = true → s.supply.view = .offLine)
            ∧ (holdsSupplyAlarm (evaluated i s).alarms.table = false → holdsSupplyAlarm s.alarms.table = true →
                s.supply.view = .offLine → s.supply.voltageOk = false ∨ s.supply.records ≠ []))))
      ∨ (SameWatch (enterOffLine (told i s)) (evaluate i loss became prior s)
          ∧ holdsSupplyAlarm (evaluated i s).alarms.table = true ∧ s.supply.view ≠ .offLine)
      ∨ (SameWatch (enterRestoring (told i s)) (evaluate i loss became prior s)
          ∧ holdsSupplyAlarm (evaluated i s).alarms.table = false ∧ holdsSupplyAlarm s.alarms.table = true
          ∧ s.supply.view = .offLine ∧ s.supply.voltageOk = true ∧ s.supply.records = []) := by
  have stage := sameWatch_gapStage loss became (stageRaises (enteredAt i s) (timedAt i s) (polesStage i s).poles) prior
    (endAlarmEvent s.alarms.table (evaluated i s))
  rw [← evaluate_eq] at stage
  have same : (evaluated i s).supply = s.supply := by simp
  rcases endAlarmEvent_cases s.alarms.table (evaluated i s) with ⟨stood, h⟩ | ⟨h, held, free⟩ | ⟨h, held, view⟩ |
    ⟨h, free, held, view, ok, records⟩
  · rw [h] at stage
    exact .inl ⟨(sameWatch_evaluated i s).trans stage, .inl stood⟩
  · rw [h] at stage
    rw [same] at held free
    exact .inl ⟨(sameWatch_told i s).trans stage, .inr ⟨held, free⟩⟩
  · rw [h] at stage
    rw [same] at view
    exact .inr (.inl ⟨stage, held, view⟩)
  · rw [h] at stage
    rw [same] at view ok records
    exact .inr (.inr ⟨stage, free, held, view, ok, records⟩)

/-- Under the law of OFF_LINE, with both poles on the wire no supply alarm is new, and the open gap record stands through stage 5. -/
theorem alarmStage_openGap {i : WindowInput} {s : State} (law : OffLineUnderAlarm s) (wire : bothOnWire (evaluated i s) = true) :
    (endAlarmEvent s.alarms.table (evaluated i s)).poles.openGap = s.poles.openGap := by
  rcases endAlarmEvent_cases s.alarms.table (evaluated i s) with ⟨-, h⟩ | ⟨h, -⟩ | ⟨-, held, view⟩ | ⟨h, -⟩
  · simp [h]
  · simp [h]
  · exact absurd (law (evaluated_holds wire held)) (by simpa using view)
  · simp [h]

/-- Where the evaluation hands off with both poles on the wire, stage 5 raises nothing. -/
theorem stageRaises_onWire {i : WindowInput} {s : State} (wire : bothOnWire (evaluated i s) = true) (w : PoleWatch) :
    stageRaises (enteredAt i s) (timedAt i s) w = false := by
  have onWire : bothOnWire (polesStage i s) = true := by simpa [bothOnWire] using wire
  rw [(enteredAt_dewired i s).none_of_onWire onWire, (timedAt_dewired i s).none_of_onWire onWire]
  rfl

/-- A pole off the wire leaves no gap record open at the end of an evaluation, and no GAP notice is handed. -/
theorem evaluate_offWire {i : WindowInput} {loss became : Bool} {prior : View} {s : State}
    (wire : bothOnWire (evaluated i s) = false) :
    (evaluate i loss became prior s).poles.openGap = none
      ∧ (evaluate i loss became prior s).poles.gapSerial = s.poles.gapSerial
      ∧ (evaluate i loss became prior s).line.gapPart = s.line.gapPart := by
  have off : bothOnWire (endAlarmEvent s.alarms.table (evaluated i s)) = false := by simpa [bothOnWire] using wire
  rw [evaluate_eq, (gapStage_offWire off).1, (gapStage_offWire off).2]
  simp

end Sys2Proof.Machine
end

section
/-!
The statements about a window completion: what it measures and what a loss does.
-/
namespace Sys2Proof.Machine

/-! ### A loss (R6, R14, R17, R43, R44, R105, R106) -/

/-- The entry to GAP at a loss, of a station whose Supply Watch and grant are those before the window. -/
theorem enterGap_atLoss {s m u : State} (loader : m.loader = s.loader) (records : m.supply.records = s.supply.records)
    (grant : m.share.grant = s.share.grant) (ceiling : m.share.ceiling = s.share.ceiling) (floor : m.share.floor = s.share.floor)
    (same : SameWatch m u) :
    (enterGap u).supply.view = .gap ∧ (enterGap u).supply.gapStart = some (now (enterGap u))
      ∧ (enterGap u).supply.records = s.supply.records
      ∧ (enterGap u).share.grant = (if (record s).cls = 0 then min s.share.grant s.share.floor else 0)
      ∧ (enterGap u).share.pendingGrant = none ∧ (enterGap u).share.ceiling = s.share.ceiling
      ∧ (enterGap u).share.floor = s.share.floor ∧ (enterGap u).shed.restore = none
      ∧ isPending (enterGap u).port .supplyViewChanged = true := by
  obtain ⟨-, loader', supply', -, share', -⟩ := same
  obtain ⟨supply, port, shed, given, pending, -⟩ := enterGap_spec u
  have cls : (record u).cls = (record s).cls := by rw [record_of_loader (loader'.trans loader)]
  refine ⟨by rw [supply], by rw [supply]; exact congrArg some (now_of_clock (by simp)).symm, ?_, ?_, pending, ?_, ?_, by rw [shed], ?_⟩
  · simp [supply', records]
  · rw [given, gapGrant_eq, cls, share', grant, floor]
  · simp [share', ceiling]
  · simp [share', floor]
  · rw [port]
    simp

/-- The view of OFF_LINE under a supply alarm stands to the end of the window. -/
theorem viewAfterWindow_offLine {loss became : Bool} {u : State} (off : u.supply.view = .offLine)
    (held : holdsSupplyAlarm u.alarms.table = true) : viewAfterWindow loss became u = u := by
  rcases viewAfterWindow_cases loss became u with ⟨-, v, -⟩ | ⟨-, -, h⟩ | ⟨-, -, h⟩
  · rcases v with v | v <;> rw [off] at v <;> cases v
  · rw [h]
    exact examineExit_stands (.inr (.inr (.inr (.inr held))))
  · exact h

/-- A supply alarm that an evaluation gives takes any other view to OFF_LINE, and there it stays (R17, R106). -/
theorem enteredOffLine_window {dt : Nat} {i : WindowInput} {s : State} (due : windowDue (advance dt s) = true)
    (col : isCol s = true) (law : OffLineUnderAlarm s) (view : s.supply.view ≠ .offLine)
    (held : holdsSupplyAlarm (completeWindow i (advance dt s)).alarms.table = true) :
    EnteredOffLine s (completeWindow i (advance dt s)) := by
  rw [completeWindow_col due (show isCol (advance dt s) = true from col)] at held ⊢
  obtain ⟨m, hm⟩ : ∃ m, m = measure i.edges (advance dt s) := ⟨_, rfl⟩
  obtain ⟨u, hu⟩ : ∃ u, u =
      evaluate i (lossIn i.edges (advance dt s)) (returnsOk i.edges (advance dt s)) (advance dt s).supply.view m :=
    ⟨_, rfl⟩
  have table : u.alarms.table = (evaluated i m).alarms.table := hu ▸ evaluate_table ..
  rw [← hm, ← hu] at held ⊢
  have heldEnd : holdsSupplyAlarm (evaluated i m).alarms.table = true := by
    rw [← table]
    simpa using held
  have free : ¬holdsSupplyAlarm m.alarms.table = true := fun h => view (law (by simpa [hm] using h))
  have mview : m.supply.view = s.supply.view := by rw [hm, measure_supply]; rfl
  rcases hu ▸ evaluate_view i (lossIn i.edges (advance dt s)) (returnsOk i.edges (advance dt s)) (advance dt s).supply.view m with
    ⟨-, stood | ⟨wait, -⟩⟩ | ⟨same, -⟩ | ⟨-, no, -⟩
  · exact absurd (stood ▸ heldEnd) free
  · exact absurd (mview.symm.trans (wait heldEnd)) view
  · obtain ⟨-, loader, -, -, share, -⟩ := sameWatch_told i m
    have share' : (told i m).share = (advance dt s).share := share.trans (by simp [hm])
    have entered : EnteredOffLine s (enterOffLine (told i m)) :=
      enteredOffLine_enterOffLine (loader.trans (by simp [hm])) (by rw [share']; rfl) (by rw [share']; rfl)
    obtain ⟨-, -, supply', shed', share', -⟩ := same
    have offWire : bothOnWire (evaluated i m) = false := by
      rw [← Bool.not_eq_true]
      exact fun wire => free (evaluated_holds wire heldEnd)
    have shut : u.poles.openGap = none := by rw [hu, (evaluate_offWire offWire).1]
    obtain ⟨off, gap, records, -, rest⟩ := entered
    rw [viewAfterWindow_offLine (by rw [supply']; exact off) (by rw [table]; exact heldEnd)]
    unfold EnteredOffLine
    rw [supply', shed', share']
    exact ⟨off, gap, records, shut, rest⟩
  · rw [heldEnd] at no
    cases no

/-- At a loss with both poles on the wire a COL station opens its gap record and hands GAP_START (R43). -/
theorem gapStart_window {dt : Nat} {i : WindowInput} {s : State} (due : windowDue (advance dt s) = true)
    (loss : lossIn i.edges (advance dt s) = true) (col : isCol s = true) (law : OffLineUnderAlarm s)
    (view : s.supply.view = .onLine ∨ s.supply.view = .restoring) (shut : s.poles.openGap = none)
    (wire : bothOnWire (completeWindow i (advance dt s)) = true) (empty : s.line.gapPart = none)
    (accepts : acceptsNotices s = true) :
    (completeWindow i (advance dt s)).poles.openGap = some s.poles.gapSerial
      ∧ (completeWindow i (advance dt s)).poles.gapSerial = s.poles.gapSerial + 1
      ∧ (completeWindow i (advance dt s)).line.gapPart = some ⟨⟨true, s.poles.gapSerial⟩, 0, false, false⟩ := by
  rw [completeWindow_col due (show isCol (advance dt s) = true from col), loss] at wire ⊢
  obtain ⟨m, hm⟩ : ∃ m, m = measure i.edges (advance dt s) := ⟨_, rfl⟩
  obtain ⟨u, hu⟩ : ∃ u, u =
      evaluate i true (returnsOk i.edges (advance dt s)) (advance dt s).supply.view m := ⟨_, rfl⟩
  have poles : (viewAfterWindow true (returnsOk i.edges (advance dt s)) u).poles = u.poles := by simp
  have line : (viewAfterWindow true (returnsOk i.edges (advance dt s)) u).line = u.line := by simp
  rw [← hm, ← hu] at wire ⊢
  have wire' : bothOnWire (evaluated i m) = true := by
    rw [← evaluate_bothOnWire i true (returnsOk i.edges (advance dt s)) (advance dt s).supply.view m, ← hu]
    simpa only [bothOnWire, poles] using wire
  have mlaw : OffLineUnderAlarm m := by
    rw [hm]
    intro held
    rw [measure_supply]
    exact law (by simpa using held)
  have shut' : (endAlarmEvent m.alarms.table (evaluated i m)).poles.openGap = none := by
    rw [alarmStage_openGap mlaw wire', hm]
    simpa using shut
  have serial : (endAlarmEvent m.alarms.table (evaluated i m)).poles.gapSerial = s.poles.gapSerial := by simp [hm]
  have stage : u = _ := hu.trans (evaluate_eq ..)
  rw [gapStage_starts (prior := (advance dt s).supply.view) view
      (by simpa [bothOnWire] using wire') (stageRaises_onWire wire' _) shut', serial] at stage
  rw [poles, line, stage]
  refine ⟨by simp, by simp, handGap_empty ?_ ?_⟩
  · simpa [hm] using empty
  · rw [acceptsNotices_of_loader (s := s) (by simp [hm])]
    exact accepts

/-- Under the law of OFF_LINE a window gives no supply alarm while both poles of a COL station are on the wire, nor at any other
station. -/
theorem noAlarm_window {dt : Nat} {i : WindowInput} {s : State} (due : windowDue (advance dt s) = true)
    (free : holdsSupplyAlarm s.alarms.table = false)
    (wire : isCol s = false ∨ bothOnWire (completeWindow i (advance dt s)) = true) :
    holdsSupplyAlarm (completeWindow i (advance dt s)).alarms.table = false := by
  cases col : isCol s with
  | false =>
    rw [completeWindow_other due (show isCol (advance dt s) = false from col)]
    simpa using free
  | true =>
    rcases wire with no | wire
    · rw [col] at no
      cases no
    rw [completeWindow_col due (show isCol (advance dt s) = true from col)] at wire ⊢
    have wire' : bothOnWire (evaluated i (measure i.edges (advance dt s))) = true := by
      rw [← evaluate_bothOnWire i (lossIn i.edges (advance dt s)) (returnsOk i.edges (advance dt s)) (advance dt s).supply.view]
      simpa [bothOnWire] using wire
    rw [← Bool.not_eq_true]
    intro held
    have := evaluated_holds wire' (by rw [← evaluate_table]; simpa using held)
    simp [free] at this

/-- Settles O34: where the evaluation gives no supply alarm the loss takes the view to GAP, and else it has gone to OFF_LINE. -/
theorem lossEntersGap : Obligations.LossEntersGap := by
  intro dt i s ⟨reset, live⟩ law due low view
  have loss : lossIn i.edges (advance dt s) = true := by
    have : windowVoltage i.edges (advance dt s) < (record (advance dt s)).vGap := low
    simpa [lossIn, isLoss] using this
  have off : s.supply.view ≠ .offLine := by rcases view with v | v <;> simp [v]
  have free : holdsSupplyAlarm s.alarms.table = false := by
    rw [← Bool.not_eq_true]
    exact fun held => off (law held)
  have atLoss := fun {u : State} (same : SameWatch (measure i.edges (advance dt s)) u) =>
    enterGap_atLoss (s := s) (by simp) (by simp) (by simp) (by simp) (by simp) same
  have mview : (measure i.edges (advance dt s)).supply.view = s.supply.view := by rw [measure_supply]; rfl
  refine ⟨_, perform_working dt (completeWindow i) reset, noAlarm_window due free, fun none => ?_, fun held => ?_, fun col => ?_,
    fun col wire shut empty accepts => gapStart_window due loss col law view shut wire empty accepts, fun col wire => ?_⟩
  · cases col : isCol s with
    | false =>
      rw [completeWindow_other due (show isCol (advance dt s) = false from col), loss, viewAfterWindow,
        if_pos ⟨rfl, mview ▸ view⟩]
      exact atLoss ⟨rfl, rfl, rfl, rfl, rfl, rfl⟩
    | true =>
      rw [completeWindow_col due (show isCol (advance dt s) = true from col), loss] at none ⊢
      have free' : holdsSupplyAlarm (evaluated i (measure i.edges (advance dt s))).alarms.table = false := by
        rw [← evaluate_table i true (returnsOk i.edges (advance dt s)) (advance dt s).supply.view]
        simpa using none
      rcases evaluate_view i true (returnsOk i.edges (advance dt s)) (advance dt s).supply.view (measure i.edges (advance dt s)) with
        ⟨same, -⟩ | ⟨-, held, -⟩ | ⟨-, -, -, wait, -⟩
      · rw [viewAfterWindow, if_pos ⟨rfl, by rw [same.2.2.1, mview]; exact view⟩]
        exact atLoss same
      · rw [free'] at held
        cases held
      · exact absurd (mview ▸ wait) off
  · cases col : isCol s with
    | false =>
      have := noAlarm_window (i := i) due free (.inl col)
      rw [held] at this
      cases this
    | true => exact enteredOffLine_window due col law off held
  · rw [completeWindow_other due (show isCol (advance dt s) = false from col)]
    simp
  · rw [completeWindow_col due (show isCol (advance dt s) = true from col)] at wire ⊢
    have wire' : bothOnWire (evaluated i (measure i.edges (advance dt s))) = false := by
      rw [← evaluate_bothOnWire i (lossIn i.edges (advance dt s)) (returnsOk i.edges (advance dt s)) (advance dt s).supply.view]
      simpa [bothOnWire] using wire
    obtain ⟨shut, serial, part⟩ := evaluate_offWire (loss := lossIn i.edges (advance dt s))
      (became := returnsOk i.edges (advance dt s)) (prior := (advance dt s).supply.view) wire'
    exact ⟨by simpa using shut, by simpa using serial, by simpa using part⟩

end Sys2Proof.Machine
end

section
/-!
The statement about what every window completion measures, and about the return of voltage ok.
-/
namespace Sys2Proof.Machine

theorem completeWindow_pending (i : WindowInput) {s : State} (due : windowDue s = true) :
    PendingGrows (measure i.edges s) (completeWindow i s) := by
  cases col : isCol s with
  | false =>
    rw [completeWindow_other due col]
    exact viewAfterWindow_pending _ _ _
  | true =>
    rw [completeWindow_col due col]
    exact (evaluate_pending _ _ _ _ _).trans (viewAfterWindow_pending _ _ _)

/-- The rest of a window completion leaves the measures alone (R8). -/
theorem completeWindow_supply (i : WindowInput) {s : State} (due : windowDue s = true) :
    (completeWindow i s).supply.count = 0
      ∧ (completeWindow i s).supply.windowStart = s.supply.windowStart.map (later · 10)
      ∧ (completeWindow i s).supply.volts = appendVolts s.supply.volts (windowVoltage i.edges s)
      ∧ (completeWindow i s).supply.run = windowRun s (windowVoltage i.edges s)
      ∧ (completeWindow i s).supply.voltageOk = (windowRun s (windowVoltage i.edges s) == confirmCount (record s))
      ∧ (completeWindow i s).supply.hadPulses = (windowCount i.edges s != 0) := by
  cases col : isCol s with
  | false =>
    rw [completeWindow_other due col]
    simp [measure_supply]
  | true =>
    rw [completeWindow_col due col]
    simp [measure_supply]

/-- What the return of voltage ok makes of GAP and OFF_LINE (R15, R17, R18): `held` says that a supply alarm is held once the window
has ended. -/
def OkReturns (held : Bool) (s t : State) : Prop :=
  (held = false →
      (s.supply.records = [] → LeftTheWait s t)
      ∧ (s.supply.records ≠ [] →
          t.supply.view = s.supply.view ∧ t.supply.gapStart = s.supply.gapStart ∧ t.supply.records = s.supply.records
          ∧ t.shed = s.shed))
    ∧ (held = true →
      (isCol s = false ∨ s.supply.view = .offLine →
        t.supply.view = s.supply.view ∧ t.supply.gapStart = s.supply.gapStart ∧ t.supply.records = s.supply.records
        ∧ t.shed = s.shed)
      ∧ (OffLineUnderAlarm s → t.supply.view = .offLine))

/-- The exit examined on a station that the window has measured, but whose view stands. -/
theorem okReturns_examined {dt : Nat} {i : WindowInput} {s u : State} (same : SameWatch (measure i.edges (advance dt s)) u)
    (view : s.supply.view = .gap ∨ s.supply.view = .offLine) (ok : (measure i.edges (advance dt s)).supply.voltageOk = true)
    (law : OffLineUnderAlarm s → holdsSupplyAlarm u.alarms.table = true → s.supply.view = .offLine) :
    OkReturns (holdsSupplyAlarm u.alarms.table) s (examineExit u) := by
  obtain ⟨-, loader, supply, shed, -, peers⟩ := same
  have stands : examineExit u = u → (examineExit u).supply.view = s.supply.view ∧ (examineExit u).supply.gapStart = s.supply.gapStart
      ∧ (examineExit u).supply.records = s.supply.records ∧ (examineExit u).shed = s.shed := by
    intro h
    rw [h, supply, shed, measure_supply]
    exact ⟨rfl, rfl, rfl, by simp⟩
  have records : u.supply.records = s.supply.records := by rw [supply]; simp
  have view' : u.supply.view = s.supply.view := by rw [supply, measure_supply]; rfl
  refine ⟨fun free => ⟨fun none => ?_, fun some => ?_⟩, fun held => ⟨fun _ => ?_, fun off => ?_⟩⟩
  · rw [examineExit_leaves (by rw [view']; exact view) (by rw [supply]; exact ok) (by rw [records, none]) free]
    exact leftTheWait_enterRestoring (by rw [loader]; simp) (restoreRank_of_peers (by rw [loader]; simp) (by rw [peers]; simp))
  · exact stands (examineExit_stands (.inr (.inr (.inr (.inl (by rw [records]; exact some))))))
  · exact stands (examineExit_stands (.inr (.inr (.inr (.inr held)))))
  · rw [(stands (examineExit_stands (.inr (.inr (.inr (.inr held)))))).1]
    exact law off held

/-- The way out that an evaluation takes as the last supply alarm ends (R18). -/
theorem leftTheWait_evaluated {dt : Nat} {i : WindowInput} {s u : State}
    (same : SameWatch (enterRestoring (told i (measure i.edges (advance dt s)))) u) : LeftTheWait s u := by
  obtain ⟨-, loader, -, -, -, peers⟩ := sameWatch_told i (measure i.edges (advance dt s))
  have loader' := loader.trans (show (measure i.edges (advance dt s)).loader = s.loader by simp)
  obtain ⟨clock, -, supply, shed, -, -⟩ := same
  exact (leftTheWait_enterRestoring loader' (restoreRank_of_peers loader' (by rw [peers]; simp))).of_same clock (by rw [supply])
    (by rw [supply]) (by rw [shed])

/-- Out of the wait a window without a loss leaves the view as it is. -/
theorem viewAfterWindow_left {u : State} (view : u.supply.view = .onLine ∨ u.supply.view = .restoring) (became : Bool) :
    viewAfterWindow false became u = u := by
  rcases viewAfterWindow_cases false became u with ⟨no, -⟩ | ⟨-, -, h⟩ | ⟨-, -, h⟩
  · cases no
  · rw [h]
    rcases view with v | v
    · exact examineExit_stands (.inl v)
    · exact examineExit_stands (.inr (.inl v))
  · exact h

/-- The window at which voltage ok returns, from GAP or OFF_LINE; at a COL station it is no loss. -/
theorem okReturns_window {dt : Nat} {i : WindowInput} {s : State} (due : windowDue (advance dt s) = true)
    (view : s.supply.view = .gap ∨ s.supply.view = .offLine) (became : returnsOk i.edges (advance dt s) = true)
    (noLoss : isCol s = false ∨ lossIn i.edges (advance dt s) = false) :
    OkReturns (holdsSupplyAlarm (completeWindow i (advance dt s)).alarms.table) s (completeWindow i (advance dt s)) := by
  have ok : (measure i.edges (advance dt s)).supply.voltageOk = true := by
    unfold returnsOk at became
    rw [Bool.and_eq_true] at became
    exact became.1
  have alarms : (measure i.edges (advance dt s)).alarms = s.alarms := by simp
  have mview : (measure i.edges (advance dt s)).supply.view = s.supply.view := by rw [measure_supply]; rfl
  have examines : ∀ u : State, u.supply.view = .gap ∨ u.supply.view = .offLine →
      viewAfterWindow (lossIn i.edges (advance dt s)) true u = examineExit u := by
    intro u view
    rcases viewAfterWindow_cases (lossIn i.edges (advance dt s)) true u with ⟨-, v, -⟩ | ⟨-, -, h⟩ | ⟨-, no, -⟩
    · rcases view with w | w <;> simp [w] at v
    · exact h
    · cases no
  cases col : isCol s with
  | false =>
    rw [completeWindow_other due (show isCol (advance dt s) = false from col), became, examines _ (by rw [mview]; exact view)]
    have table : (examineExit (measure i.edges (advance dt s))).alarms.table = (measure i.edges (advance dt s)).alarms.table := by
      simp
    rw [table]
    exact okReturns_examined ⟨rfl, rfl, rfl, rfl, rfl, rfl⟩ view ok (fun law held => law (alarms ▸ held))
  | true =>
    rcases noLoss with no | noLoss
    · rw [col] at no
      cases no
    rw [completeWindow_col due (show isCol (advance dt s) = true from col), became, noLoss]
    rw [noLoss] at examines
    obtain ⟨u, hu⟩ : ∃ u, u = evaluate i false true (advance dt s).supply.view (measure i.edges (advance dt s)) := ⟨_, rfl⟩
    have table : u.alarms.table = _ := hu ▸ evaluate_table ..
    have kept : (viewAfterWindow false true u).alarms.table = u.alarms.table := by simp
    rw [← hu, kept]
    rcases hu ▸ evaluate_view i false true (advance dt s).supply.view (measure i.edges (advance dt s)) with
      ⟨same, stood⟩ | ⟨same, held, gap⟩ | ⟨same, free, -, -, -, records⟩
    · rw [examines u (by rw [same.2.2.1, mview]; exact view)]
      refine okReturns_examined same view ok (fun law held => ?_)
      rcases stood with stood | ⟨off, -⟩
      · rw [table, stood, alarms] at held
        exact law held
      · rw [table] at held
        exact mview ▸ off held
    · have off : u.supply.view = .offLine := by
        rw [same.2.2.1, (enterOffLine_spec _).1]
      have stays : viewAfterWindow false true u = u := by
        rw [examines u (.inr off)]
        exact examineExit_stands (.inr (.inr (.inr (.inr (by rw [table]; exact held)))))
      rw [stays, table, held]
      refine ⟨nofun, fun _ => ⟨fun no => ?_, fun _ => off⟩⟩
      rcases no with no | no
      · rw [col] at no
        cases no
      · exact absurd (mview.trans no) gap
    · have out := leftTheWait_evaluated same
      have stays := viewAfterWindow_left out.view true
      rw [stays, table, free]
      refine ⟨fun _ => ⟨fun _ => out, fun some => absurd ?_ some⟩, nofun⟩
      simpa using records

/-- GAP_END: an open gap record of a COL station with both poles on the wire ends as voltage ok returns (R44). -/
theorem gapEnd_window {dt : Nat} {i : WindowInput} {g : Byte} {s : State} (due : windowDue (advance dt s) = true)
    (became : returnsOk i.edges (advance dt s) = true) (col : isCol s = true) (law : OffLineUnderAlarm s)
    (openGap : s.poles.openGap = some g) (wire : bothOnWire (completeWindow i (advance dt s)) = true)
    (empty : s.line.gapPart = none) (accepts : acceptsNotices s = true) :
    (completeWindow i (advance dt s)).poles.openGap = none
      ∧ (completeWindow i (advance dt s)).line.gapPart = some ⟨⟨false, g⟩, 0, false, false⟩ := by
  rw [completeWindow_col due (show isCol (advance dt s) = true from col), became] at wire ⊢
  obtain ⟨m, hm⟩ : ∃ m, m = measure i.edges (advance dt s) := ⟨_, rfl⟩
  obtain ⟨u, hu⟩ : ∃ u, u = evaluate i (lossIn i.edges (advance dt s)) true (advance dt s).supply.view m := ⟨_, rfl⟩
  have poles : (viewAfterWindow (lossIn i.edges (advance dt s)) true u).poles = u.poles := by simp
  have line : (viewAfterWindow (lossIn i.edges (advance dt s)) true u).line = u.line := by simp
  rw [← hm, ← hu] at wire ⊢
  have wire' : bothOnWire (evaluated i m) = true := by
    rw [← evaluate_bothOnWire i (lossIn i.edges (advance dt s)) true (advance dt s).supply.view m, ← hu]
    simpa only [bothOnWire, poles] using wire
  have mlaw : OffLineUnderAlarm m := by
    rw [hm]
    intro held
    rw [measure_supply]
    exact law (by simpa using held)
  have stage : u = _ := hu.trans (evaluate_eq ..)
  rw [gapStage_ends (by simpa [bothOnWire] using wire') (by rw [alarmStage_openGap mlaw wire', hm]; simpa using openGap)] at stage
  rw [poles, line, stage]
  refine ⟨by simp, handGap_empty ?_ ?_⟩
  · simpa [hm] using empty
  · rw [acceptsNotices_of_loader (s := s) (by simp [hm])]
    exact accepts

/-- Settles O33: the measures of the window, then the view and the GAP notice as voltage ok returns. -/
theorem windowCompletionMeasures : Obligations.WindowCompletionMeasures := by
  intro dt i w s ⟨reset, live⟩ start ran n v run ok volts
  have due : windowDue (advance dt s) = true := by
    have live' : isLive (advance dt s) = true := live
    simp only [windowDue, live', Bool.true_and]
    exact expired_of (show (advance dt s).supply.windowStart = some w from start) ran
  obtain ⟨count, began, list, runs, isOk, pulses⟩ := completeWindow_supply i due
  have became : s.supply.voltageOk = false → ok = true → returnsOk i.edges (advance dt s) = true := by
    intro before after
    have after' : (measure i.edges (advance dt s)).supply.voltageOk = true := by rw [measure_supply]; exact after
    simp [returnsOk, after', before]
  have loss : lossIn i.edges (advance dt s) = true ↔ v < (record s).vGap := by
    unfold lossIn isLoss
    exact decide_eq_true_iff
  refine ⟨_, perform_working dt (completeWindow i) reset, count, ?_, ?_, runs, isOk, pulses, fun none had => ?_, by simp, by simp,
    fun col => ?_, fun view before after noLoss => ?_, fun g col law openGap before after wire empty accepts => ?_,
    fun col noLoss stood nonzero => ?_⟩
  · rw [began, show (advance dt s).supply.windowStart = some w from start]
    rfl
  · rw [list, appendVolts_eq]
    rfl
  · refine completeWindow_pending i due _ ?_
    rw [measure_port, if_pos ⟨none, had⟩]
    simp
  · rw [completeWindow_other due (show isCol (advance dt s) = false from col)]
    simp
  · refine okReturns_window due view (became before after) (noLoss.imp id fun h => ?_)
    rw [← Bool.not_eq_true, loss]
    omega
  · exact gapEnd_window due (became before after) col law openGap wire empty accepts
  · have none : lossIn i.edges (advance dt s) = false := by
      rw [← Bool.not_eq_true, loss]
      omega
    have quiet : returnsOk i.edges (advance dt s) = false := by
      rw [← Bool.not_eq_true]
      intro h
      simp only [returnsOk, Bool.and_eq_true, Bool.not_eq_true'] at h
      have now := stood (by rw [measure_supply] at h; exact h.1)
      have before : s.supply.voltageOk = false := h.2
      rw [now] at before
      cases before
    have measured : measure i.edges (advance dt s) =
        (advance dt s).withSupply (measure i.edges (advance dt s)).supply := by
      unfold measure
      dsimp only
      rw [if_neg]
      · rfl
      · simp only [Bool.and_eq_true, beq_iff_eq, not_and]
        exact fun zero => absurd zero nonzero
    have pulsed : (windowCount i.edges (advance dt s) != 0) = true := bne_iff_ne.2 nonzero
    rw [completeWindow_other due (show isCol (advance dt s) = false from col), none, quiet]
    change measure i.edges (advance dt s) = _
    rw [measured, measure_supply, appendVolts_eq, pulsed]
    simp only [advance_keeps, start]
    rfl

end Sys2Proof.Machine
end

section
/-!
The alarms of every evaluation: the three active-alarm records, and what one kind that acts makes of the table, the history, the
number counter and the notices (R38 to R42, R119 to R123, R135).
-/
namespace Sys2Proof.Machine

/-! ### History records in table order (R135) -/

theorem tableOrder_nil (before : List AlarmEntry) : tableOrder before [] = [] := by simp [tableOrder]

/-- In a table without two entries of one origin and number, one entry matches a record of it. -/
theorem filter_isRecordOf {table : List AlarmEntry} (distinct : (table.map fun e => (e.origin, e.number)).Nodup) {e : AlarmEntry}
    (mem : e ∈ table) {r : HistoryRecord} (ofEntry : r.origin = e.origin ∧ r.number = e.number) :
    table.filter (fun x => isRecordOf x r) = [e] := by
  induction table with
  | nil => simp at mem
  | cons x rest ih =>
    rw [List.map_cons, List.nodup_cons] at distinct
    obtain ⟨absent, distinct⟩ := distinct
    have matching : ∀ y : AlarmEntry, isRecordOf y r = true ↔ (y.origin, y.number) = (e.origin, e.number) := by
      intro y
      rw [isRecordOf, ofEntry.1, ofEntry.2, Bool.and_eq_true, beq_iff_eq, beq_iff_eq, Prod.mk.injEq]
      exact ⟨fun h => ⟨h.1.symm, h.2.symm⟩, fun h => ⟨h.1.symm, h.2.symm⟩⟩
    rcases List.mem_cons.1 mem with rfl | mem
    · have none : rest.filter (fun x => isRecordOf x r) = [] := by
        rw [List.filter_eq_nil_iff]
        intro y hy on
        exact absent ((matching y).1 on ▸ List.mem_map_of_mem hy)
      rw [List.filter_cons_of_pos (p := fun x => isRecordOf x r) ((matching _).2 rfl), none]
    · have off : ¬isRecordOf x r = true := fun on =>
        absent ((matching x).1 on ▸ List.mem_map_of_mem (f := fun y : AlarmEntry => (y.origin, y.number)) mem)
      rw [List.filter_cons_of_neg (p := fun x => isRecordOf x r) off, ih distinct mem]

/-- The record of the one entry that an event closes stands alone. -/
theorem tableOrder_one {s : State} (distinct : AlarmsDistinct s) {e : AlarmEntry} (mem : e ∈ s.alarms.table) {r : HistoryRecord}
    (ofEntry : r.origin = e.origin ∧ r.number = e.number) : tableOrder s.alarms.table [r] = [r] := by
  have own : isRecordOf e r = true := by simp [isRecordOf, ofEntry.1, ofEntry.2]
  have held : (s.alarms.table.any fun x => isRecordOf x r) = true := List.any_eq_true.2 ⟨e, mem, own⟩
  have one : s.alarms.table.reverse.flatMap (fun x => [r].filter (isRecordOf x)) =
      (s.alarms.table.reverse.filter fun x => isRecordOf x r).map fun _ => r := by
    induction s.alarms.table.reverse with
    | nil => rfl
    | cons x rest ih =>
      rw [List.flatMap_cons, ih]
      cases h : isRecordOf x r <;> simp [h]
  unfold tableOrder
  rw [one, List.filter_reverse, filter_isRecordOf distinct mem ofEntry]
  simp [held]

/-! ### From the changes of an event to its outcome -/

/-- `t` is what an evaluation that found `s` makes of the changes from `x` to `w`: their records enter the history in table order,
and the table, the counter and the notices are as they leave them. -/
structure Outcome (s t x w : State) : Prop where
  loader : x.loader = s.loader
  table : x.alarms.table = s.alarms.table
  fresh : x.alarms.history = []
  number : x.alarms.nextNumber = s.alarms.nextNumber
  part : x.line.alarmPart = s.line.alarmPart
  time : now t = now x
  table' : t.alarms.table = w.alarms.table
  history' : t.alarms.history = (tableOrder s.alarms.table w.alarms.history ++ s.alarms.history).take 16
  number' : t.alarms.nextNumber = w.alarms.nextNumber
  part' : t.line.alarmPart = w.line.alarmPart

namespace Outcome
variable {s t x w : State}

/-- No close leaves the history as it was. -/
theorem history_of_none (c : Outcome s t x w) (bounded : HistoryBounded s) (h : w.alarms.history = x.alarms.history) :
    t.alarms.history = s.alarms.history := by
  rw [c.history', h, c.fresh, tableOrder_nil, List.nil_append, List.take_of_length_le bounded]

/-- One close puts its record at the head of the history. -/
theorem history_of_one (c : Outcome s t x w) (distinct : AlarmsDistinct s) {e : AlarmEntry} (mem : e ∈ s.alarms.table)
    {r : HistoryRecord} (ofEntry : r.origin = e.origin ∧ r.number = e.number)
    (h : w.alarms.history = (r :: x.alarms.history).take 16) : t.alarms.history = (r :: s.alarms.history).take 16 := by
  have one : w.alarms.history = [r] := by rw [h, c.fresh]; rfl
  rw [c.history', one, tableOrder_one distinct mem ofEntry]
  rfl

theorem handed (c : Outcome s t x w) (content : AlarmContent) (part : List (Notice AlarmContent)) :
    handedTo x content part = handedTo s content part := handedTo_of_loader c.loader _ _

theorem stands (c : Outcome s t x w) (bounded : HistoryBounded s) (h : OwnAlarmsStand x w) : OwnAlarmsStand s t := by
  obtain ⟨table, history, number, part⟩ := h
  exact ⟨by rw [c.table', table, c.table], c.history_of_none bounded history, by rw [c.number', number, c.number],
    by rw [c.part', part, c.part]⟩

theorem changed (c : Outcome s t x w) (bounded : HistoryBounded s) {e : AlarmEntry} {p : Phase} {ps : PoleSet}
    (h : ChangedOwn e p ps x w) : ChangedOwn e p ps s t := by
  obtain ⟨table, history, number, part⟩ := h
  exact ⟨by rw [c.table', table, c.table], c.history_of_none bounded history, by rw [c.number', number, c.number],
    by rw [c.part', part, c.part, c.handed]⟩

theorem closed (c : Outcome s t x w) (distinct : AlarmsDistinct s) {e : AlarmEntry} (mem : e ∈ s.alarms.table)
    (time : now w = now x) (h : ClosedOwn e x w) : ClosedOwn e s t := by
  obtain ⟨table, history, number, part⟩ := h
  refine ⟨by rw [c.table', table, c.table], ?_, by rw [c.number', number, c.number], by rw [c.part', part, c.part, c.handed]⟩
  rw [c.time, ← time]
  exact c.history_of_one distinct mem ⟨rfl, rfl⟩ history

theorem cleared (c : Outcome s t x w) (distinct : AlarmsDistinct s) (bounded : HistoryBounded s) {e : AlarmEntry}
    (mem : e ∈ s.alarms.table) (time : now w = now x) (h : ClearedOwn e x w) : ClearedOwn e s t := by
  obtain ⟨unack, acked, cleared⟩ := h
  exact ⟨fun p => c.changed bounded (unack p), fun p => c.closed distinct mem time (acked p), fun p => c.stands bounded (cleared p)⟩

theorem raised (c : Outcome s t x w) (distinct : AlarmsDistinct s) (bounded : HistoryBounded s) {k : AlarmKind} {ps : PoleSet}
    {n : Byte} (time : now w = now x) (h : RaisedOwn k ps n x w) : RaisedOwn k ps n s t := by
  obtain ⟨number, few, four⟩ := h
  have free : ∀ {table : List AlarmEntry}, FirstFree x table n → FirstFree s table n := by
    intro table h
    unfold FirstFree at h ⊢
    rwa [c.loader, c.number] at h
  rw [c.loader, c.table, time] at few four
  refine ⟨c.number'.trans number, fun less => ?_, fun full e found => ?_⟩
  · obtain ⟨first, table, history, part⟩ := few less
    refine ⟨free first, ?_, c.history_of_none bounded history, ?_⟩
    · rw [c.table', table, c.time]
    · rw [c.part', part, c.part, c.handed, c.time]
  · obtain ⟨first, table, history, part⟩ := four full e found
    have mem : e ∈ s.alarms.table := List.mem_of_mem_filter (List.mem_of_find?_eq_some found)
    refine ⟨free first, ?_, ?_, ?_⟩
    · rw [c.table', table, c.time]
    · rw [c.time]
      exact c.history_of_one distinct mem ⟨rfl, rfl⟩ history
    · rw [c.part', part, c.part, c.handed, c.handed, c.time]

/-- The alarms of the change `w` alone matter. -/
theorem of_same {w' : State} (c : Outcome s t x w) (h : SameAlarms w' w) : Outcome s t x w' := by
  obtain ⟨alarms, line⟩ := h
  exact { c with
    table' := by rw [c.table', alarms]
    history' := by rw [c.history', alarms]
    number' := by rw [c.number', alarms]
    part' := by rw [c.part', line] }

end Outcome

/-- One step of a record whose changes are all that the evaluation makes: what it makes of the alarms (R39 to R42). -/
theorem RecordStep.acts {k : AlarmKind} {acting : PoleSet} {before after : Option ActiveAlarm} {s t x w : State}
    (h : RecordStep k acting before after x w) (c : Outcome s t x w) (distinct : AlarmsDistinct s) (bounded : HistoryBounded s) :
    RecordActs k before after s t := by
  have mem : ∀ {n e}, findAlarm s s.loader.station n = some e → e ∈ s.alarms.table := fun h => List.mem_of_find?_eq_some h
  have found : ∀ {n e}, findAlarm s s.loader.station n = some e → findAlarm x x.loader.station n = some e := by
    intro n e h
    unfold findAlarm at h ⊢
    rwa [c.table, c.loader]
  cases h with
  | stands same _ =>
    refine ⟨fun b none some => ?_, fun a e some _ => ⟨fun b some' differ => ?_, fun none => ?_⟩⟩
    · rw [none, some] at same
      cases same
    · rw [some, some'] at same
      simp only [Option.map_some, Option.some.injEq, Prod.mk.injEq] at same
      exact absurd same.2.symm differ
    · rw [some, none] at same
      cases same
  | raised _ none some same =>
    refine ⟨fun b _ some' => ?_, fun a e some' _ => ?_⟩
    · rw [some] at some'
      cases some'
      exact (c.of_same same).raised distinct bounded (now_of_clock (by simp)) (raiseOwn_raises k acting x)
    · rw [none] at some'
      cases some'
  | widened a b _ some some' _ _ same =>
    refine ⟨fun _ none _ => ?_, fun a' e some'' has => ⟨fun _ _ _ => ?_, fun none => ?_⟩⟩
    · rw [some] at none
      cases none
    · rw [some] at some''
      cases some''
      exact (c.of_same same).changed bounded (widenOwn_widens _ _ _ (found has))
    · rw [some'] at none
      cases none
  | cleared a some none same =>
    refine ⟨fun _ none' _ => ?_, fun a' e some' has => ⟨fun _ some'' _ => ?_, fun _ => ?_⟩⟩
    · rw [some] at none'
      cases none'
    · rw [none] at some''
      cases some''
    · rw [some] at some'
      cases some'
      exact (c.of_same same).cleared distinct bounded (mem has) (now_of_clock (by simp)) (clearOwn_clears _ _ _ (found has))

end Sys2Proof.Machine
end

section
/-!
The statement about the retrieve timeout and about the alarms of every evaluation (R38 to R42).
-/
namespace Sys2Proof.Machine

/-! ### The three records and the alarms at the end of a window -/

@[simp] theorem gapStage_records (loss became raised : Bool) (prior : View) (s : State) :
    (gapStage loss became raised prior s).poles.dewire = s.poles.dewire ∧
    (gapStage loss became raised prior s).poles.retrieveFail = s.poles.retrieveFail ∧
    (gapStage loss became raised prior s).poles.lineDead = s.poles.lineDead := by
  unfold gapStage; split
  · dsimp only; split <;> simp
  · split
    · simp
    · split <;> simp

/-- The evaluation of a COL station's window: the station after its measures, when the event of stage 5 ends. -/
def windowEvaluated (i : WindowInput) (s : State) : State := evaluated i (measure i.edges s)

/-- What stage 5 makes of the poles' records and of the alarms stands to the end of the window. -/
theorem completeWindow_evaluated (i : WindowInput) {s : State} (due : windowDue s = true) (col : isCol s = true) :
    let t := completeWindow i s
    let e := windowEvaluated i s
    t.poles.p = e.poles.p ∧ t.poles.n = e.poles.n ∧ t.poles.dewire = e.poles.dewire
      ∧ t.poles.retrieveFail = e.poles.retrieveFail ∧ t.poles.lineDead = e.poles.lineDead
      ∧ t.alarms.table = e.alarms.table ∧ t.alarms.history = e.alarms.history ∧ t.alarms.nextNumber = e.alarms.nextNumber
      ∧ t.line.alarmPart = e.line.alarmPart ∧ t.clock = e.clock := by
  dsimp only
  rw [completeWindow_col due col, evaluate_eq]
  simp [windowEvaluated]

/-- The records of an evaluation, each from its entry, its marks and its clear (R39 to R42). -/
theorem evaluated_records (i : WindowInput) (s : State) :
    let w := (polesStage i s).poles
    let t := evaluated i s
    (∃ n, t.poles.dewire = (dewireWith (enteredAt i s) n s.poles.dewire).filter fun a =>
          !allOf a.poles (w.p.state == .onWire) (w.n.state == .onWire))
      ∧ (∃ n, t.poles.retrieveFail = ((failWith (timedAt i s) n s.poles.retrieveFail).map
            (withReached (isDownState w.p) (isDownState w.n))).filter fun a => !allReached a)
      ∧ t.poles.lineDead = (if s.supply.voltageOk = true then none else s.poles.lineDead) := by
  simp only [evaluated, closingInOrder, handOffs_eq, State.withAlarms_poles, lineDeadClear_poles, retrieveFailStage_poles,
    dewireStage_poles]
  rw [polesStage_poles]
  refine ⟨⟨_, rfl⟩, ⟨_, rfl⟩, ?_⟩
  simp [retrieveFailStage, dewireStage]

/-! ### What the formulas of the records say -/

theorem widened_poles {a acting : PoleSet} (h : a ≠ .none) :
    (if acting = .none ∨ unionSet a acting = a then a else .both) = unionSet a acting := by
  by_cases none : acting = .none
  · rw [if_pos (.inl none), none, unionSet_none h]
  · by_cases same : unionSet a acting = a
    · rw [if_pos (.inr same), same]
    · rw [if_neg (by simp [none, same]), unionSet_both h same]

theorem filter_unless (ends : ActiveAlarm → Bool) (a : ActiveAlarm) :
    ((some a).filter fun x => !ends x) = if ends a = true then none else some a := by
  cases h : ends a <;> simp [h]

/-- The DEWIRE record after an evaluation that left the poles at `w`, `acting` of which entered DEWIRED (R39, R40). -/
def DewireFollows (acting : PoleSet) (w : PoleWatch) (before after : Option ActiveAlarm) : Prop :=
  (before = none → acting = .none → after = none)
    ∧ (before = none → acting ≠ .none → ∃ n, after = some ⟨n, acting, false, false⟩)
    ∧ ∀ a, before = some a → a.poles ≠ .none →
        after = if (hasP (unionSet a.poles acting) = true → w.p.state = .onWire)
            ∧ (hasN (unionSet a.poles acting) = true → w.n.state = .onWire) then none
          else some { a with poles := unionSet a.poles acting }

theorem dewireFollows {acting : PoleSet} {w : PoleWatch} (dewired : AllDewired acting w) (n : Byte)
    (before : Option ActiveAlarm) :
    DewireFollows acting w before ((dewireWith acting n before).filter fun a =>
      !allOf a.poles (w.p.state == .onWire) (w.n.state == .onWire)) := by
  refine ⟨fun none quiet => ?_, fun none some => ⟨n, ?_⟩, fun a some has => ?_⟩
  · rw [none, dewireWith, if_pos quiet]
    rfl
  · rw [none, dewireWith, if_neg some, Option.filter_some_pos (by simpa using not_allOf_onWire some dewired id id)]
  · rw [some, dewireWith, widened_poles has, filter_unless]
    exact if_congr (by rw [allOf_eq_true, beq_iff_eq, beq_iff_eq]) rfl rfl

/-- The RETRIEVE_FAIL record after an evaluation that left the poles at `w`, `acting` of which timed out (R41). -/
def FailFollows (acting : PoleSet) (w : PoleWatch) (before after : Option ActiveAlarm) : Prop :=
  (before = none → acting = .none → after = none)
    ∧ (before = none → acting ≠ .none → ∃ n, after = some ⟨n, acting, false, false⟩)
    ∧ ∀ a, before = some a → a.poles ≠ .none →
        let poles := unionSet a.poles acting
        let reachedP := (a.reachedP && !hasP acting) || (hasP poles && isDownState w.p)
        let reachedN := (a.reachedN && !hasN acting) || (hasN poles && isDownState w.n)
        after = if (hasP poles = true → reachedP = true) ∧ (hasN poles = true → reachedN = true) then none
          else some ⟨a.number, poles, reachedP, reachedN⟩

/-- A fresh record has no reached mark: its poles are DEWIRED. -/
theorem withReached_fresh {acting : PoleSet} {w : PoleWatch} (dewired : AllDewired acting w) (n : Byte) :
    withReached (isDownState w.p) (isDownState w.n) ⟨n, acting, false, false⟩ = ⟨n, acting, false, false⟩ := by
  obtain ⟨p, q⟩ := dewired.not_down
  have p' : (hasP acting && isDownState w.p) = false := by
    cases h : hasP acting
    · rfl
    · exact p h
  have q' : (hasN acting && isDownState w.n) = false := by
    cases h : hasN acting
    · rfl
    · exact q h
  simp only [withReached, p', q', Bool.or_false]

theorem failFollows {acting : PoleSet} {w : PoleWatch} (dewired : AllDewired acting w) (n : Byte) (before : Option ActiveAlarm) :
    FailFollows acting w before (((failWith acting n before).map (withReached (isDownState w.p) (isDownState w.n))).filter
      fun a => !allReached a) := by
  refine ⟨fun none quiet => ?_, fun none some => ⟨n, ?_⟩, fun a some has => ?_⟩
  · rw [none, failWith, if_pos quiet]
    rfl
  · have off := not_allReached (ps := acting) n false false some dewired id id
    simp only [Bool.false_and] at off
    rw [none, failWith, if_neg some, Option.map_some, Option.filter_some_pos (by simpa using off), withReached_fresh dewired]
  · rw [some, failWith, widened_poles has, Option.map_some, filter_unless]
    exact if_congr allOf_eq_true rfl rfl

/-- A pole that times out leaves a RETRIEVE_FAIL record active (R41). -/
theorem failWith_stays {acting : PoleSet} {w : PoleWatch} (dewired : AllDewired acting w) (some : acting ≠ .none) (n : Byte)
    (before : Option ActiveAlarm) :
    (((failWith acting n before).map (withReached (isDownState w.p) (isDownState w.n))).filter
      fun a => !allReached a).isSome = true := by
  cases before with
  | none => rw [(failFollows dewired n none).2.1 rfl some |>.choose_spec]; rfl
  | some a =>
    rw [failWith, Option.map_some, filter_unless]
    rw [if_neg]
    · rfl
    · rw [Bool.not_eq_true]
      by_cases same : unionSet a.poles acting = a.poles
      · rw [if_pos (.inr same)]
        exact not_allReached a.number a.reachedP a.reachedN some dewired (hasP_of_union same) (hasN_of_union same)
      · rw [if_neg (by simp [some, same])]
        exact not_allReached a.number a.reachedP a.reachedN some dewired (fun _ => rfl) (fun _ => rfl)

/-! ### One kind that acts -/

theorem SameAlarms.trans {s t u : State} (h : SameAlarms s t) (h' : SameAlarms t u) : SameAlarms s u :=
  ⟨h'.1.trans h.1, h'.2.trans h.2⟩

/-- The alarms that the change `x` found alone matter. -/
theorem Outcome.from_same {s t x x' w : State} (c : Outcome s t x w) (h : SameAlarms x x') (loader : x'.loader = s.loader)
    (clock : x'.clock = x.clock) : Outcome s t x' w := by
  obtain ⟨alarms, line⟩ := h
  exact { c with
    loader := loader
    table := by rw [alarms, c.table]
    fresh := by rw [alarms, c.fresh]
    number := by rw [alarms, c.number]
    part := by rw [line, c.part]
    time := by rw [c.time, now_of_clock clock] }

/-- The steps of the three records in a window of a COL station, and what the window makes of their changes. -/
theorem window_steps {dt : Nat} (i : WindowInput) {s : State} (due : windowDue (advance dt s) = true) (col : isCol s = true) :
    let t := completeWindow i (advance dt s)
    let m := measure i.edges (advance dt s)
    ∃ start x y u,
      RecordStep .dewire (enteredAt i m) s.poles.dewire t.poles.dewire start x
        ∧ RecordStep .retrieveFail (timedAt i m) s.poles.retrieveFail t.poles.retrieveFail x y
        ∧ RecordStep .lineDead .none s.poles.lineDead t.poles.lineDead y u
        ∧ x.loader = s.loader ∧ y.loader = s.loader ∧ x.clock = start.clock ∧ y.clock = start.clock
        ∧ Outcome s t start u := by
  intro t m
  obtain ⟨-, -, dewire, fail, dead, table, history, number, part, clock⟩ :=
    completeWindow_evaluated i due (show isCol (advance dt s) = true from col)
  obtain ⟨x, y, u, first, second, third, xloader, yloader, xclock, yclock, result⟩ := evaluated_steps i m
  change windowEvaluated i (advance dt s) = _ at result
  have poles : m.poles = s.poles := by simp [m]
  have alarms : m.alarms = s.alarms := by simp [m]
  have startClock : (polesStage i m).clock = m.clock := by simp
  have loader : m.loader = s.loader := by simp [m]
  rw [poles] at first second third
  refine ⟨(polesStage i m).withAlarms { (polesStage i m).alarms with history := [] }, x, y, u, dewire ▸ first, fail ▸ second, dead ▸ third,
    xloader.trans loader, yloader.trans loader,
    xclock.trans startClock.symm, yclock.trans startClock.symm, ?_⟩
  exact
    { loader := by simp [m]
      table := by simp [m]
      fresh := rfl
      number := by simp [m]
      part := by simp [m]
      time := now_of_clock (by rw [clock]; simp [windowEvaluated, m])
      table' := by rw [table, result]; rfl
      history' := by rw [history, result, alarms]; rfl
      number' := by rw [number, result]; rfl
      part' := by rw [part, result]; rfl }

/-- The alarms of a window of a COL station where one kind acts, and where none does (R39 to R42). -/
theorem window_alarms {dt : Nat} (i : WindowInput) {s : State} (due : windowDue (advance dt s) = true) (col : isCol s = true)
    (distinct : AlarmsDistinct s) (bounded : HistoryBounded s) :
    let t := completeWindow i (advance dt s)
    let w := s.poles
    let w' := t.poles
    (w'.retrieveFail = w.retrieveFail → w'.lineDead = w.lineDead → RecordActs .dewire w.dewire w'.dewire s t)
      ∧ (w'.dewire = w.dewire → w'.lineDead = w.lineDead → RecordActs .retrieveFail w.retrieveFail w'.retrieveFail s t)
      ∧ (w'.dewire = w.dewire → w'.retrieveFail = w.retrieveFail → RecordActs .lineDead w.lineDead w'.lineDead s t)
      ∧ (w'.dewire = w.dewire → w'.retrieveFail = w.retrieveFail → w'.lineDead = w.lineDead → OwnAlarmsStand s t) := by
  intro t w w'
  obtain ⟨start, x, y, u, first, second, third, xloader, yloader, xclock, yclock, out⟩ := window_steps i due col
  have dewireStood : w'.dewire = w.dewire → SameAlarms start x := fun h =>
    RecordStep.stood (a := w.dewire) (h ▸ first)
  have failStood : w'.retrieveFail = w.retrieveFail → SameAlarms x y := fun h =>
    RecordStep.stood (a := w.retrieveFail) (h ▸ second)
  have deadStood : w'.lineDead = w.lineDead → SameAlarms y u := fun h => RecordStep.stood (a := w.lineDead) (h ▸ third)
  refine ⟨fun fail dead => ?_, fun dewire dead => ?_, fun dewire fail => ?_, fun dewire fail dead => ?_⟩
  · exact first.acts (out.of_same ((failStood fail).trans (deadStood dead))) distinct bounded
  · exact second.acts ((out.of_same (deadStood dead)).from_same (dewireStood dewire) xloader xclock) distinct bounded
  · exact third.acts (out.from_same ((dewireStood dewire).trans (failStood fail)) yloader yclock) distinct bounded
  · obtain ⟨alarms, line⟩ := ((dewireStood dewire).trans (failStood fail)).trans (deadStood dead)
    exact out.stands bounded ⟨by rw [alarms], by rw [alarms], by rw [alarms], by rw [line]⟩

/-! ### The view -/

/-- A raise of DEWIRE that is the only change of the records leaves a supply alarm held. -/
theorem dewireRaise_holds {dt : Nat} {i : WindowInput} {s : State} (due : windowDue (advance dt s) = true) (col : isCol s = true)
    (none : s.poles.dewire = none) (some : (completeWindow i (advance dt s)).poles.dewire.isSome = true)
    (fail : (completeWindow i (advance dt s)).poles.retrieveFail = s.poles.retrieveFail)
    (dead : (completeWindow i (advance dt s)).poles.lineDead = s.poles.lineDead) :
    holdsSupplyAlarm (completeWindow i (advance dt s)).alarms.table = true := by
  obtain ⟨start, x, y, u, first, second, third, -, -, -, -, out⟩ := window_steps i due col
  obtain ⟨a, ha⟩ := Option.isSome_iff_exists.1 some
  have after : SameAlarms x u := (RecordStep.stood (a := s.poles.retrieveFail) (fail ▸ second)).trans
    (RecordStep.stood (a := s.poles.lineDead) (dead ▸ third))
  rw [out.table', after.1]
  rw [none, ha] at first
  cases first with
  | stands same _ => cases same
  | raised _ _ _ same =>
    rw [same.1]
    exact raiseOwn_holds (by decide) _ _
  | widened _ _ _ no => cases no
  | cleared _ no => cases no

/-- The exit of OFF_LINE as the last supply alarm ends in a window (R18). -/
theorem offLineExit_window {dt : Nat} {i : WindowInput} {s : State} (due : windowDue (advance dt s) = true) (col : isCol s = true)
    (view : s.supply.view = .offLine) (held : holdsSupplyAlarm s.alarms.table = true)
    (free : holdsSupplyAlarm (completeWindow i (advance dt s)).alarms.table = false) :
    ((completeWindow i (advance dt s)).supply.voltageOk = true → s.supply.records = [] →
        lossIn i.edges (advance dt s) = false → LeftTheWait s (completeWindow i (advance dt s)))
      ∧ ((completeWindow i (advance dt s)).supply.voltageOk = false ∨ s.supply.records ≠ [] →
          (completeWindow i (advance dt s)).supply.view = .offLine) := by
  rw [completeWindow_col due (show isCol (advance dt s) = true from col)] at free ⊢
  obtain ⟨m, hm⟩ : ∃ m, m = measure i.edges (advance dt s) := ⟨_, rfl⟩
  obtain ⟨u, hu⟩ : ∃ u, u =
      evaluate i (lossIn i.edges (advance dt s)) (returnsOk i.edges (advance dt s)) (advance dt s).supply.view m :=
    ⟨_, rfl⟩
  have mview : m.supply.view = .offLine := by rw [hm, measure_supply]; exact view
  have mheld : holdsSupplyAlarm m.alarms.table = true := by simpa [hm] using held
  have records : m.supply.records = s.supply.records := by simp [hm]
  rw [← hm, ← hu] at free ⊢
  have free' : holdsSupplyAlarm (evaluated i m).alarms.table = false := by
    rw [← evaluate_table i (lossIn i.edges (advance dt s)) (returnsOk i.edges (advance dt s)) (advance dt s).supply.view, ← hu]
    simpa using free
  have ok : (viewAfterWindow (lossIn i.edges (advance dt s)) (returnsOk i.edges (advance dt s)) u).supply.voltageOk =
      u.supply.voltageOk := by simp
  rw [ok]
  rcases hu ▸ evaluate_view i (lossIn i.edges (advance dt s)) (returnsOk i.edges (advance dt s)) (advance dt s).supply.view m with
    ⟨⟨-, -, supply, -⟩, stood | ⟨-, waits⟩⟩ | ⟨-, no, -⟩ | ⟨same, -, -, -, isOk, empty⟩
  · rw [stood, mheld] at free'
    cases free'
  · have waits := waits free' mheld mview
    have stays : viewAfterWindow (lossIn i.edges (advance dt s)) (returnsOk i.edges (advance dt s)) u = u := by
      rcases viewAfterWindow_cases (lossIn i.edges (advance dt s)) (returnsOk i.edges (advance dt s)) u with
        ⟨-, v, -⟩ | ⟨-, -, h⟩ | ⟨-, -, h⟩
      · rcases v with v | v <;> rw [supply, mview] at v <;> cases v
      · rw [h]
        exact examineExit_stands (.inr (.inr (waits.imp (supply ▸ ·) fun some => .inl (supply ▸ some))))
      · exact h
    rw [stays, supply]
    refine ⟨fun isOk empty _ => ?_, fun _ => mview⟩
    rcases waits with no | some
    · rw [isOk] at no
      cases no
    · exact absurd (records.trans empty) some
  · rw [free'] at no
    cases no
  · have out : LeftTheWait s u := leftTheWait_evaluated (hm ▸ same)
    refine ⟨fun _ _ noLoss => ?_, fun no => ?_⟩
    · rw [noLoss, viewAfterWindow_left out.view]
      exact out
    · have isOk' : u.supply.voltageOk = true := by
        rw [same.2.2.1, enterRestoring_supply]
        simpa [told] using isOk
      rcases no with no | some
      · rw [isOk'] at no
        cases no
      · exact absurd (records.symm.trans empty) some

/-! ### The retrieve timeout (R38) -/

/-- The two poles of a window: each evaluated with the voltage ok that the window has measured (R30). -/
theorem completeWindow_pole {dt : Nat} {i : WindowInput} {s : State} (due : windowDue (advance dt s) = true) (col : isCol s = true)
    (id : PoleId) :
    poleOf id (completeWindow i (advance dt s)).poles =
      evalPole (record s) (now (advance dt s)) (measure i.edges (advance dt s)).supply.voltageOk (edgesOf id i) (poleOf id s.poles) := by
  obtain ⟨p, n, -⟩ := completeWindow_evaluated i due (show isCol (advance dt s) = true from col)
  have kept : (measure i.edges (advance dt s)).poles = s.poles := by simp
  have same : record (measure i.edges (advance dt s)) = record s := record_of_loader (by simp)
  have time : now (measure i.edges (advance dt s)) = now (advance dt s) := now_of_clock (by simp)
  have poles := polesStage_poles i (measure i.edges (advance dt s))
  rw [kept, same, time] at poles
  have p' : (windowEvaluated i (advance dt s)).poles.p = (polesStage i (measure i.edges (advance dt s))).poles.p := by
    simp [windowEvaluated]
  have n' : (windowEvaluated i (advance dt s)).poles.n = (polesStage i (measure i.edges (advance dt s))).poles.n := by
    simp [windowEvaluated]
  cases id
  · exact (p.trans p').trans (by rw [poles]; rfl)
  · exact (n.trans n').trans (by rw [poles]; rfl)

/-- What a window of a COL station makes of the three records (R39 to R42). -/
theorem completeWindow_records {dt : Nat} (i : WindowInput) {s : State} (due : windowDue (advance dt s) = true)
    (col : isCol s = true) :
    let t := completeWindow i (advance dt s)
    DewireFollows (enteredSet s.poles t.poles) t.poles s.poles.dewire t.poles.dewire
      ∧ FailFollows (timedSet s.poles t.poles) t.poles s.poles.retrieveFail t.poles.retrieveFail
      ∧ (timedSet s.poles t.poles ≠ .none → t.poles.retrieveFail.isSome = true)
      ∧ t.poles.lineDead = (if t.supply.voltageOk = true then none else s.poles.lineDead) := by
  intro t
  obtain ⟨m, hm⟩ : ∃ m, m = measure i.edges (advance dt s) := ⟨_, rfl⟩
  obtain ⟨p, n, dewire, fail, dead, -⟩ := completeWindow_evaluated i due (show isCol (advance dt s) = true from col)
  have kept : m.poles = s.poles := by simp [hm]
  have ok : t.supply.voltageOk = m.supply.voltageOk := by
    rw [(completeWindow_supply i due).2.2.2.2.1, hm, measure_supply]
  obtain ⟨⟨a, hdewire⟩, ⟨b, hfail⟩, hdead⟩ := evaluated_records i m
  have p' : t.poles.p = (polesStage i m).poles.p := p.trans (by simp [windowEvaluated, hm])
  have n' : t.poles.n = (polesStage i m).poles.n := n.trans (by simp [windowEvaluated, hm])
  have entered : enteredSet s.poles t.poles = enteredAt i m := by rw [enteredAt, enteredSet, enteredSet, p', n', kept]
  have timed : timedSet s.poles t.poles = timedAt i m := by rw [timedAt, timedSet, timedSet, p', n', kept]
  have enteredDewired : AllDewired (enteredAt i m) t.poles := by
    have := enteredAt_dewired i m
    unfold AllDewired at this ⊢
    rwa [p', n']
  have timedDewired : AllDewired (timedAt i m) t.poles := by
    have := timedAt_dewired i m
    unfold AllDewired at this ⊢
    rwa [p', n']
  rw [entered, timed, ok]
  rw [kept, ← p', ← n'] at hdewire hfail
  rw [kept] at hdead
  have fail' := (show t.poles.retrieveFail = _ from fail).trans (by rw [windowEvaluated, ← hm, hfail])
  refine ⟨?_, ?_, fun some => ?_, ?_⟩
  · rw [show t.poles.dewire = _ from dewire, windowEvaluated, ← hm, hdewire]
    exact dewireFollows enteredDewired a _
  · rw [fail']
    exact failFollows timedDewired b _
  · rw [fail']
    exact failWith_stays timedDewired some b _
  · rw [show t.poles.lineDead = _ from dead, windowEvaluated, ← hm, hdead]

/-- Settles O36: the pole's transition gives the timeout; the records follow their formulas, and the alarms and the view the steps of
the records. -/
theorem retrieveTimeoutRaisesAlarm : Obligations.RetrieveTimeoutRaisesAlarm := by
  refine ⟨fun dt i id t0 s ⟨reset, live⟩ col due state flag since ran watched up => ?_, fun dt i s ⟨reset, live⟩ col due => ?_⟩
  · obtain ⟨state', flag', retrieve'⟩ :=
      evalPole_dewired (ok := (measure i.edges (advance dt s)).supply.voltageOk) state flag since ran
      watched up
    rw [← completeWindow_pole due col id] at state' flag' retrieve'
    have row : timeOutRetrieve i id (advance dt s) = completeWindow i (advance dt s) := if_pos ⟨flag, flag'⟩
    refine ⟨_, (perform_working dt (timeOutRetrieve i id) reset).trans (by rw [row]), perform_working dt (completeWindow i) reset,
      state', flag', retrieve', (completeWindow_records i due col).2.2.1 fun none => ?_⟩
    obtain ⟨p, n⟩ := poleSet_eq_none.1 none
    cases id
    · exact absurd p (by simp [show s.poles.p.timedOut = false from flag, show (completeWindow i _).poles.p.timedOut = true from flag'])
    · exact absurd n (by simp [show s.poles.n.timedOut = false from flag, show (completeWindow i _).poles.n.timedOut = true from flag'])
  · obtain ⟨dewire, fail, -, dead⟩ := completeWindow_records i due col
    refine ⟨_, perform_working dt (completeWindow i) reset, dewire, fail, dead, window_alarms i due col, fun law view held => ?_,
      fun view held free => ?_⟩
    · refine enteredOffLine_window due col law view ?_
      rcases held with held | ⟨none, some, fail, dead⟩
      · exact held
      · exact dewireRaise_holds due col none some fail dead
    · obtain ⟨leaves, stays⟩ := offLineExit_window due col view held free
      exact ⟨fun ok empty noLoss => leaves ok empty (decide_eq_false (Nat.not_lt.2 noLoss)), stays⟩

end Sys2Proof.Machine
end

section
/-!
A period boundary (R85 to R89): what its stages leave of the Peer Table, of Supply Watch and of the grant.
-/
namespace Sys2Proof.Machine

/-! ### The entries of the other stations -/

/-- The entries of every station but `own` are the same. -/
def OthersStand (own : Station) (before after : List Peer) : Prop :=
  ∀ n, n ≠ own → after.filter (·.station == n) = before.filter (·.station == n)

namespace OthersStand
variable {own : Station} {a b c : List Peer}

theorem refl : OthersStand own a a := fun _ _ => rfl

theorem trans (h : OthersStand own a b) (h' : OthersStand own b c) : OthersStand own a c :=
  fun n other => (h' n other).trans (h n other)

theorem mapPeer (f : StateFields → StateFields) (a : List Peer) : OthersStand own a (mapPeer own f a) := by
  intro n other
  induction a with
  | nil => rfl
  | cons e rest ih =>
    have ih : (Machine.mapPeer own f rest).filter (·.station == n) = rest.filter (·.station == n) := ih
    have head : Machine.mapPeer own f (e :: rest) =
        (if e.station = own then { e with fields := f e.fields } else e) :: Machine.mapPeer own f rest := rfl
    rw [head, List.filter_cons, List.filter_cons, ih]
    by_cases mine : e.station = own
    · have off : (own == n) = false := beq_eq_false_iff_ne.2 (Ne.symm other)
      simp [mine, off]
    · rw [if_neg mine]

theorem putPeer {e : Peer} (mine : e.station = own) (a : List Peer) : OthersStand own a (putPeer e a) := by
  intro n other
  have head : ¬(e.station == n) = true := by simpa [mine] using Ne.symm other
  rw [Machine.putPeer, List.filter_append, List.filter_cons_of_neg (p := fun x : Peer => x.station == n) head, List.filter_filter,
    List.filter_filter]
  rcases lt_or_gt_of_ne other with less | more
  · have low : a.filter (fun x => x.station == n && decide (x.station < e.station)) = a.filter (·.station == n) := by
      refine List.filter_congr fun x _ => ?_
      by_cases h : x.station = n <;> simp [h, mine, less]
    have high : a.filter (fun x => x.station == n && decide (e.station < x.station)) = [] := by
      rw [List.filter_eq_nil_iff]
      intro x _
      by_cases h : x.station = n <;> simp [h, mine, less.le]
    rw [low, high, List.append_nil]
  · have low : a.filter (fun x => x.station == n && decide (x.station < e.station)) = [] := by
      rw [List.filter_eq_nil_iff]
      intro x _
      by_cases h : x.station = n <;> simp [h, mine, more.le]
    have high : a.filter (fun x => x.station == n && decide (e.station < x.station)) = a.filter (·.station == n) := by
      refine List.filter_congr fun x _ => ?_
      by_cases h : x.station = n <;> simp [h, mine, more]
    rw [low, high, List.nil_append]

end OthersStand

/-! ### The table without the own view -/

/-- An entry without its view, which no budget and no allocation looks at. -/
def blind (e : Peer) : Peer := { e with fields := { e.fields with view := .onLine } }

theorem blind_mapPeer (own : Station) (v : View) (peers : List Peer) :
    (mapPeer own (fun f => { f with view := v }) peers).map blind = peers.map blind := by
  rw [mapPeer, List.map_map]
  refine List.map_congr_left fun e _ => ?_
  by_cases h : e.station = own <;> simp [h, blind]

theorem claimant_blind (e : Peer) : claimant (blind e) = claimant e := rfl

theorem claimants_of_blind {a b : List Peer} (h : b.map blind = a.map blind) : b.map claimant = a.map claimant := by
  have := congrArg (List.map claimant) h
  simpa only [List.map_map, Function.comp_def, claimant_blind] using this

theorem batteryBudget_of_blind {a b : List Peer} (h : b.map blind = a.map blind) : batteryBudget b = batteryBudget a := by
  have ignores : ∀ l : List Peer, batteryBudget (l.map blind) = batteryBudget l := by
    intro l
    unfold batteryBudget
    rw [List.filter_map, List.map_map]
    rfl
  rw [← ignores b, h, ignores a]

theorem borrowedVoltage_of_blind {a b : List Peer} (h : b.map blind = a.map blind) : borrowedVoltage b = borrowedVoltage a := by
  have ignores : ∀ l : List Peer, borrowedVoltage (l.map blind) = borrowedVoltage l := by
    intro l
    unfold borrowedVoltage
    rw [List.find?_map, Option.bind_map]
    rfl
  rw [← ignores b, h, ignores a]

theorem floorsBudget_of_blind {a b : List Peer} (h : b.map blind = a.map blind) : floorsBudget b = floorsBudget a := by
  have ignores : ∀ l : List Peer, floorsBudget (l.map blind) = floorsBudget l := by
    intro l
    unfold floorsBudget
    rw [List.map_map]
    rfl
  rw [← ignores b, h, ignores a]

theorem stations_of_blind {a b : List Peer} (h : b.map blind = a.map blind) : b.map (·.station) = a.map (·.station) := by
  have := congrArg (List.map (·.station)) h
  simpa only [List.map_map, Function.comp_def, blind] using this

/-- The supply budget depends on the record, the own list of voltages and the entries but their views. -/
theorem supplyBudget_of_blind {s t : State} (loader : t.loader = s.loader) (volts : t.supply.volts = s.supply.volts)
    (peers : t.peers.map blind = s.peers.map blind) : supplyBudget t = supplyBudget s := by
  unfold supplyBudget smoothed
  rw [record_of_loader loader, volts, borrowedVoltage_of_blind peers, floorsBudget_of_blind peers]

/-! ### What changes the view at a boundary -/

theorem enterRestoring_blind (s : State) : (enterRestoring s).peers.map blind = s.peers.map blind := by
  obtain ⟨⟨-, -, -, h⟩ | ⟨-, -, -, h⟩, -⟩ := enterRestoring_spec s <;> rw [h] <;> exact blind_mapPeer _ _ _

theorem enterRestoring_others (s : State) : OthersStand s.loader.station s.peers (enterRestoring s).peers := by
  obtain ⟨⟨-, -, -, h⟩ | ⟨-, -, -, h⟩, -⟩ := enterRestoring_spec s <;> rw [h] <;> exact .mapPeer _ _

theorem examineExit_blind (s : State) : (examineExit s).peers.map blind = s.peers.map blind := by
  rcases examineExit_cases s with h | ⟨-, -, -, -, h⟩ <;> rw [h]
  exact enterRestoring_blind s

theorem examineExit_others (s : State) : OthersStand s.loader.station s.peers (examineExit s).peers := by
  rcases examineExit_cases s with h | ⟨-, -, -, -, h⟩ <;> rw [h]
  · exact .refl
  · exact enterRestoring_others s

theorem releaseRecords_blind (p : GapRecord → Bool) (s : State) : (releaseRecords p s).peers.map blind = s.peers.map blind := by
  rcases releaseRecords_cases p s with ⟨-, h⟩ | ⟨t, ht, h | h⟩
  · rw [h]
  · rw [h, ht]; rfl
  · rw [h, examineExit_blind, ht]; rfl

theorem releaseRecords_others (p : GapRecord → Bool) (s : State) :
    OthersStand s.loader.station s.peers (releaseRecords p s).peers := by
  rcases releaseRecords_cases p s with ⟨-, h⟩ | ⟨t, ht, h | h⟩
  · rw [h]; exact .refl
  · rw [h, ht]; exact .refl
  · have := examineExit_others t
    rw [h]
    rwa [ht] at this ⊢

theorem releaseRecords_pending (p : GapRecord → Bool) (s : State) : PendingGrows s (releaseRecords p s) := by
  rcases releaseRecords_cases p s with ⟨-, h⟩ | ⟨t, ht, h | h⟩
  · exact .of_port (by rw [h])
  · exact .of_port (by rw [h, ht]; rfl)
  · rw [h]
    exact PendingGrows.trans (.of_port (t := t) (by rw [ht]; rfl)) (examineExit_pending t)

/-- The records that a release leaves. -/
theorem releaseRecords_records (p : GapRecord → Bool) (s : State) :
    (releaseRecords p s).supply.records = s.supply.records.filter fun x => !p x := by
  rcases releaseRecords_cases p s with ⟨none, h⟩ | ⟨t, ht, h | h⟩
  · rw [h, eq_comm, List.filter_eq_self]
    simpa using none
  · rw [h, ht]; rfl
  · rw [h, ht]
    rcases examineExit_cases (s.withSupply { s.supply with records := s.supply.records.filter fun x => !p x }) with
      e | ⟨-, -, -, -, e⟩
    · rw [e]; rfl
    · rw [e, enterRestoring_supply]; rfl

theorem endAlarmEvent_others (before : List AlarmEntry) (s : State) :
    OthersStand s.loader.station s.peers (endAlarmEvent before s).peers := by
  have same : (settled before s).peers = s.peers ∧ (settled before s).loader = s.loader := by simp
  rcases endAlarmEvent_cases before s with ⟨-, h⟩ | ⟨h, -⟩ | ⟨h, -⟩ | ⟨h, -⟩ <;> rw [h]
  · exact .refl
  · rw [same.1]; exact .refl
  · rw [(enterOffLine_spec _).2.2.2.2.2.2.2.2, same.1, same.2]
    exact .mapPeer _ _
  · have := enterRestoring_others (settled before s)
    rwa [same.1, same.2] at this

/-- Under the law of OFF_LINE an event that changes neither the kind nor the phase of an alarm leaves Supply Watch alone. -/
theorem sameWatch_alarmEvent {f : State → State} {s : State} (law : OffLineUnderAlarm s) (same : SameWatch s (f s))
    (held : holdsSupplyAlarm (f s).alarms.table = holdsSupplyAlarm s.alarms.table) : SameWatch s (alarmEvent f s) := by
  unfold alarmEvent
  rcases endAlarmEvent_cases s.alarms.table (f s) with ⟨-, h⟩ | ⟨h, -⟩ | ⟨-, now, view⟩ | ⟨-, free, before, -⟩
  · rw [h]; exact same
  · rw [h]; exact same.trans (sameWatch_settled _ _)
  · rw [same.2.2.1] at view
    exact absurd (law (held ▸ now)) view
  · rw [held, before] at free
    cases free

theorem countAcks_holds (s : State) : holdsSupplyAlarm (countAcks s).alarms.table = holdsSupplyAlarm s.alarms.table := by
  unfold countAcks holdsSupplyAlarm
  rw [State.withAlarms_alarms, List.any_map]
  rfl

theorem orphan_holds (gone : Station → Bool) (s : State) :
    holdsSupplyAlarm (orphan gone s).alarms.table = holdsSupplyAlarm s.alarms.table := by
  unfold orphan holdsSupplyAlarm
  rw [State.withAlarms_alarms, List.any_map]
  congr 1
  funext e
  cases h : gone e.origin <;> simp [h, isSupplyAlarm]

end Sys2Proof.Machine
end

section
/-!
The stages of a period boundary, one after the other, and the statements about what a boundary forms and how it ages the Peer Table.
-/
namespace Sys2Proof.Machine

/-! ### The stages before the ageing -/

/-- The station when stage 3 begins. -/
def settledStages (s : State) : State := stageTwo (takePending (countBoundary (endListen s)))

/-- The station when the pending grant is formed. -/
def ripened (s : State) : State := rewriteOwn (agePeers (settledStages s))

theorem takeBoundary_due {s : State} (due : boundaryDue s = true) :
    takeBoundary s = releaseLeft s.peers (alarmEvent countAcks (stageFour (formPending (ripened s)))) := by
  rw [takeBoundary, if_pos due]
  rfl

theorem endListen_loader (s : State) :
    (endListen s).loader = { s.loader with run := if listenEnds s then .running else s.loader.run } := by
  unfold endListen
  split <;> rfl

theorem endListen_live {s : State} (live : isLive s = true) : isLive (endListen s) = true := by
  unfold isLive at live ⊢
  rw [endListen_loader]
  by_cases h : listenEnds s = true
  · simp [h]
  · simpa [h] using live

theorem takePending_peers (s : State) :
    (takePending s).peers = s.peers ∨ ∃ f, (takePending s).peers = mapPeer s.loader.station f s.peers := by
  unfold takePending
  split
  · exact .inl rfl
  · exact .inr ⟨_, setGrant_peers _ _⟩

theorem stageTwo_peers (s : State) : ∃ f, (stageTwo s).peers = mapPeer s.loader.station f s.peers := by
  obtain ⟨g, sh, h⟩ : ∃ g sh, stageTwo s = setGrant g ((latchPosted (countSource (countDemand s))).withShare sh) := ⟨_, _, rfl⟩
  refine ⟨fun f => { f with grant := g }, ?_⟩
  rw [h, setGrant_peers]
  simp

theorem endListen_others (s : State) : OthersStand s.loader.station s.peers (endListen s).peers := by
  unfold endListen
  split
  · exact OthersStand.putPeer (own := s.loader.station) (e := ⟨s.loader.station, _, _, _, _⟩) rfl s.peers
  · exact .refl

theorem settledStages_loader (s : State) : (settledStages s).loader = (endListen s).loader := by simp [settledStages]

theorem settledStages_others (s : State) : OthersStand s.loader.station s.peers (settledStages s).peers := by
  have station : (endListen s).loader.station = s.loader.station := by rw [endListen_loader]
  obtain ⟨f, two⟩ := stageTwo_peers (takePending (countBoundary (endListen s)))
  have one := takePending_peers (countBoundary (endListen s))
  simp only [takePending_keeps, countBoundary_keeps, station] at two one
  rw [settledStages, two]
  refine OthersStand.trans ?_ (.mapPeer f _)
  rcases one with h | ⟨g, h⟩ <;> rw [h]
  · exact endListen_others s
  · exact (endListen_others s).trans (.mapPeer g _)

theorem settledStages_keeps (s : State) :
    (settledStages s).clock = s.clock ∧ (settledStages s).supply = s.supply ∧ (settledStages s).alarms = s.alarms := by
  simp [settledStages]

theorem countDemand_pending (s : State) : PendingGrows s (countDemand s) := by
  unfold countDemand
  dsimp only
  split
  · exact .of_raised (d := .demandTimeout) (by rfl)
  · exact .of_port rfl

theorem countSource_pending (s : State) : PendingGrows s (countSource s) := by
  unfold countSource
  dsimp only
  split
  · split
    · exact .of_raised (d := .demandTimeout) (by rfl)
    · exact .of_port rfl
  · exact .of_port rfl

theorem settledStages_pending (s : State) : PendingGrows s (settledStages s) := by
  obtain ⟨u, hu⟩ : ∃ u, u = takePending (countBoundary (endListen s)) := ⟨_, rfl⟩
  have one : PendingGrows s u := .of_port (by simp [hu])
  have two : PendingGrows (countSource (countDemand u)) (stageTwo u) := .of_port (by simp [stageTwo])
  rw [settledStages, ← hu]
  exact one.trans (((countDemand_pending u).trans (countSource_pending _)).trans two)

/-! ### The ageing (R76, R77) -/

/-- The entries aged and the removals noted, before their consequences for the alarms. -/
def agedTable (s : State) : State :=
  let t := s.withPeers (s.peers.filterMap (agePeer (record s) s.loader.station))
  if (lostPeers s).isEmpty then t else raise .peerLost t

/-- A collector of this number is removed. -/
def losesCollector (s : State) (n : Station) : Bool := (lostPeers s).any fun e => e.station == n && e.fields.role == .col

theorem agePeers_eq (s : State) : agePeers s = alarmEvent (orphan (losesCollector s)) (agedTable s) := rfl

theorem agedTable_keeps (s : State) :
    (agedTable s).loader = s.loader ∧ (agedTable s).supply = s.supply ∧ (agedTable s).share = s.share
      ∧ (agedTable s).shed = s.shed ∧ (agedTable s).alarms = s.alarms
      ∧ (agedTable s).peers = s.peers.filterMap (agePeer (record s) s.loader.station) := by
  unfold agedTable
  dsimp only
  split <;> simp

theorem agePeer_station {r : Record} {own : Station} {e a : Peer} (h : agePeer r own e = some a) : a.station = e.station := by
  unfold agePeer at h
  split_ifs at h <;> cases h <;> rfl

/-- The entries of another station after the ageing. -/
theorem agePeers_entries {n : Station} {s : State} (other : n ≠ s.loader.station) :
    (agePeers s).peers.filter (·.station == n) =
      (s.peers.filter (·.station == n)).filterMap (agePeer (record s) s.loader.station) := by
  obtain ⟨loader, -, -, -, -, peers⟩ := agedTable_keeps s
  have event := endAlarmEvent_others (agedTable s).alarms.table (orphan (losesCollector s) (agedTable s)) n (by simpa [loader])
  rw [agePeers_eq, alarmEvent, event, (orphan_keeps _ _).2.2.2.2.2.1, peers, List.filter_filterMap, List.filterMap_filter]
  refine List.filterMap_congr fun e _ => ?_
  cases h : agePeer (record s) s.loader.station e with
  | none => simp
  | some a => simp [Option.filter_some, agePeer_station h]

theorem agePeers_pending (s : State) : PendingGrows s (agePeers s) := by
  have aged : PendingGrows s (agedTable s) := by
    unfold agedTable
    dsimp only
    split
    · exact .of_port rfl
    · exact .of_raised (d := .peerLost) (by rfl)
  rw [agePeers_eq]
  exact aged.trans (PendingGrows.trans (.of_port (by simp)) (endAlarmEvent_pending _ (orphan (losesCollector s) (agedTable s))))

/-- A removal raises PEER_LOST. -/
theorem agePeers_lost {s : State} (some : lostPeers s ≠ []) : isPending (agePeers s).port .peerLost = true := by
  have raised : isPending (agedTable s).port .peerLost = true := by
    unfold agedTable
    dsimp only
    rw [if_neg (by simpa using some)]
    simp
  rw [agePeers_eq]
  exact endAlarmEvent_pending _ (orphan (losesCollector s) (agedTable s)) _ (by simpa using raised)

/-- The alarms of a collector that is removed are orphaned (R129). -/
theorem agePeers_orphans {n : Station} {s : State} (gone : losesCollector s n = true) :
    ∀ a ∈ (agePeers s).alarms.table, a.origin = n → a.orphaned = true := by
  have table : (agePeers s).alarms.table =
      s.alarms.table.map fun a => if losesCollector s a.origin then { a with orphaned := true } else a := by
    rw [agePeers_eq, ← (agedTable_keeps s).2.2.2.2.1]
    simp [alarmEvent, orphan]
  intro a mem origin
  rw [table, List.mem_map] at mem
  obtain ⟨b, -, rfl⟩ := mem
  by_cases h : losesCollector s b.origin = true
  · rw [if_pos h]
  · rw [if_neg h] at origin
    rw [origin] at h
    exact absurd gone h

/-- Under the law of OFF_LINE the ageing leaves Supply Watch and the grant alone. -/
theorem agePeers_watch {s : State} (law : OffLineUnderAlarm s) :
    (agePeers s).supply = s.supply ∧ (agePeers s).share = s.share
      ∧ (agePeers s).peers = s.peers.filterMap (agePeer (record s) s.loader.station)
      ∧ holdsSupplyAlarm (agePeers s).alarms.table = holdsSupplyAlarm s.alarms.table := by
  obtain ⟨-, supply, share, -, alarms, peers⟩ := agedTable_keeps s
  have held : holdsSupplyAlarm (agePeers s).alarms.table = holdsSupplyAlarm s.alarms.table := by
    rw [← alarms, ← orphan_holds (losesCollector s) (agedTable s), agePeers_eq]
    simp [alarmEvent]
  obtain ⟨-, -, supply', -, share', peers'⟩ : SameWatch (agedTable s) (agePeers s) := by
    rw [agePeers_eq]
    exact sameWatch_alarmEvent (by rw [OffLineUnderAlarm, supply, alarms]; exact law) (by simp [SameWatch]) (orphan_holds _ _)
  exact ⟨supply'.trans supply, share'.trans share, peers'.trans peers, held⟩

end Sys2Proof.Machine
end

section
/-!
The statements about a period boundary: how it ages the Peer Table, and the budget, the target and the pending grant that it forms.
-/
namespace Sys2Proof.Machine

/-! ### The other stations through a whole boundary -/

/-- The station at the end of the stages, before the records of the sources that left FRESH are released. -/
def counted (s : State) : State := alarmEvent countAcks (stageFour (formPending (ripened s)))

theorem takeBoundary_releases {s : State} (due : boundaryDue s = true) : takeBoundary s = releaseLeft s.peers (counted s) :=
  takeBoundary_due due

theorem settledStages_record (s : State) :
    record (settledStages s) = record s ∧ (settledStages s).loader.station = s.loader.station := by
  unfold record
  rw [settledStages_loader, endListen_loader]
  exact ⟨rfl, rfl⟩

theorem ripened_loader (s : State) : (ripened s).loader = (endListen s).loader := by
  simp [ripened, settledStages_loader]

theorem rewriteOwn_others (s : State) : OthersStand s.loader.station s.peers (rewriteOwn s).peers := by
  unfold rewriteOwn
  split
  · exact OthersStand.putPeer (own := s.loader.station) (e := ⟨s.loader.station, _, _, _, _⟩) rfl s.peers
  · exact .refl

/-- The entries of another station at the end of the stages. -/
theorem counted_entries {n : Station} {s : State} (other : n ≠ s.loader.station) :
    (counted s).peers.filter (·.station == n) =
      (s.peers.filter (·.station == n)).filterMap (agePeer (record s) s.loader.station) := by
  obtain ⟨same, station⟩ := settledStages_record s
  have mine : (agePeers (settledStages s)).loader.station = s.loader.station := by simpa using station
  obtain ⟨u, hu⟩ : ∃ u, u = countAcks (stageFour (formPending (ripened s))) := ⟨_, rfl⟩
  have peers : u.peers = (ripened s).peers := by simp [hu]
  have event := endAlarmEvent_others (stageFour (formPending (ripened s))).alarms.table u n
    (by rw [hu]; simpa [ripened, station] using other)
  rw [counted, alarmEvent, ← hu, event, peers, ripened,
    rewriteOwn_others (agePeers (settledStages s)) n (by rw [mine]; exact other),
    agePeers_entries (by rw [station]; exact other), same, station, settledStages_others s n other]

theorem takeBoundary_entries {n : Station} {s : State} (due : boundaryDue s = true) (other : n ≠ s.loader.station) :
    (takeBoundary s).peers.filter (·.station == n) =
      (s.peers.filter (·.station == n)).filterMap (agePeer (record s) s.loader.station) := by
  have mine : (counted s).loader.station = s.loader.station := by
    simp only [counted, alarmEvent, endAlarmEvent_keeps, countAcks_keeps, stageFour_keeps, formPending_keeps, ripened_loader,
      endListen_loader]
  have released := releaseRecords_others (fun x => leavesFresh s.peers (counted s).peers x.source) (counted s) n
    (by rw [mine]; exact other)
  rw [takeBoundary_releases due, ← counted_entries other, releaseLeft, released]

theorem formPending_pending (s : State) : PendingGrows s (formPending s) := by
  unfold formPending
  dsimp only
  split
  · split
    · exact .of_raised (d := .grantShort) (by rfl)
    · exact .of_port rfl
  · exact .of_port rfl

theorem takeBoundary_pending {s : State} (due : boundaryDue s = true) : PendingGrows (formPending (ripened s)) (takeBoundary s) := by
  obtain ⟨u, hu⟩ : ∃ u, u = formPending (ripened s) := ⟨_, rfl⟩
  have four : PendingGrows u (countAcks (stageFour u)) := .of_port (by simp)
  have event : PendingGrows u (alarmEvent countAcks (stageFour u)) :=
    four.trans (endAlarmEvent_pending (stageFour u).alarms.table (countAcks (stageFour u)))
  rw [takeBoundary_due due, ← hu, releaseLeft]
  exact event.trans (releaseRecords_pending _ (alarmEvent countAcks (stageFour u)))

theorem takeBoundary_aged_pending {s : State} (due : boundaryDue s = true) :
    PendingGrows (agePeers (settledStages s)) (takeBoundary s) :=
  PendingGrows.trans (t := ripened s) (.of_port (by simp [ripened])) ((formPending_pending _).trans (takeBoundary_pending due))

/-- The entries of a station number that the table holds one entry for. -/
theorem entries_eq {s : State} {e : Peer} (sorted : (s.peers.map (·.station)).Pairwise (· < ·))
    (found : peerOf s e.station = some e) : s.peers.filter (·.station == e.station) = [e] := by
  unfold peerOf at found
  generalize s.peers = peers at sorted found
  have mem : e ∈ peers := List.mem_of_find?_eq_some found
  clear found
  induction peers with
  | nil => cases mem
  | cons x rest ih =>
    rw [List.map_cons, List.pairwise_cons] at sorted
    obtain ⟨above, sorted⟩ := sorted
    rcases List.mem_cons.1 mem with rfl | mem
    · rw [List.filter_cons_of_pos (by simp), List.filter_eq_nil_iff.2]
      intro y hy same
      exact absurd (above y.station (List.mem_map_of_mem hy)) (by rw [beq_iff_eq.1 same]; exact lt_irrefl _)
    · have less := above e.station (List.mem_map_of_mem mem)
      rw [List.filter_cons_of_neg (by simpa using less.ne), ih sorted mem]

theorem peerOf_eq (s : State) (n : Station) : peerOf s n = (s.peers.filter (·.station == n)).head? := by
  rw [List.head?_filter]
  rfl

/-- Settles O44: the entries of a station go through the ageing once, and what the ageing brings stands to the end of the boundary. -/
theorem boundaryAgesPeers : Obligations.BoundaryAgesPeers := by
  intro dt e s ⟨reset, live⟩ ⟨sorted, _, _⟩ due found other
  have one : (advance dt s).peers.filter (·.station == e.station) = [e] := entries_eq (s := advance dt s) sorted found
  have entries := takeBoundary_entries due other
  rw [one] at entries
  have row : ∀ happens : State → Bool, happens (advance dt s) = true →
      perform dt (boundaryWhen happens) s = .next (takeBoundary (advance dt s)) := by
    intro happens h
    rw [perform_working dt _ reset, boundaryWhen, if_pos h]
  have mem : e ∈ (advance dt s).peers := List.mem_of_find?_eq_some found
  refine ⟨_, perform_working dt takeBoundary reset, fun stays => ?_, fun goes => ?_⟩
  · have aged : agePeer (record s) s.loader.station e = some { e with
        age := e.age + 1
        freshness := if e.freshness = .fresh ∧ (record s).staleCount ≤ e.age + 1 then .stale e.fields.grant else e.freshness } := by
      rw [agePeer, if_neg other, if_neg (Nat.not_le.2 stays)]
    have entries' : (takeBoundary (advance dt s)).peers.filter (·.station == e.station) = [_] :=
      entries.trans (List.filterMap_cons_some aged)
    refine ⟨by rw [peerOf_eq, entries']; rfl, fun fresh stale => ⟨row _ ?_, fun x hx own => ?_⟩⟩
    · have aged' : agePeer (record (advance dt s)) (advance dt s).loader.station e = _ := aged
      refine List.any_eq_true.2 ⟨e, mem, ?_⟩
      rw [aged']
      simp [fresh, stale]
    · rw [takeBoundary_releases due, releaseLeft, releaseRecords_records, List.mem_filter] at hx
      have left : leavesFresh (advance dt s).peers (counted (advance dt s)).peers e.station = true := by
        have before : (advance dt s).peers.any (fun x => x.station == e.station && x.freshness == .fresh) = true :=
          List.any_eq_true.2 ⟨e, mem, by simp [fresh]⟩
        have after : (counted (advance dt s)).peers.any (fun x => x.station == e.station && x.freshness == .fresh) = false := by
          have stale' := counted_entries (s := advance dt s) other
          rw [one] at stale'
          rw [← List.any_filter, stale'.trans (List.filterMap_cons_some aged)]
          simp [fresh, stale]
        rw [leavesFresh, before, after]
        rfl
      rw [own, left] at hx
      exact absurd hx.2 (by simp)
  · have lost : agePeer (record s) s.loader.station e = none := by rw [agePeer, if_neg other, if_pos goes]
    have gone : e ∈ lostPeers (settledStages (advance dt s)) := by
      obtain ⟨same, station⟩ := settledStages_record (advance dt s)
      have still := settledStages_others (advance dt s) e.station other
      rw [one] at still
      have mem : e ∈ (settledStages (advance dt s)).peers := List.mem_of_mem_filter (still ▸ List.mem_singleton_self e)
      refine List.mem_filter.2 ⟨mem, ?_⟩
      rw [same, station]
      exact congrArg Option.isNone lost
    refine ⟨by rw [peerOf_eq, entries.trans (List.filterMap_cons_none lost)]; rfl,
      takeBoundary_aged_pending due _ (agePeers_lost (List.ne_nil_of_mem gone)), row _ ?_, fun role a ha origin => ?_⟩
    · refine List.any_eq_true.2 ⟨e, List.mem_filter.2 ⟨mem, congrArg Option.isNone lost⟩, by simp⟩
    · have table : (takeBoundary (advance dt s)).alarms.table =
          (agePeers (settledStages (advance dt s))).alarms.table.map fun a => { a with ack := countAck a.ack } := by
        rw [takeBoundary_releases due, (releaseLeft_keeps _ _).2.2.2.2.2.1]
        simp [counted, alarmEvent, countAcks, ripened]
      rw [table, List.mem_map] at ha
      obtain ⟨b, hb, rfl⟩ := ha
      exact agePeers_orphans (List.any_eq_true.2 ⟨e, gone, by simp [role]⟩) b hb origin

end Sys2Proof.Machine
end

section
/-!
The statement about the budget, the target and the pending grant that a boundary forms (R9, R10, R82, R92, R99, R103, R104, R107).
-/
namespace Sys2Proof.Machine

/-! ### The order of the Peer Table -/

/-- The entries stand by ascending station number (R70). -/
def Ordered (peers : List Peer) : Prop := (peers.map (·.station)).Pairwise (· < ·)

theorem Ordered.mapPeer {peers : List Peer} (h : Ordered peers) (n : Station) (f : StateFields → StateFields) :
    Ordered (mapPeer n f peers) := by rwa [Ordered, mapPeer_stations]

theorem Ordered.putPeer {peers : List Peer} (h : Ordered peers) (e : Peer) : Ordered (putPeer e peers) := by
  unfold Ordered at h ⊢
  have part : ∀ p : Peer → Bool, ((peers.filter p).map (·.station)).Pairwise (· < ·) := fun p =>
    h.sublist ((List.filter_sublist (p := p)).map _)
  rw [Machine.putPeer, List.map_append, List.map_cons, List.pairwise_append, List.pairwise_cons]
  refine ⟨part _, ⟨fun n hn => ?_, part _⟩, fun m hm n hn => ?_⟩
  · obtain ⟨x, hx, rfl⟩ := List.mem_map.1 hn
    simpa using (List.mem_filter.1 hx).2
  · obtain ⟨x, hx, rfl⟩ := List.mem_map.1 hm
    have below : x.station < e.station := by simpa using (List.mem_filter.1 hx).2
    rcases List.mem_cons.1 hn with rfl | hn
    · exact below
    · obtain ⟨y, hy, rfl⟩ := List.mem_map.1 hn
      exact below.trans (by simpa using (List.mem_filter.1 hy).2)

theorem Ordered.age {peers : List Peer} (h : Ordered peers) (r : Record) (own : Station) :
    Ordered (peers.filterMap (agePeer r own)) := by
  unfold Ordered at h ⊢
  induction peers with
  | nil => exact List.Pairwise.nil
  | cons e rest ih =>
    rw [List.map_cons, List.pairwise_cons] at h
    obtain ⟨above, h⟩ := h
    cases aged : agePeer r own e with
    | none => rw [List.filterMap_cons_none aged]; exact ih h
    | some a =>
      rw [List.filterMap_cons_some aged, List.map_cons, List.pairwise_cons]
      refine ⟨fun n hn => ?_, ih h⟩
      obtain ⟨b, hb, rfl⟩ := List.mem_map.1 hn
      obtain ⟨x, hx, step⟩ := List.mem_filterMap.1 hb
      rw [agePeer_station aged, agePeer_station step]
      exact above _ (List.mem_map_of_mem hx)

/-- In an ordered table the first entry that satisfies `p` is the lowest. -/
theorem Ordered.find_lowest {peers : List Peer} (h : Ordered peers) {p : Peer → Bool} {e : Peer} (mem : e ∈ peers) (holds : p e = true)
    (lowest : ∀ x ∈ peers, p x = true → e.station ≤ x.station) : peers.find? p = some e := by
  induction peers with
  | nil => cases mem
  | cons x rest ih =>
    unfold Ordered at h
    rw [List.map_cons, List.pairwise_cons] at h
    obtain ⟨above, h⟩ := h
    rcases List.mem_cons.1 mem with rfl | mem
    · exact List.find?_cons_of_pos holds
    · rw [List.find?_cons_of_neg]
      · exact ih h mem fun y hy => lowest y (List.mem_cons_of_mem _ hy)
      · intro hx
        exact absurd (above e.station (List.mem_map_of_mem mem)) (not_lt.2 (lowest x List.mem_cons_self hx))

/-! ### The state that the pending grant is formed on -/

theorem ripened_watch {s : State} (law : OffLineUnderAlarm s) :
    (ripened s).supply = s.supply ∧ OffLineUnderAlarm (ripened s) ∧ (ripened s).share.target = s.share.target
      ∧ (Ordered s.peers → Ordered (ripened s).peers) := by
  obtain ⟨-, supply, alarms⟩ := settledStages_keeps s
  obtain ⟨supply', share', peers', held⟩ := agePeers_watch (s := settledStages s) (by rw [OffLineUnderAlarm, supply, alarms]; exact law)
  have target : (settledStages s).share.target = s.share.target := by
    have settles : ∀ u : State, (settleCeilings u).share.target = u.share.target := by
      intro u
      simp [settleCeilings, setCeilings, settleLimit]
    rw [settledStages, stageTwo, settles, latchPosted]
    simp [countBoundary]
  have kept : (ripened s).supply = s.supply := by simp [ripened, supply', supply]
  refine ⟨kept, ?_, ?_, fun ordered => ?_⟩
  · rw [OffLineUnderAlarm, kept]
    simpa [ripened, held, alarms] using law
  · simp [ripened, share', target]
  · have one : Ordered (endListen s).peers := by
      unfold endListen
      split
      · exact ordered.putPeer _
      · exact ordered
    have two : Ordered (settledStages s).peers := by
      obtain ⟨f, h⟩ := stageTwo_peers (takePending (countBoundary (endListen s)))
      rw [settledStages, h]
      refine Ordered.mapPeer ?_ _ _
      rcases takePending_peers (countBoundary (endListen s)) with h | ⟨g, h⟩ <;> rw [h]
      · exact one
      · exact one.mapPeer _ _
    unfold ripened rewriteOwn
    split
    · refine Ordered.putPeer ?_ _
      rw [peers']
      exact two.age _ _
    · rw [peers']
      exact two.age _ _

/-- The target formed at a boundary (R92). -/
def formedTarget (s : State) : Nat :=
  if allocates s = true then grantOf s.loader.station (boundaryGrants s).1 else s.share.target

theorem formPending_share (s : State) :
    (formPending s).share = { s.share with
      budget := boundaryBudget s, target := formedTarget s, pendingGrant := some (formedPending (formedTarget s) s) } := by
  unfold formPending formedTarget
  by_cases h : allocates s = true
  · simp only [h, if_true]
    split <;> rfl
  · simp only [h, Bool.false_eq_true, if_false]
    rfl

theorem formPending_short {s : State} (runs : allocates s = true) (short : (boundaryGrants s).2 = true) :
    isPending (formPending s).port .grantShort = true := by
  unfold formPending
  simp [runs, short]

/-- What the end of a boundary leaves of the state that the pending grant was formed on. -/
theorem takeBoundary_forms {s : State} (due : boundaryDue s = true) (law : OffLineUnderAlarm s) :
    (takeBoundary s).loader = (ripened s).loader ∧ (takeBoundary s).share = (formPending (ripened s)).share
      ∧ (takeBoundary s).supply.volts = s.supply.volts
      ∧ (takeBoundary s).peers.map blind = (ripened s).peers.map blind := by
  obtain ⟨supply, law', -, -⟩ := ripened_watch law
  obtain ⟨u, hu⟩ : ∃ u, u = stageFour (formPending (ripened s)) := ⟨_, rfl⟩
  have kept : u.supply = (ripened s).supply ∧ u.alarms = (ripened s).alarms ∧ u.peers = (ripened s).peers
      ∧ u.loader = (ripened s).loader ∧ u.share = (formPending (ripened s)).share := by simp [hu]
  obtain ⟨supply', alarms', peers', loader', share'⟩ := kept
  obtain ⟨-, loader, watch, -, share, peers⟩ : SameWatch u (counted s) := by
    rw [counted, ← hu]
    exact sameWatch_alarmEvent (by rw [OffLineUnderAlarm, supply', alarms']; exact law') (by simp [SameWatch]) (countAcks_holds u)
  rw [takeBoundary_releases due, releaseLeft]
  refine ⟨?_, ?_, ?_, ?_⟩
  · rw [(releaseRecords_keeps _ _).2.1, loader, loader']
  · rw [(releaseRecords_keeps _ _).2.2.2.2.1, share, share']
  · rw [(releaseRecords_fields _ _).2.2.1, watch, supply', supply]
  · rw [releaseRecords_blind, peers, peers']

theorem hasOwn_of_live {s : State} (live : isLive s = true) : hasOwn s = true ↔ s.loader.run ≠ .listen := by
  unfold isLive at live
  unfold hasOwn isSilenced
  cases h : s.loader.run <;> rw [h] at live <;> simp_all

/-- An allocation runs where the own entry stands, but in GAP (R92). -/
theorem allocates_iff {s : State} (live : isLive s = true) :
    allocates s = true ↔ s.loader.run ≠ .listen ∧ s.supply.view ≠ .gap := by
  rw [allocates, Bool.and_eq_true, hasOwn_of_live live, bne_iff_ne]

theorem batteryBudget_eq (peers : List Peer) :
    batteryBudget peers =
      (peers.map fun e => if e.freshness = .fresh ∧ e.fields.role = .bat then e.fields.discharge.getD 0 else 0).sum := by
  unfold batteryBudget
  induction peers with
  | nil => rfl
  | cons e rest ih =>
    rw [List.map_cons, List.sum_cons, ← ih]
    by_cases h : e.freshness = .fresh ∧ e.fields.role = .bat
    · rw [if_pos h, List.filter_cons_of_pos (by simpa using h)]
      rfl
    · rw [if_neg h, List.filter_cons_of_neg (by simpa using h), Nat.zero_add]

/-- The borrowed voltage is that of the lowest FRESH entry that carries one (R82). -/
theorem borrowedVoltage_lowest {peers : List Peer} (ordered : Ordered peers) {e : Peer} {u : Nat} (mem : e ∈ peers)
    (fresh : e.freshness = .fresh) (volts : e.fields.voltage = some u)
    (lowest : ∀ x ∈ peers, x.freshness = .fresh → x.fields.voltage.isSome = true → e.station ≤ x.station) :
    borrowedVoltage peers = some u := by
  unfold borrowedVoltage
  rw [ordered.find_lowest mem (by simp [fresh, volts])
    (fun x hx h => by
      rw [Bool.and_eq_true, beq_iff_eq] at h
      exact lowest x hx h.1 h.2)]
  exact volts

theorem borrowedVoltage_none {peers : List Peer} (h : ∀ e ∈ peers, e.freshness = .fresh → e.fields.voltage = none) :
    borrowedVoltage peers = none := by
  unfold borrowedVoltage
  rw [List.find?_eq_none.2, Option.bind_none]
  intro e mem holds
  rw [Bool.and_eq_true, beq_iff_eq] at holds
  rw [h e mem holds.1] at holds
  cases holds.2

/-- Settles O43: the boundary's end leaves budget, target and pending grant as formed, and of the entries all that the budgets and the
allocation look at. -/
theorem boundaryFormsPending : Obligations.BoundaryFormsPending := by
  intro dt s ⟨reset, live⟩ law due
  have law' : OffLineUnderAlarm (advance dt s) := law
  obtain ⟨loader, share, volts, peers⟩ := takeBoundary_forms due law'
  obtain ⟨supply, -, target, ordered⟩ := ripened_watch law'
  obtain ⟨r, hr⟩ : ∃ r, r = ripened (advance dt s) := ⟨_, rfl⟩
  obtain ⟨t, ht⟩ : ∃ t, t = takeBoundary (advance dt s) := ⟨_, rfl⟩
  have short := takeBoundary_pending due .grantShort
  have first : r.loader = { s.loader with run := if listenEnds (advance dt s) then .running else s.loader.run } := by
    rw [hr, ripened_loader, endListen_loader]
    rfl
  have liveR : isLive r = true := by
    rw [isLive_of_loader (s := endListen (advance dt s)) (by rw [hr, ripened_loader])]
    exact endListen_live live
  rw [← hr] at loader share peers supply target ordered short
  rw [← ht] at loader share volts peers short
  have recordS : record t = record s := by
    unfold record
    rw [loader, first]
  have view : r.supply.view = s.supply.view := by rw [supply]; rfl
  have budget : supplyBudget t = supplyBudget r :=
    supplyBudget_of_blind loader (by rw [volts, supply]) peers
  have runs : (t.loader.run ≠ .listen ∧ s.supply.view ≠ .gap) ↔ allocates r = true := by
    rw [allocates_iff liveR, loader, view]
  have formed : boundaryBudget r =
      if (t.loader.run ≠ .listen ∧ s.supply.view ≠ .gap) ∧ s.supply.view = .offLine then batteryBudget t.peers
      else supplyBudget t := by
    unfold boundaryBudget
    rw [← view] at runs ⊢
    simp only [runs, batteryBudget_of_blind peers, budget]
  have grants : boundaryGrants r = allocate
      (if (t.loader.run ≠ .listen ∧ s.supply.view ≠ .gap) ∧ s.supply.view = .offLine then batteryBudget t.peers else supplyBudget t)
      (t.peers.map claimant) := by rw [boundaryGrants, formed, claimants_of_blind peers]
  rw [formPending_share] at share
  have pending : t.share.pendingGrant = some (formedPending t.share.target r) := by rw [share]
  have kept : t.share.grant = r.share.grant ∧ t.share.floor = r.share.floor := by rw [share]; exact ⟨rfl, rfl⟩
  refine ⟨t, ht ▸ perform_working dt takeBoundary reset, ⟨?_, ?_, fun run low => short (formPending_short (runs.1 run) ?_), ?_⟩,
    fun input => ?_, fun e mem u input ok fresh some lowest => ?_, fun input none => ?_, batteryBudget_eq _⟩
  · rw [share]
    exact formed
  · rw [share, ← grants, loader]
    rw [loader] at runs
    exact if_congr runs.symm rfl target
  · rw [grants]
    exact low
  · rw [pending]
    unfold formedPending viewPending holdValue rampedGrant
    rw [kept.1, kept.2, loader, isSilenced_of_loader loader, record_of_loader loader, view]
  · rw [supplyBudget, recordS, if_pos input, smoothed_eq, volts]
    rfl
  · have find := borrowedVoltage_lowest (e := e) (u := u) (peers := t.peers) ?_ mem fresh some lowest
    · rw [supplyBudget, recordS, input, find]
      rfl
    · rw [Ordered, stations_of_blind peers]
      exact ordered ok.1
  · rw [supplyBudget, recordS, input, borrowedVoltage_none none]
    rfl

end Sys2Proof.Machine
end

section
/-!
What the operations of the Alarm Table keep of its two laws (R117, R118, R120, R126): at most four alarms of an origin, the origins
0 and 1, and no two alarms of one origin and number.
-/
namespace Sys2Proof.Machine

/-! ### The ways to change a table -/

/-- The two states are of one station with one record. -/
def SameStation (s t : State) : Prop := t.loader.station = s.loader.station ∧ t.loader.locked = s.loader.locked

theorem SameStation.of_loader {s t : State} (h : t.loader = s.loader) : SameStation s t := by rw [SameStation, h]; exact ⟨rfl, rfl⟩

theorem SameStation.isCol {s t : State} (h : SameStation s t) : isCol t = isCol s := by
  unfold Machine.isCol record
  rw [h.2]

/-- The laws of the alarm table pass on from `s` to `t`. -/
structure TableKept (s t : State) : Prop where
  bounded : AlarmTableBounded s → AlarmTableBounded t
  distinct : AlarmTableBounded s → AlarmsDistinct s → AlarmsDistinct t

namespace TableKept
variable {s t u : State}

theorem refl : TableKept s s := ⟨id, fun _ => id⟩

theorem trans (h : TableKept s t) (h' : TableKept t u) : TableKept s u :=
  ⟨h'.bounded ∘ h.bounded, fun b d => h'.distinct (h.bounded b) (h.distinct b d)⟩

/-- Entries leave the table. -/
theorem of_sublist (same : SameStation s t) (h : t.alarms.table.Sublist s.alarms.table) : TableKept s t := by
  refine ⟨fun ⟨few, origins, col⟩ => ⟨fun o => ?_, fun e mem => origins e (h.subset mem), fun c => ?_⟩, fun _ distinct => ?_⟩
  · exact (h.filter _).length_le.trans (few o)
  · rw [same.1]
    exact col (same.isCol ▸ c)
  · exact distinct.sublist (h.map _)

theorem of_table (same : SameStation s t) (h : t.alarms.table = s.alarms.table) : TableKept s t :=
  of_sublist same (h ▸ List.Sublist.refl _)

/-- Entries change in their places, under their origins and numbers. -/
theorem of_map (same : SameStation s t) {f : AlarmEntry → AlarmEntry}
    (names : ∀ e, (f e).origin = e.origin ∧ (f e).number = e.number) (h : t.alarms.table = s.alarms.table.map f) :
    TableKept s t := by
  refine ⟨fun ⟨few, origins, col⟩ => ⟨fun o => ?_, fun e mem => ?_, fun c => ?_⟩, fun _ distinct => ?_⟩
  · have same : ofOrigin o t.alarms.table = (ofOrigin o s.alarms.table).map f := by
      unfold ofOrigin
      rw [h, List.filter_map]
      exact congrArg _ (List.filter_congr fun e _ => by simp [(names e).1])
    rw [same, List.length_map]
    exact few o
  · rw [h, List.mem_map] at mem
    obtain ⟨x, mem, rfl⟩ := mem
    rw [(names x).1]
    exact origins x mem
  · rw [same.1]
    exact col (same.isCol ▸ c)
  · have keys : t.alarms.table.map (fun e => (e.origin, e.number)) = s.alarms.table.map fun e => (e.origin, e.number) := by
      rw [h, List.map_map]
      exact List.map_congr_left fun e _ => by simp [(names e).1, (names e).2]
    rw [AlarmsDistinct, keys]
    exact distinct

/-- An entry joins, of an origin that has room for it and under a number that none of its origin holds. -/
theorem of_add (same : SameStation s t) {e : AlarmEntry} (h : t.alarms.table = s.alarms.table ++ [e])
    (room : AlarmTableBounded s → (ofOrigin e.origin s.alarms.table).length < 4 ∧ e.origin.val ≤ 1)
    (fresh : AlarmTableBounded s → ∀ x ∈ s.alarms.table, x.origin = e.origin → x.number ≠ e.number) : TableKept s t := by
  refine ⟨fun bounded => ?_, fun bounded distinct => ?_⟩
  · obtain ⟨few, origins, col⟩ := bounded
    obtain ⟨less, origin⟩ := room ⟨few, origins, col⟩
    refine ⟨fun o => ?_, fun x mem => ?_, fun c => ?_⟩
    · have split : ofOrigin o t.alarms.table = ofOrigin o s.alarms.table ++ ofOrigin o [e] := by
        rw [h]
        exact List.filter_append _ _
      rw [split, List.length_append]
      by_cases mine : e.origin = o
      · have one : (ofOrigin o [e]).length = 1 := by simp [ofOrigin, mine]
        rw [mine] at less
        omega
      · have none : (ofOrigin o [e]).length = 0 := by simp [ofOrigin, mine]
        have := few o
        omega
    · rw [h, List.mem_append, List.mem_singleton] at mem
      rcases mem with mem | rfl
      · exact origins x mem
      · exact origin
    · rw [same.1]
      exact col (same.isCol ▸ c)
  · rw [AlarmsDistinct, h, List.map_append, List.map_singleton, List.nodup_append]
    refine ⟨distinct, List.nodup_singleton _, fun a ha b hb same => ?_⟩
    obtain ⟨x, mem, rfl⟩ := List.mem_map.1 ha
    rw [List.mem_singleton.1 hb, Prod.mk.injEq] at same
    exact fresh bounded x mem same.1 same.2

end TableKept

/-! ### Changes and closes -/

theorem tableKept_closeEntry (e : AlarmEntry) (r : CloseReason) (s : State) : TableKept s (closeEntry e r s) :=
  .of_sublist (.of_loader (by simp)) List.filter_sublist

theorem tableKept_mapAlarm (o : Station) (n : Byte) {f : AlarmEntry → AlarmEntry}
    (names : ∀ e, (f e).origin = e.origin ∧ (f e).number = e.number) (s : State) : TableKept s (mapAlarm o n f s) := by
  refine .of_map (.of_loader (by simp)) (f := fun e => if isEntry o n e then f e else e) (fun e => ?_) rfl
  split
  · exact names e
  · exact ⟨rfl, rfl⟩

theorem tableKept_noticeFor {e : AlarmEntry} {p : NoticePhase} {s t : State} (h : TableKept s t) :
    TableKept s (noticeFor e p t) :=
  h.trans (.of_table (.of_loader (by simp)) (by rw [noticeFor_alarms]))

theorem tableKept_closeOwn (e : AlarmEntry) (r : CloseReason) (s : State) : TableKept s (closeOwn e r s) :=
  tableKept_noticeFor (tableKept_closeEntry e r s)

theorem tableKept_changeOwn (e : AlarmEntry) (p : Phase) (ps : PoleSet) (s : State) : TableKept s (changeOwn e p ps s) :=
  tableKept_noticeFor (tableKept_mapAlarm e.origin e.number (f := fun x => { x with phase := p, poles := ps })
    (fun _ => ⟨rfl, rfl⟩) s)

/-- The entry that a close takes is gone. -/
theorem not_mem_closeEntry {e x : AlarmEntry} {r : CloseReason} {s : State} (mem : x ∈ (closeEntry e r s).alarms.table)
    (origin : x.origin = e.origin) : x.number ≠ e.number := by
  have := (List.mem_filter.1 mem).2
  intro number
  simp [isEntry, origin, number] at this

theorem mem_of_mem_closeEntry {e x : AlarmEntry} {r : CloseReason} {s : State} (mem : x ∈ (closeEntry e r s).alarms.table) :
    x ∈ s.alarms.table := List.mem_of_mem_filter mem

/-! ### A new entry at a listener (R126) -/

theorem addEntry_table (e : AlarmEntry) (s : State) : (addEntry e s).alarms.table = s.alarms.table ++ [e] := by
  unfold addEntry
  dsimp only
  split <;> simp

theorem tableKept_addEntry {e : AlarmEntry} {s : State}
    (room : AlarmTableBounded s → (ofOrigin e.origin s.alarms.table).length < 4 ∧ e.origin.val ≤ 1)
    (fresh : AlarmTableBounded s → ∀ x ∈ s.alarms.table, x.origin = e.origin → x.number ≠ e.number) :
    TableKept s (addEntry e s) :=
  .of_add (.of_loader (by simp)) (addEntry_table e s) room fresh

/-- An entry is added as it is, or one of its origin gives way to it first. -/
theorem addHeard_cases (e : AlarmEntry) (s : State) :
    ((ofOrigin e.origin s.alarms.table).length < 4 ∧ addHeard e s = addEntry e s)
      ∨ ∃ old, old ∈ s.alarms.table ∧ old.origin = e.origin ∧ addHeard e s = addEntry e (closeEntry old .forced s) := by
  unfold addHeard
  by_cases few : (ofOrigin e.origin s.alarms.table).length < 4
  · exact .inl ⟨few, if_pos few⟩
  · rw [if_neg few]
    obtain ⟨old, gives⟩ := givesWay_some (o := e.origin) (table := s.alarms.table) (by
      intro none
      rw [none] at few
      exact few (by decide))
    obtain ⟨mem, origin⟩ := givesWay_mem gives
    rw [gives]
    exact .inr ⟨old, mem, origin, rfl⟩

theorem tableKept_addHeard {e : AlarmEntry} {s : State} (origin : e.origin.val ≤ 1)
    (fresh : ∀ x ∈ s.alarms.table, x.origin = e.origin → x.number ≠ e.number) : TableKept s (addHeard e s) := by
  rcases addHeard_cases e s with ⟨few, h⟩ | ⟨old, mem, same, h⟩ <;> rw [h]
  · exact tableKept_addEntry (fun _ => ⟨few, origin⟩) (fun _ => fresh)
  · have fewer := close_length (r := .forced) mem
    rw [same] at fewer
    have close := tableKept_closeEntry old .forced s
    have add : AlarmTableBounded s → TableKept (closeEntry old .forced s) (addEntry e (closeEntry old .forced s)) :=
      fun bounded => tableKept_addEntry (fun _ => ⟨fewer.trans_le (bounded.1 e.origin), origin⟩)
        (fun _ x hx => fresh x (mem_of_mem_closeEntry hx))
    exact ⟨fun b => (add b).bounded (close.bounded b), fun b d => (add b).distinct (close.bounded b) (close.distinct b d)⟩

/-- The entries after an addition: the new one, and of those before. -/
theorem mem_addHeard {e x : AlarmEntry} {s : State} (mem : x ∈ (addHeard e s).alarms.table) : x = e ∨ x ∈ s.alarms.table := by
  rcases addHeard_cases e s with ⟨-, h⟩ | ⟨old, -, -, h⟩
  · rw [h, addEntry_table, List.mem_append, List.mem_singleton] at mem
    exact mem.symm
  · rw [h, addEntry_table, List.mem_append, List.mem_singleton] at mem
    exact mem.symm.imp_right mem_of_mem_closeEntry

/-! ### A notice taken (R124) -/

theorem tableKept_newNotice {src : Station} {c : AlarmContent} {s : State} (source : src.val ≤ 1)
    (fresh : ∀ x ∈ s.alarms.table, x.origin = src → x.number ≠ c.number) : TableKept s (newNotice src c s) := by
  unfold newNotice
  cases c.phase with
  | closed _ => exact .refl
  | opened p => exact tableKept_addHeard source fresh

theorem tableKept_takeNotice {src : Station} (c : AlarmContent) (s : State) (source : src.val ≤ 1) :
    TableKept s (takeNotice src c s) := by
  unfold takeNotice
  cases found : findAlarm s src c.number with
  | none =>
    refine tableKept_newNotice source fun x mem origin number => ?_
    have := List.find?_eq_none.1 found x mem
    simp [isEntry, origin, number] at this
  | some e =>
    dsimp only
    split
    · split
      · refine tableKept_mapAlarm src c.number ?_ s
        exact fun _ => ⟨rfl, rfl⟩
      · exact tableKept_closeEntry _ _ _
    · have entry : isEntry src c.number e = true := List.find?_some found
      simp only [isEntry, Bool.and_eq_true, beq_iff_eq] at entry
      refine (tableKept_closeEntry e .normal s).trans (tableKept_newNotice source fun x mem origin => ?_)
      rw [← entry.2]
      exact not_mem_closeEntry mem (origin.trans entry.1.symm)

/-! ### A summary reconciled (R127) -/

/-- Every entry of the origin stands in the list of items. -/
def Listed (o : Station) (items : List SummaryItem) (s : State) : Prop :=
  ∀ e ∈ s.alarms.table, e.origin = o → ∃ i ∈ items, matchesItem e i = true

/-- Closing entries one after the other leaves those of the table whose names are not among them. -/
theorem closes_spec (r : CloseReason) (gone : List AlarmEntry) (s : State) :
    TableKept s (gone.foldl (fun s e => closeEntry e r s) s)
      ∧ ∀ x ∈ (gone.foldl (fun s e => closeEntry e r s) s).alarms.table, x ∈ s.alarms.table ∧ x ∉ gone := by
  induction gone generalizing s with
  | nil => exact ⟨.refl, fun x mem => ⟨mem, List.not_mem_nil⟩⟩
  | cons e rest ih =>
    obtain ⟨kept, left⟩ := ih (closeEntry e r s)
    refine ⟨(tableKept_closeEntry e r s).trans kept, fun x mem => ?_⟩
    obtain ⟨held, other⟩ := left x mem
    refine ⟨mem_of_mem_closeEntry held, fun now => ?_⟩
    rcases List.mem_cons.1 now with rfl | now
    · exact not_mem_closeEntry held rfl rfl
    · exact other now

theorem closeMissing_spec (o : Station) (items : List SummaryItem) (r : CloseReason) (s : State) :
    TableKept s (closeMissing o items r s) ∧ Listed o items (closeMissing o items r s) := by
  unfold closeMissing
  obtain ⟨kept, left⟩ := closes_spec r ((ofOrigin o s.alarms.table).filter fun e => !items.any (matchesItem e)) s
  refine ⟨kept, fun e mem origin => ?_⟩
  obtain ⟨held, stays⟩ := left e mem
  by_contra none
  refine stays (List.mem_filter.2 ⟨List.mem_filter.2 ⟨held, by simpa using origin⟩, ?_⟩)
  simpa using none

/-- The items kept of a summary have one number each, none of those seen before. -/
theorem firstItems_spec (seen : List Byte) (items : List SummaryItem) :
    ((firstItems seen items).map (·.number)).Nodup ∧ ∀ i ∈ firstItems seen items, i.number ∉ seen := by
  induction items generalizing seen with
  | nil => exact ⟨List.nodup_nil, fun i mem => absurd mem List.not_mem_nil⟩
  | cons i rest ih =>
    unfold firstItems
    by_cases known : seen.contains i.number = true
    · rw [if_pos known]
      exact ih seen
    · rw [if_neg known]
      obtain ⟨nodup, unseen⟩ := ih (i.number :: seen)
      refine ⟨?_, fun j mem => ?_⟩
      · rw [List.map_cons, List.nodup_cons]
        refine ⟨fun again => ?_, nodup⟩
        obtain ⟨j, mem, same⟩ := List.mem_map.1 again
        exact unseen j mem (by rw [same]; exact List.mem_cons_self)
      · rcases List.mem_cons.1 mem with rfl | mem
        · simpa using known
        · exact fun h => unseen j mem (List.mem_cons_of_mem _ h)

/-- In a list of items with one number each, the number gives the item. -/
theorem item_of_number {items : List SummaryItem} (nodup : (items.map (·.number)).Nodup) {i j : SummaryItem} (hi : i ∈ items)
    (hj : j ∈ items) (same : i.number = j.number) : i = j := List.inj_on_of_nodup_map nodup hi hj same

theorem addItem_spec {o : Station} {items : List SummaryItem} {i : SummaryItem} {s : State} (origin : o.val ≤ 1)
    (nodup : (items.map (·.number)).Nodup) (mem : i ∈ items) (listed : Listed o items s) :
    TableKept s (addItem o s i) ∧ Listed o items (addItem o s i) := by
  unfold addItem
  by_cases held : (ofOrigin o s.alarms.table).any (fun e => matchesItem e i) = true
  · rw [if_pos held]
    exact ⟨.refl, listed⟩
  · rw [if_neg held]
    refine ⟨tableKept_addHeard origin fun x hx source number => held ?_, fun e he source => ?_⟩
    · obtain ⟨j, hj, same⟩ := listed x hx source
      have name : x.number = j.number := by
        simp only [matchesItem, Bool.and_eq_true, beq_iff_eq] at same
        exact same.1
      have one : j = i := item_of_number nodup hj mem (name.symm.trans number)
      rw [one] at same
      exact List.any_eq_true.2 ⟨x, List.mem_filter.2 ⟨hx, beq_iff_eq.2 source⟩, same⟩
    · rcases mem_addHeard he with rfl | he
      · exact ⟨i, mem, by simp [matchesItem, heardEntry]⟩
      · exact listed e he source

theorem addItems_kept {o : Station} {items : List SummaryItem} (nodup : (items.map (·.number)).Nodup)
    (some : List SummaryItem) (origin : some = [] ∨ o.val ≤ 1) (sub : ∀ i ∈ some, i ∈ items) {s : State}
    (listed : Listed o items s) : TableKept s (some.foldl (addItem o) s) := by
  induction some generalizing s with
  | nil => exact .refl
  | cons i rest ih =>
    have source : o.val ≤ 1 := origin.resolve_left (List.cons_ne_nil _ _)
    obtain ⟨kept, listed⟩ := addItem_spec source nodup (sub i List.mem_cons_self) listed
    exact kept.trans (ih (.inr source) (fun j hj => sub j (List.mem_cons_of_mem _ hj)) listed)

theorem takeItem_names (items : List SummaryItem) (e : AlarmEntry) :
    (takeItem items e).origin = e.origin ∧ (takeItem items e).number = e.number ∧ (takeItem items e).kind = e.kind := by
  unfold takeItem
  split <;> exact ⟨rfl, rfl, rfl⟩

theorem tableKept_reconcile {o : Station} (summary : List SummaryItem) (rejoin : Bool) (s : State)
    (origin : summary = [] ∨ o.val ≤ 1) : TableKept s (reconcile o summary rejoin s) := by
  obtain ⟨items, hitems⟩ : ∃ items, items = firstItems [] summary := ⟨_, rfl⟩
  have nodup : (items.map (·.number)).Nodup := hitems ▸ (firstItems_spec [] summary).1
  obtain ⟨a, ha⟩ : ∃ a, a = closeMissing o items (if rejoin then .originRestarted else .normal) s := ⟨_, rfl⟩
  obtain ⟨b, hb⟩ : ∃ b, b = a.withAlarms { a.alarms with
      table := a.alarms.table.map fun e => if e.origin = o then takeItem items e else e } := ⟨_, rfl⟩
  obtain ⟨c, hc⟩ : ∃ c, c = items.foldl (addItem o) b := ⟨_, rfl⟩
  have result : reconcile o summary rejoin s = c.withAlarms { c.alarms with
      table := c.alarms.table.map fun e => if e.origin = o then { e with orphaned := false } else e } := by
    rw [hc, hb, ha, hitems]
    rfl
  obtain ⟨closed, listed⟩ := closeMissing_spec o items (if rejoin then .originRestarted else .normal) s
  rw [← ha] at closed listed
  have taken : TableKept a b := by
    refine .of_map (.of_loader (by rw [hb]; rfl)) (fun e => ?_) (by rw [hb]; rfl)
    split
    · exact ⟨(takeItem_names items e).1, (takeItem_names items e).2.1⟩
    · exact ⟨rfl, rfl⟩
  have listed' : Listed o items b := by
    intro e mem source
    rw [hb] at mem
    obtain ⟨x, hx, rfl⟩ := List.mem_map.1 mem
    by_cases mine : x.origin = o
    · obtain ⟨i, hi, same⟩ := listed x hx mine
      rw [if_pos mine]
      exact ⟨i, hi, by rw [matchesItem, (takeItem_names items x).2.1, (takeItem_names items x).2.2]; exact same⟩
    · rw [if_neg mine] at source
      exact absurd source mine
  have added : TableKept b c := hc ▸ addItems_kept nodup items
      (origin.imp_left fun none => by rw [hitems, none]; rfl) (fun _ h => h) listed'
  have cleared : TableKept c (reconcile o summary rejoin s) := by
    refine .of_map (.of_loader (by rw [result]; rfl)) (fun e => ?_) (by rw [result]; rfl)
    split <;> exact ⟨rfl, rfl⟩
  exact ((closed.trans taken).trans added).trans cleared

/-! ### Marks and ack pendings (R129, R132) -/

theorem tableKept_orphan (gone : Station → Bool) (s : State) : TableKept s (orphan gone s) :=
  .of_map (.of_loader (by simp)) (fun e => by split <;> exact ⟨rfl, rfl⟩) rfl

theorem tableKept_countAcks (s : State) : TableKept s (countAcks s) :=
  .of_map (.of_loader (by simp)) (f := fun e => { e with ack := countAck e.ack }) (fun _ => ⟨rfl, rfl⟩) rfl

theorem tableKept_reportSent (c : AckContent) (s : State) : TableKept s (reportSent c s) := by
  refine tableKept_mapAlarm c.origin c.number ?_ s
  exact fun _ => ⟨rfl, rfl⟩

theorem tableKept_reportDiscarded (c : AckContent) (s : State) : TableKept s (reportDiscarded c s) := by
  refine tableKept_mapAlarm c.origin c.number ?_ s
  exact fun _ => ⟨rfl, rfl⟩

theorem tableKept_reportsSent (cs : List AckContent) (s : State) : TableKept s (cs.foldl (fun s c => reportSent c s) s) := by
  induction cs generalizing s with
  | nil => exact .refl
  | cons c rest ih => exact (tableKept_reportSent c s).trans (ih _)

theorem tableKept_reportsDiscarded (cs : List AckContent) (s : State) :
    TableKept s (cs.foldl (fun s c => reportDiscarded c s) s) := by
  induction cs generalizing s with
  | nil => exact .refl
  | cons c rest ih => exact (tableKept_reportDiscarded c s).trans (ih _)

/-! ### The origin (section 7.2) -/

theorem tableKept_makeOwnRoom (s : State) : TableKept s (makeOwnRoom s) := by
  unfold makeOwnRoom
  split
  · exact .refl
  · split
    · exact tableKept_closeOwn _ _ _
    · exact .refl

theorem tableKept_raiseOwn (k : AlarmKind) (ps : PoleSet) {s : State} (col : isCol s = true) : TableKept s (raiseOwn k ps s) := by
  obtain ⟨x, hx⟩ : ∃ x, x = makeOwnRoom s := ⟨_, rfl⟩
  have loader : x.loader = s.loader := by simp [hx]
  obtain ⟨e, he⟩ : ∃ e : AlarmEntry, e =
      ⟨x.loader.station, raiseNumber x, k, ps, .activeUnack, some (now x), now x, .absent, false⟩ := ⟨_, rfl⟩
  have table : (raiseOwn k ps s).alarms.table = x.alarms.table ++ [e] := by
    rw [he, hx]
    exact (addOwn_spec _ _ _ _).1
  have add : AlarmTableBounded s → TableKept x (raiseOwn k ps s) := by
    intro bounded
    have few : (ownAlarms x).length < 4 := hx ▸ makeOwnRoom_length s (bounded.1 _)
    refine .of_add (.of_loader (by rw [loader]; simp)) table (fun _ => ?_) fun _ y mem origin => ?_
    · rw [he]
      exact ⟨few, loader ▸ bounded.2.2 col⟩
    · rw [he] at origin ⊢
      exact (raiseNumber_firstFree x x rfl rfl (by omega)).1 y mem origin
  have room : TableKept s x := hx ▸ tableKept_makeOwnRoom s
  exact ⟨fun b => (add b).bounded (room.bounded b), fun b d => (add b).distinct (room.bounded b) (room.distinct b d)⟩

theorem tableKept_widenOwn (n : Byte) (s : State) : TableKept s (widenOwn n s) := by
  unfold widenOwn
  split
  · exact tableKept_changeOwn _ _ _ _
  · exact .refl

theorem tableKept_clearOwn (n : Byte) (s : State) : TableKept s (clearOwn n s) := by
  unfold clearOwn
  split
  · exact .refl
  · split
    · exact tableKept_changeOwn _ _ _ _
    · exact tableKept_closeOwn _ _ _
    · exact .refl

theorem tableKept_ackOwn (n : Byte) (s : State) : TableKept s (ackOwn n s) := by
  unfold ackOwn
  split
  · exact .refl
  · split
    · exact tableKept_changeOwn _ _ _ _
    · exact .refl
    · exact tableKept_closeOwn _ _ _

theorem tableKept_lineDeadRaise (s : State) : TableKept s (lineDeadRaise s) := by
  by_cases raises : RaisesLineDead s
  · have raised : lineDeadRaise s =
        withLineDead (some ⟨raiseNumber (makeOwnRoom s), .none, false, false⟩) (raiseOwn .lineDead .none s) := if_pos raises
    rw [raised]
    exact (tableKept_raiseOwn .lineDead .none raises.1).trans (.of_table (.of_loader (by simp)) rfl)
  · rw [show lineDeadRaise s = s from if_neg raises]
    exact .refl

/-- One step of an active-alarm record at a COL station. -/
theorem RecordStep.kept {k : AlarmKind} {acting : PoleSet} {before after : Option ActiveAlarm} {s t : State}
    (h : RecordStep k acting before after s t) (col : isCol s = true) (loader : t.loader = s.loader) : TableKept s t := by
  have same : ∀ u : State, u.loader = s.loader → SameAlarms u t → TableKept u t := fun u hu h =>
    .of_table (.of_loader (loader.trans hu.symm)) (by rw [h.1])
  cases h with
  | stands _ h => exact same s rfl h
  | raised _ _ _ h => exact (tableKept_raiseOwn k acting col).trans (same _ (by simp) h)
  | widened a _ _ _ _ _ _ h => exact (tableKept_widenOwn a.number s).trans (same _ (by simp) h)
  | cleared a _ _ h => exact (tableKept_clearOwn a.number s).trans (same _ (by simp) h)

/-- The changes of an evaluation. -/
theorem tableKept_evaluated (i : WindowInput) {s : State} (col : isCol s = true) : TableKept s (evaluated i s) := by
  obtain ⟨x, y, u, first, second, third, xloader, yloader, -, -, result⟩ := evaluated_steps i s
  obtain ⟨start, hstart⟩ : ∃ start, start = (polesStage i s).withAlarms { (polesStage i s).alarms with history := [] } := ⟨_, rfl⟩
  have startLoader : start.loader = s.loader := by rw [hstart]; simp
  have uloader : u.loader = s.loader := by
    have := congrArg State.loader result
    simpa using this.symm
  rw [← hstart] at first
  have a : TableKept s start := .of_table (.of_loader startLoader) (by rw [hstart]; simp)
  have b := first.kept (by rw [isCol_of_loader startLoader]; exact col) (xloader.trans startLoader.symm)
  have c := second.kept (by rw [isCol_of_loader xloader]; exact col) (yloader.trans xloader.symm)
  have d := third.kept (by rw [isCol_of_loader yloader]; exact col) (uloader.trans yloader.symm)
  have e : TableKept u (evaluated i s) := .of_table (.of_loader (by rw [uloader]; simp)) (by rw [result]; rfl)
  exact (((a.trans b).trans c).trans d).trans e

end Sys2Proof.Machine
end

section
/-!
What keeps the laws of the alarm table, of the view, of its timers, of the poles and of the windows: the shapes that every operation
is made of, and the operations of Supply Watch and Pole Watch. `Q` stands for what is known of the station's silence.
-/
namespace Sys2Proof.Machine

/-! ### Keeping the laws -/

/-- The law of one pole (R37), at a station that is live or not. -/
def PoleLaw (live : Bool) (q : Pole) : Prop :=
  (q.firstMark = true → q.state = .notEvaluated)
    ∧ (q.firstMark = false → q.retrieve = (q.state == .dewired || q.state == .lowered))
    ∧ q.capture = none
    ∧ (live = false → q.state = .notEvaluated ∧ q.opened = none)

theorem retrieveFollowsPole_iff (s : State) :
    RetrieveFollowsPole s ↔ PoleLaw (isLive s) s.poles.p ∧ PoleLaw (isLive s) s.poles.n := by
  simp [RetrieveFollowsPole, PoleLaw]

/-- Every law passes on from `s` to `t`; those about a station that works, where `Q` holds. -/
structure Keeps (Q : Prop) (s t : State) : Prop where
  table : TableKept s t
  offLine : OffLineUnderAlarm s → OffLineUnderAlarm t
  retrieve : Q → RetrieveFollowsPole s → RetrieveFollowsPole t
  timers : Q → TimersFollowView s → TimersFollowView t
  windows : Q → WindowsOk s → WindowsOk t

/-- The station, its liveness, its poles and its window measures are the same. -/
structure Steady (Q : Prop) (s t : State) : Prop where
  same : SameStation s t
  live : Q → isLive t = isLive s
  measures : t.supply.volts = s.supply.volts ∧ t.supply.run = s.supply.run ∧ t.supply.voltageOk = s.supply.voltageOk
    ∧ t.supply.count = s.supply.count
  poles : t.poles.p = s.poles.p ∧ t.poles.n = s.poles.n

/-- And so are the view and its two timers. -/
structure Still (Q : Prop) (s t : State) : Prop extends Steady Q s t where
  view : t.supply.view = s.supply.view ∧ t.supply.gapStart = s.supply.gapStart ∧ t.shed.restore = s.shed.restore

variable {Q : Prop} {s t u : State}

theorem Keeps.refl : Keeps Q s s := ⟨.refl, id, fun _ => id, fun _ => id, fun _ => id⟩

theorem Keeps.trans (h : Keeps Q s t) (h' : Keeps Q t u) : Keeps Q s u where
  table := h.table.trans h'.table
  offLine := h'.offLine ∘ h.offLine
  retrieve q := h'.retrieve q ∘ h.retrieve q
  timers q := h'.timers q ∘ h.timers q
  windows q := h'.windows q ∘ h.windows q

theorem SameStation.trans (h : SameStation s t) (h' : SameStation t u) : SameStation s u := ⟨h'.1.trans h.1, h'.2.trans h.2⟩

theorem Steady.trans (h : Steady Q s t) (h' : Steady Q t u) : Steady Q s u := by
  obtain ⟨a, b, c, d⟩ := h.measures
  obtain ⟨a', b', c', d'⟩ := h'.measures
  exact ⟨h.same.trans h'.same, fun q => (h'.live q).trans (h.live q),
    ⟨a'.trans a, b'.trans b, c'.trans c, d'.trans d⟩, ⟨h'.poles.1.trans h.poles.1, h'.poles.2.trans h.poles.2⟩⟩

theorem Still.trans (h : Still Q s t) (h' : Still Q t u) : Still Q s u := by
  obtain ⟨a, b, c⟩ := h.view
  obtain ⟨a', b', c'⟩ := h'.view
  exact ⟨h.toSteady.trans h'.toSteady, ⟨a'.trans a, b'.trans b, c'.trans c⟩⟩

theorem Steady.of_loader (loader : t.loader = s.loader)
    (measures : t.supply.volts = s.supply.volts ∧ t.supply.run = s.supply.run ∧ t.supply.voltageOk = s.supply.voltageOk
      ∧ t.supply.count = s.supply.count)
    (poles : t.poles.p = s.poles.p ∧ t.poles.n = s.poles.n) : Steady Q s t :=
  ⟨.of_loader loader, fun _ => isLive_of_loader loader, measures, poles⟩

/-- Equal blocks make a station that stands still, but for its alarms, its line, its grant and its port. -/
theorem Still.of_blocks (loader : t.loader = s.loader) (supply : t.supply = s.supply) (shed : t.shed.restore = s.shed.restore)
    (poles : t.poles.p = s.poles.p ∧ t.poles.n = s.poles.n) : Still Q s t where
  toSteady := .of_loader loader (by rw [supply]; exact ⟨rfl, rfl, rfl, rfl⟩) poles
  view := by rw [supply]; exact ⟨rfl, rfl, shed⟩

theorem Steady.retrieve (h : Steady Q s t) (q : Q) (law : RetrieveFollowsPole s) : RetrieveFollowsPole t := by
  rw [retrieveFollowsPole_iff] at law ⊢
  rw [h.live q, h.poles.1, h.poles.2]
  exact law

theorem Steady.windows (h : Steady Q s t) (q : Q) (law : WindowsOk s) : WindowsOk t := by
  obtain ⟨a, b, c, d⟩ := h.measures
  unfold WindowsOk record at law ⊢
  rw [h.live q, a, b, c, d, h.same.2]
  exact law

theorem Still.timers (h : Still Q s t) (q : Q) (law : TimersFollowView s) : TimersFollowView t := by
  obtain ⟨a, b, c⟩ := h.view
  unfold TimersFollowView at law ⊢
  rw [h.live q, a, b, c]
  exact law

/-- A change of the view at a station that is steady. -/
theorem Steady.keeps (h : Steady Q s t) (table : TableKept s t) (offLine : OffLineUnderAlarm s → OffLineUnderAlarm t)
    (timers : Q → TimersFollowView s → TimersFollowView t) : Keeps Q s t :=
  ⟨table, offLine, fun q => h.retrieve q, timers, fun q => h.windows q⟩

/-- Nothing that the laws look at. -/
theorem Still.keeps (h : Still Q s t) (table : t.alarms.table = s.alarms.table) : Keeps Q s t :=
  h.toSteady.keeps (.of_table h.same table) (fun law => by rw [OffLineUnderAlarm, table, h.view.1]; exact law)
    (fun q => h.timers q)

/-! ### The view moves -/

theorem timers_enterRestoring (live : isLive s = true) : TimersFollowView (enterRestoring s) := by
  have live' : isLive (enterRestoring s) = true := by rw [isLive_of_loader (s := s) (by simp), live]
  obtain ⟨⟨-, supply, shed, -⟩ | ⟨-, supply, shed, -⟩, -⟩ := enterRestoring_spec s
  all_goals simp [TimersFollowView, live', supply, shed]

theorem timers_enterOffLine (live : isLive s = true) : TimersFollowView (enterOffLine s) := by
  have live' : isLive (enterOffLine s) = true := by rw [isLive_of_loader (s := s) (by simp), live]
  obtain ⟨supply, -, shed, -⟩ := enterOffLine_spec s
  simp [TimersFollowView, live', supply, shed]

theorem timers_enterGap (live : isLive s = true) : TimersFollowView (enterGap s) := by
  have live' : isLive (enterGap s) = true := by rw [isLive_of_loader (s := s) (by simp), live]
  obtain ⟨supply, -, shed, -⟩ := enterGap_spec s
  simp [TimersFollowView, live', supply, shed]

theorem steady_enterRestoring : Steady Q s (enterRestoring s) :=
  .of_loader (by simp) (by rw [enterRestoring_supply]; exact ⟨rfl, rfl, rfl, rfl⟩) (by simp)

theorem steady_enterOffLine : Steady Q s (enterOffLine s) :=
  .of_loader (by simp) (by rw [(enterOffLine_spec s).1]; exact ⟨rfl, rfl, rfl, rfl⟩) (by simp)

theorem steady_enterGap : Steady Q s (enterGap s) :=
  .of_loader (by simp) (by rw [(enterGap_spec s).1]; exact ⟨rfl, rfl, rfl, rfl⟩) (by simp)

theorem keeps_enterOffLine (live : Q → isLive s = true) : Keeps Q s (enterOffLine s) :=
  steady_enterOffLine.keeps (.of_table (.of_loader (by simp)) (by simp))
    (fun _ _ => by rw [(enterOffLine_spec s).1]) (fun q _ => timers_enterOffLine (live q))

/-- The exits of GAP and OFF_LINE are not taken under a supply alarm (R15, R18). -/
theorem keeps_examineExit (live : Q → isLive s = true) : Keeps Q s (examineExit s) := by
  rcases examineExit_cases s with h | ⟨-, -, -, free, h⟩ <;> rw [h]
  · exact .refl
  · refine steady_enterRestoring.keeps (.of_table (.of_loader (by simp)) (by simp)) (fun _ held => ?_)
      (fun q _ => timers_enterRestoring (live q))
    have table : (enterRestoring s).alarms = s.alarms := by simp
    rw [table, free] at held
    cases held

/-- GAP is entered from ON_LINE and RESTORING only, where no supply alarm is held (R14). -/
theorem keeps_enterGap (view : s.supply.view = .onLine ∨ s.supply.view = .restoring) (live : Q → isLive s = true) :
    Keeps Q s (enterGap s) := by
  refine steady_enterGap.keeps (.of_table (.of_loader (by simp)) (by simp)) (fun law held => ?_) (fun q _ => timers_enterGap (live q))
  have table : (enterGap s).alarms = s.alarms := by simp
  rw [table] at held
  rw [law held] at view
  simp at view

/-! ### An event of the Alarm Table -/

theorem steady_endAlarmEvent (h : Steady Q s t) (before : List AlarmEntry) : Steady Q s (endAlarmEvent before t) :=
  h.trans (.of_loader (by simp) (by simp) (by
    rcases endAlarmEvent_cases before t with ⟨-, e⟩ | ⟨e, -⟩ | ⟨e, -⟩ | ⟨e, -⟩ <;> rw [e] <;> simp))

/-- An event whose changes leave the station still keeps the laws: the end of the event moves the view as the table says (R17, R18). -/
theorem Still.event (h : Still Q s t) (table : TableKept s t) (live : Q → isLive s = true) :
    Keeps Q s (endAlarmEvent s.alarms.table t) := by
  have kept : (endAlarmEvent s.alarms.table t).alarms.table = t.alarms.table := by simp
  have live' : Q → isLive (settled s.alarms.table t) = true := fun q => by
    rw [isLive_of_loader (s := t) (by simp), h.live q, live q]
  refine (steady_endAlarmEvent h.toSteady _).keeps
    (table.trans (.of_table (.of_loader (by simp)) kept)) (fun law held => ?_) (fun q law => ?_)
  · rw [kept] at held
    rcases endAlarmEvent_cases s.alarms.table t with ⟨same, e⟩ | ⟨e, view, -⟩ | ⟨e, -⟩ | ⟨-, free, -⟩
    · rw [e, h.view.1]
      exact law (same ▸ held)
    · rw [e, (settled_keeps _ _).2.2.1]
      exact view held
    · rw [e, (enterOffLine_spec _).1]
    · rw [held] at free
      cases free
  · rcases endAlarmEvent_cases s.alarms.table t with ⟨-, e⟩ | ⟨e, -⟩ | ⟨e, -⟩ | ⟨e, -⟩ <;> rw [e]
    · exact h.timers q law
    · exact (h.trans (Still.of_blocks (by simp) (by simp) (by simp) (by simp))).timers q law
    · exact timers_enterOffLine (live' q)
    · exact timers_enterRestoring (live' q)

theorem Still.alarmEvent {f : State → State} (h : Still Q s (f s)) (table : TableKept s (f s)) (live : Q → isLive s = true) :
    Keeps Q s (alarmEvent f s) := h.event table live

/-! ### Supply Watch -/

theorem windowDue_live (due : windowDue s = true) : isLive s = true := by
  simp only [windowDue, Bool.and_eq_true] at due
  exact due.1

theorem appendVolts_bounded {volts : List Nat} {v : Nat} (few : volts.length ≤ 4) (low : ∀ x ∈ volts, x ≤ 1200) (hv : v ≤ 1200) :
    (appendVolts volts v).length ≤ 4 ∧ ∀ x ∈ appendVolts volts v, x ≤ 1200 := by
  rw [appendVolts_eq]
  refine ⟨by simp; omega, fun x mem => ?_⟩
  rcases List.mem_append.1 (List.mem_of_mem_drop mem) with mem | mem
  · exact low x mem
  · rw [List.mem_singleton.1 mem]
    exact hv

theorem windowVoltage_le (edges : Nat) (s : State) : windowVoltage edges s ≤ 1200 := by
  unfold windowVoltage windowVolts
  split <;> omega

theorem windowRun_le (s : State) (v : Nat) : windowRun s v ≤ confirmCount (record s) := by
  unfold windowRun
  split <;> omega

/-- The measures of a window stay in their ranges (R1, R2, R4, R5). -/
theorem keeps_measure (edges : Nat) (live : isLive s = true) : Keeps Q s (measure edges s) := by
  have supply := measure_supply edges s
  have loader : (measure edges s).loader = s.loader := by simp
  have table : (measure edges s).alarms.table = s.alarms.table := by simp
  have live' : isLive (measure edges s) = true := by rw [isLive_of_loader loader, live]
  have poles : (measure edges s).poles = s.poles := by simp
  have shed : (measure edges s).shed = s.shed := by simp
  refine ⟨.of_table (.of_loader loader) table, fun law => ?_, fun _ law => ?_, fun _ law => ?_, fun _ law => ?_⟩
  · rw [OffLineUnderAlarm, table, supply]
    exact law
  · rw [retrieveFollowsPole_iff] at law ⊢
    rw [isLive_of_loader loader, poles]
    exact law
  · unfold TimersFollowView at law ⊢
    rw [isLive_of_loader loader, shed, supply]
    exact law
  · obtain ⟨few, low, -⟩ := law
    obtain ⟨few', low'⟩ := appendVolts_bounded few low (windowVoltage_le edges s)
    unfold WindowsOk
    rw [live', record_of_loader loader, supply]
    exact ⟨few', low', Nat.zero_le _, nofun, fun _ _ => ⟨rfl, windowRun_le s _⟩⟩

theorem keeps_viewAfterWindow (loss became : Bool) (live : Q → isLive s = true) : Keeps Q s (viewAfterWindow loss became s) := by
  rcases viewAfterWindow_cases loss became s with ⟨-, view, h⟩ | ⟨-, -, h⟩ | ⟨-, -, h⟩ <;> rw [h]
  · exact keeps_enterGap view live
  · exact keeps_examineExit live
  · exact .refl

theorem keeps_releaseRecords (p : GapRecord → Bool) (live : Q → isLive s = true) : Keeps Q s (releaseRecords p s) := by
  rcases releaseRecords_cases p s with ⟨-, h⟩ | ⟨t, ht, h⟩
  · rw [h]
    exact .refl
  · have released : Keeps Q s t := by
      rw [ht]
      exact Still.keeps (.mk (.of_loader rfl ⟨rfl, rfl, rfl, rfl⟩ ⟨rfl, rfl⟩) ⟨rfl, rfl, rfl⟩) rfl
    rcases h with h | h <;> rw [h]
    · exact released
    · refine released.trans (keeps_examineExit fun q => ?_)
      rw [isLive_of_loader (s := s) (by rw [ht]; rfl), live q]

theorem keeps_gapStartHeard (src : Station) (serial : Byte) (e : Peer) (live : Q → isLive s = true) :
    Keeps Q s (gapStartHeard src serial e s) := by
  obtain ⟨t, ht⟩ : ∃ t, t = if e.freshness = .fresh then
      s.withSupply { s.supply with records := putRecord ⟨src, serial⟩ s.supply.records } else s := ⟨_, rfl⟩
  have put : Keeps Q s t ∧ t.loader = s.loader := by
    rw [ht]
    split
    · exact ⟨Still.keeps (.mk (.of_loader rfl ⟨rfl, rfl, rfl, rfl⟩ ⟨rfl, rfl⟩) ⟨rfl, rfl, rfl⟩) rfl, rfl⟩
    · exact ⟨.refl, rfl⟩
  have result : gapStartHeard src serial e s =
      if t.supply.view = .onLine ∨ t.supply.view = .restoring then enterGap t else t := by rw [ht]; rfl
  rw [result]
  split
  · next view => exact put.1.trans (keeps_enterGap view fun q => by rw [isLive_of_loader put.2, live q])
  · exact put.1

theorem keeps_gapHeard (src : Station) (g : GapContent) (live : Q → isLive s = true) : Keeps Q s (gapHeard src g s) := by
  unfold gapHeard
  split
  · exact .refl
  · split
    · split
      · exact keeps_gapStartHeard _ _ _ live
      · exact keeps_releaseRecords _ live
    · exact .refl

theorem keeps_endRestore : Keeps Q s (endRestore s) := by
  unfold endRestore
  split
  · next h =>
    obtain ⟨live, view, -⟩ := h
    have live' : isLive (setView .onLine (stopRestore s)) = true := by rw [isLive_of_loader (s := s) (by simp), live]
    refine Steady.keeps (.of_loader (by simp) (by simp) (by simp)) (.of_table (.of_loader (by simp)) (by simp))
      (fun law held => ?_) (fun _ law => ?_)
    · have table : (setView .onLine (stopRestore s)).alarms = s.alarms := by simp
      rw [table] at held
      rw [law held] at view
      cases view
    · obtain ⟨-, gap, -⟩ := law
      have none : s.supply.gapStart = none := by simpa [view] using gap live
      simp [TimersFollowView, live', none]
  · exact .refl

/-! ### Pole Watch -/

/-- A change of the poles that keeps the law of each. -/
theorem keeps_poles (loader : t.loader = s.loader) (supply : t.supply = s.supply) (shed : t.shed = s.shed)
    (table : t.alarms.table = s.alarms.table) (p : PoleLaw (isLive s) s.poles.p → PoleLaw (isLive s) t.poles.p)
    (n : PoleLaw (isLive s) s.poles.n → PoleLaw (isLive s) t.poles.n) : Keeps Q s t := by
  have live : isLive t = isLive s := isLive_of_loader loader
  refine ⟨.of_table (.of_loader loader) table, fun law => ?_, fun _ law => ?_, fun _ law => ?_, fun _ law => ?_⟩
  · rw [OffLineUnderAlarm, table, supply]
    exact law
  · rw [retrieveFollowsPole_iff] at law ⊢
    rw [live]
    exact ⟨p law.1, n law.2⟩
  · unfold TimersFollowView at law ⊢
    rw [live, supply, shed]
    exact law
  · unfold WindowsOk at law ⊢
    rw [live, supply, record_of_loader loader]
    exact law

/-- A change of one pole. -/
theorem keeps_pole (id : PoleId) {q : Pole} (law : PoleLaw (isLive s) (poleOf id s.poles) → PoleLaw (isLive s) q) :
    Keeps Q s (s.withPoles (setPole id q s.poles)) := by
  cases id
  · exact keeps_poles rfl rfl rfl rfl law id
  · exact keeps_poles rfl rfl rfl rfl id law

/-- The law of a pole looks at its state, its output, its first-evaluation mark and its angle period. -/
theorem PoleLaw.of_same {live : Bool} {q q' : Pole} (law : PoleLaw live q)
    (h : q'.firstMark = q.firstMark ∧ q'.state = q.state ∧ q'.retrieve = q.retrieve ∧
      q'.capture = q.capture ∧ q'.opened = q.opened) :
    PoleLaw live q' := by
  obtain ⟨mark, state, retrieve, capture, opened⟩ := h
  unfold PoleLaw at law ⊢
  rw [mark, state, retrieve, capture, opened]
  exact law

theorem settleTimeout_keeps (r : Record) (now : StationTime) (q : Pole) :
    (settleTimeout r now q).firstMark = q.firstMark ∧ (settleTimeout r now q).state = q.state
      ∧ (settleTimeout r now q).retrieve = q.retrieve ∧ (settleTimeout r now q).capture = q.capture
      ∧ (settleTimeout r now q).opened = q.opened := by
  rcases settleTimeout_cases r now q with h | ⟨-, h⟩ <;> rw [h] <;> exact ⟨rfl, rfl, rfl, rfl, rfl⟩

/-- An evaluation ends the first-evaluation mark and settles the output (R31, R37). -/
theorem poleLaw_evalPole (r : Record) (now : StationTime) (ok : Bool) (edges : List AngleEdge) {q : Pole} (law : PoleLaw true q) :
    PoleLaw true (evalPole r now ok edges q) := by
  obtain ⟨first, -⟩ := law
  obtain ⟨state, mark, -, -, -, -, capture⟩ := spanned_keeps edges q
  obtain ⟨capture', -, -, mark'⟩ := moved_transition r now ok (spanAngle q edges) (termsOf r q (spanAngle q edges)) (spanned edges q)
  have ended : (stepped r now ok edges q).firstMark = false := by
    by_cases new : q.state = .notEvaluated
    · exact transition_evaluates r now ok _ _ (state.trans new)
    · have old : q.firstMark = false := by
        rw [← Bool.not_eq_true]
        exact fun h => new (first h)
      rcases mark' with h | h
      · exact h.trans (mark.trans old)
      · exact h
  rw [evalPole_eq]
  refine PoleLaw.of_same ?_ (settleTimeout_keeps _ _ _)
  refine ⟨fun h => ?_, fun _ => rfl, capture'.trans capture, nofun⟩
  have h : (stepped r now ok edges q).firstMark = true := h
  rw [ended] at h
  cases h

theorem keeps_polesStage (i : WindowInput) (live : isLive s = true) : Keeps Q s (polesStage i s) := by
  have poles := polesStage_poles i s
  refine keeps_poles (by simp) (by simp) (by simp) (by simp) (fun law => ?_) (fun law => ?_)
  all_goals
    rw [poles]
    rw [live] at law ⊢
    exact poleLaw_evalPole _ _ _ _ law

/-- One evaluation of a COL station: its poles, its event and its GAP notice (R30). -/
theorem keeps_evaluate (i : WindowInput) (loss became : Bool) (prior : View) (live : isLive s = true) (col : isCol s = true) :
    Keeps Q s (evaluate i loss became prior s) := by
  have loader : (polesStage i s).loader = s.loader := by simp
  have table : (polesStage i s).alarms.table = s.alarms.table := by simp
  have event : Keeps Q (polesStage i s) (endAlarmEvent (polesStage i s).alarms.table (evaluated i s)) := by
    refine Still.event (.of_blocks (by simp) (by simp) (by simp) (by simp)) ?_
      (fun _ => by rw [isLive_of_loader loader, live])
    exact TableKept.trans (t := s) (.of_table (.of_loader loader.symm) table.symm) (tableKept_evaluated i col)
  rw [table] at event
  rw [evaluate_eq]
  exact ((keeps_polesStage i live).trans event).trans
    (Still.keeps (.of_blocks (by simp) (by simp) (by simp) (by simp)) (by simp))

theorem keeps_completeWindow (i : WindowInput) : Keeps Q s (completeWindow i s) := by
  by_cases due : windowDue s = true
  · have live := windowDue_live due
    have loader : (measure i.edges s).loader = s.loader := by simp
    have measured : Keeps Q s (measure i.edges s) := keeps_measure i.edges live
    cases col : isCol s with
    | false =>
      rw [completeWindow_other due col]
      exact measured.trans (keeps_viewAfterWindow _ _ fun _ => by rw [isLive_of_loader loader, live])
    | true =>
      rw [completeWindow_col due col]
      refine (measured.trans (keeps_evaluate i _ _ _ (by rw [isLive_of_loader loader, live])
        (by rw [isCol_of_loader loader, col]))).trans (keeps_viewAfterWindow _ _ fun _ => ?_)
      rw [isLive_of_loader (s := s) (by simp), live]
  · rw [completeWindow, if_neg due]
    exact .refl

theorem keeps_confirmRewire (i : WindowInput) (id : PoleId) : Keeps Q s (confirmRewire i id s) := by
  unfold confirmRewire
  dsimp only
  split
  · exact keeps_completeWindow i
  · exact .refl

theorem keeps_confirmSuspicion (i : WindowInput) (id : PoleId) : Keeps Q s (confirmSuspicion i id s) := by
  unfold confirmSuspicion
  dsimp only
  split
  · exact keeps_completeWindow i
  · exact .refl

theorem keeps_timeOutRetrieve (i : WindowInput) (id : PoleId) : Keeps Q s (timeOutRetrieve i id s) := by
  unfold timeOutRetrieve
  dsimp only
  split
  · exact keeps_completeWindow i
  · exact .refl

theorem keeps_completeHead (id : PoleId) (edges : Nat) : Keeps Q s (completeHead id edges s) := by
  unfold completeHead
  dsimp only
  split
  · refine keeps_pole id fun law => law.of_same ?_
    unfold headPole
    dsimp only
    split <;> exact ⟨rfl, rfl, rfl, rfl, rfl⟩
  · exact .refl

theorem keeps_endCalibration : Keeps Q s (endCalibration s) := by
  unfold endCalibration
  split
  · exact keeps_poles rfl rfl rfl rfl (fun law => law.of_same ⟨rfl, rfl, rfl, rfl, rfl⟩)
      (fun law => law.of_same ⟨rfl, rfl, rfl, rfl, rfl⟩)
  · exact .refl

theorem keeps_reachGapLimit : Keeps Q s (reachGapLimit s) := by
  unfold reachGapLimit
  split
  · next due =>
    have live : isLive s = true := by
      simp only [gapLimitDue, Bool.and_eq_true] at due
      exact due.1.1
    have loader : (enterOffLine s).loader = s.loader := by simp
    have event : Keeps Q (enterOffLine s) (alarmEvent lineDeadRaise (enterOffLine s)) :=
      Still.alarmEvent (.of_blocks (by simp) (by simp) (by simp) (by simp)) (tableKept_lineDeadRaise _)
        (fun _ => by rw [isLive_of_loader loader, live])
    have entered : Keeps Q s (alarmEvent lineDeadRaise (enterOffLine s)) := (keeps_enterOffLine fun _ => live).trans event
    dsimp only
    split
    · exact entered
    · exact entered.trans (keeps_examineExit fun _ => by rw [isLive_of_loader (s := s) (by simp [alarmEvent]), live])
  · exact .refl

theorem tableKept_retrieveFailReached (downP downN : Bool) (s : State) : TableKept s (retrieveFailReached downP downN s) := by
  cases h : s.poles.retrieveFail with
  | none =>
    rw [retrieveFailReached_none h]
    exact .refl
  | some a =>
    cases on : allReached (withReached downP downN a) with
    | false =>
      rw [retrieveFailReached_kept h on]
      exact .of_table (.of_loader (by simp)) rfl
    | true =>
      rw [retrieveFailReached_clears h on]
      exact (tableKept_clearOwn a.number s).trans (.of_table (.of_loader (by simp)) rfl)

/-- The release of a LOWERED pole (R36). -/
theorem keeps_releasePole (id : PoleId) (lowered : (poleOf id s.poles).state = .lowered) (live : isLive s = true) :
    Keeps Q s (releasePole id s) := by
  obtain ⟨t, ht⟩ : ∃ t : State, t = s.withPoles (setPole id { toState (poleOf id s.poles) .stowed with retrieve := false } s.poles) :=
    ⟨_, rfl⟩
  have pole : Keeps Q s t := by
    rw [ht]
    refine keeps_pole id fun ⟨first, _, capture, _⟩ => ⟨fun mark => ?_, fun _ => rfl, capture, fun dead => ?_⟩
    · rw [first mark] at lowered
      cases lowered
    · rw [live] at dead
      cases dead
  have event : Keeps Q t (alarmEvent (retrieveFailReached (id == .p) (id == .n)) t) :=
    Still.alarmEvent (.of_blocks (by simp) (by simp) (by simp) (by simp)) (tableKept_retrieveFailReached _ _ t)
      (fun _ => by rw [isLive_of_loader (s := s) (by rw [ht]; rfl), live])
  rw [releasePole, ← ht]
  exact pole.trans event

end Sys2Proof.Machine
end

section
/-!
The operations of the annunciator, of the station line and of a period boundary keep the laws.
-/
namespace Sys2Proof.Machine
variable {Q : Prop} {s t u : State}

/-! ### The Alarm Table at a listener, acknowledgement, lamp and buzzer -/

theorem keeps_alarmHeard (src : Station) (c : AlarmContent) (live : Q → isLive s = true) : Keeps Q s (alarmHeard src c s) := by
  unfold alarmHeard
  split
  · next source =>
    rw [noticeSource, Bool.and_eq_true, decide_eq_true_eq] at source
    exact Still.alarmEvent (.of_blocks (by simp) (by simp) (by simp) (by simp)) (tableKept_takeNotice c s source.1) live
  · exact .refl

theorem keeps_summaryHeard {o : Station} {summary : List SummaryItem} (rejoin : Bool) (origin : summary = [] ∨ o.val ≤ 1)
    (live : Q → isLive s = true) : Keeps Q s (summaryHeard o summary rejoin s) :=
  Still.alarmEvent (.of_blocks (by simp) (by simp) (by simp) (by simp)) (tableKept_reconcile summary rejoin s origin) live

theorem keeps_ackHeard (c : AckContent) (live : Q → isLive s = true) : Keeps Q s (ackHeard c s) := by
  unfold ackHeard
  split
  · exact Still.alarmEvent (.of_blocks (by simp) (by simp) (by simp) (by simp)) (tableKept_ackOwn _ _) live
  · exact .refl

theorem keeps_acknowledge (live : Q → isLive s = true) : Keeps Q s (acknowledge s).1 := by
  unfold acknowledge
  split
  · exact .refl
  · next e _ =>
    split
    · exact Still.alarmEvent (.of_blocks (by simp) (by simp) (by simp) (by simp)) (tableKept_ackOwn _ _) live
    · split
      · have joined : Keeps Q s (joinAck ⟨e.origin, e.number⟩ s) :=
          Still.keeps (.of_blocks (by simp) (by simp) (by simp) (by simp)) (by simp)
        refine joined.trans (Still.alarmEvent (.of_blocks (by simp) (by simp) (by simp) (by simp)) ?_ fun q => ?_)
        · exact tableKept_mapAlarm _ _ (f := fun x => { x with ack := .queued }) (fun _ => ⟨rfl, rfl⟩) _
        · rw [isLive_of_loader (s := s) (by simp), live q]
      · exact .refl

/-- Lamp, buzzer and button change without the table. -/
theorem keeps_withAlarms {a : Alarms} (table : a.table = s.alarms.table) : Keeps Q s (s.withAlarms a) :=
  Still.keeps (.of_blocks rfl rfl rfl ⟨rfl, rfl⟩) table

theorem keeps_pressButton (stood : Nat) : Keeps Q s (pressButton stood s) := by
  unfold pressButton
  split
  · next h =>
    have live : isLive s = true := by
      have := h.1
      rw [buttonRuns, Bool.and_eq_true] at this
      exact this.1
    exact Keeps.trans (t := s.withAlarms { s.alarms with buttonArmed := false, debounceStart := s.clock.up })
      (keeps_withAlarms rfl) (keeps_acknowledge fun _ => live)
  · exact .refl

theorem keeps_releaseButton (stood : Nat) : Keeps Q s (releaseButton stood s) := by
  unfold releaseButton
  split
  · exact keeps_withAlarms rfl
  · exact .refl

theorem keeps_toggleLamp : Keeps Q s (toggleLamp s) := by
  unfold toggleLamp
  split
  · exact keeps_withAlarms rfl
  · exact .refl

theorem keeps_endSounding : Keeps Q s (endSounding s) := by
  unfold endSounding
  split
  · exact keeps_withAlarms rfl
  · exact .refl

theorem keeps_soundBuzzer : Keeps Q s (soundBuzzer s) := by
  unfold soundBuzzer
  split
  · exact keeps_withAlarms rfl
  · exact .refl

theorem keeps_remind : Keeps Q s (remind s) := by
  unfold remind
  split
  · dsimp only
    split
    · exact Keeps.trans (t := s.withAlarms { s.alarms with reminderStart := none }) (keeps_withAlarms rfl) keeps_soundBuzzer
    · exact keeps_withAlarms rfl
  · exact .refl

/-! ### The transmitter -/

theorem tableKept_emptyQueue (s : State) : TableKept s (emptyQueue s) :=
  (tableKept_reportsDiscarded (s.line.ackPart.map (·.content)) s).trans (.of_table (.of_loader (by simp [emptyQueue, discardAcks])) rfl)

theorem still_enterSuspended (live : Q → isLive s = true) : Still Q s (enterSuspended s) where
  same := by simp [SameStation, enterSuspended]
  live q := by
    rw [live q]
    simp [isLive, enterSuspended]
  measures := by simp [enterSuspended]
  poles := by simp [enterSuspended]
  view := by simp [enterSuspended]

theorem tableKept_enterSuspended (s : State) : TableKept s (enterSuspended s) :=
  (tableKept_emptyQueue s).trans (.of_table (by simp [SameStation, enterSuspended]) (by simp [enterSuspended]))

theorem tableKept_returnFrame (what : Sending) (s : State) : TableKept s (returnFrame what s) := by
  unfold returnFrame
  cases what with
  | ack =>
    exact (tableKept_reportsDiscarded ((s.line.ackPart.filter fun n => (afterAbort n).isNone).map (·.content)) s).trans
      (.of_table (.of_loader (by simp [ackAfterAbort])) rfl)
  | gap => exact .of_table (.of_loader rfl) rfl
  | alarm => exact .of_table (.of_loader rfl) rfl
  | state _ => exact .of_table (.of_loader rfl) rfl

theorem tableKept_releaseFrame (what : Sending) (s : State) : TableKept s (releaseFrame what s) := by
  unfold releaseFrame
  cases what with
  | ack =>
    exact (tableKept_reportsSent ((s.line.ackPart.filter fun n => (afterSuccess n).isNone).map (·.content)) s).trans
      (.of_table (.of_loader (by simp [ackAfterSuccess])) rfl)
  | gap => exact .of_table (.of_loader rfl) rfl
  | alarm => exact .of_table (.of_loader rfl) rfl
  | state _ => exact .of_table (.of_loader rfl) rfl

/-- An attempt stands in RUNNING only, at a station whose silence law holds (R52). -/
theorem live_of_attempt {a : Attempt} (silent : Q → SilentWhenNotRunning s) (sending : s.line.attempt = some a) :
    Q → isLive s = true := fun q => by
  have run := (silent q).1 (by rw [sending]; rfl)
  rw [isLive, run]

theorem keeps_abortAttempt (bit : Nat) (silent : Q → SilentWhenNotRunning s) : Keeps Q s (abortAttempt bit s) := by
  unfold abortAttempt
  split
  · exact .refl
  · next a sending =>
    have live := live_of_attempt silent sending
    split
    · obtain ⟨x, hx⟩ : ∃ x, x =
          s.withLine { receiverAfterAbort bit a s.line with tec := min 32 (s.line.tec + 1) } := ⟨_, rfl⟩
      have lined : TableKept s x ∧ Still Q s x := by
        rw [hx]
        exact ⟨.of_table (.of_loader rfl) rfl, .of_blocks rfl rfl rfl ⟨rfl, rfl⟩⟩
      have returned : TableKept s (returnFrame a.what x) ∧ Still Q s (returnFrame a.what x) :=
        ⟨lined.1.trans (tableKept_returnFrame _ _),
          lined.2.trans (.of_blocks (by simp) (by simp) (by simp) (by simp))⟩
      have live' : Q → isLive (returnFrame a.what x) = true := fun q => (returned.2.live q).trans (live q)
      have final : TableKept s (if min 32 (s.line.tec + 1) = 32 then enterSuspended (returnFrame a.what x) else returnFrame a.what x)
          ∧ Still Q s (if min 32 (s.line.tec + 1) = 32 then enterSuspended (returnFrame a.what x) else returnFrame a.what x) := by
        split
        · exact ⟨returned.1.trans (tableKept_enterSuspended _), returned.2.trans (still_enterSuspended live')⟩
        · exact returned
      rw [hx] at final
      exact Still.event final.2 final.1 live
    · exact .refl

theorem keeps_succeedAttempt (silent : Q → SilentWhenNotRunning s) : Keeps Q s (succeedAttempt s) := by
  unfold succeedAttempt
  split
  · exact .refl
  · next a sending =>
    refine Still.alarmEvent (.of_blocks (by simp) (by simp) (by simp) (by simp)) ?_ (live_of_attempt silent sending)
    obtain ⟨x, hx⟩ : ∃ x, x = s.withLine { s.line with
        attempt := none, sentAt := some (micros s.clock), rx := .hunting, idle := 0, tec := s.line.tec - 1 } := ⟨_, rfl⟩
    rw [← hx]
    exact TableKept.trans (.of_table (.of_loader (by rw [hx]; rfl)) (by rw [hx]; rfl)) (tableKept_releaseFrame a.what x)

theorem keeps_startAttempt (idle : Nat) : Keeps Q s (startAttempt idle s) :=
  Still.keeps (.of_blocks (by simp) (by simp) (by simp) (by simp)) (by simp)

theorem keeps_endSuspension : Keeps Q s (endSuspension s) := by
  unfold endSuspension
  split
  · next h =>
    refine Still.keeps ⟨⟨⟨rfl, rfl⟩, fun _ => ?_, ⟨rfl, rfl, rfl, rfl⟩, ⟨rfl, rfl⟩⟩, ⟨rfl, rfl, rfl⟩⟩ rfl
    rw [isLive, isLive, h.1]
    rfl
  · exact .refl

/-! ### The receiver -/

theorem keeps_applyState {src : Station} {f : StateFields} (rejoin wasCol : Bool) (source : f.role = .col → src.val ≤ 1)
    (live : Q → isLive s = true) : Keeps Q s (applyState src f rejoin wasCol s) := by
  obtain ⟨x, hx⟩ : ∃ x, x = s.withPeers (putPeer ⟨src, f, now s, 0, .fresh⟩ s.peers) := ⟨_, rfl⟩
  have put : Keeps Q s x := by
    rw [hx]
    exact Still.keeps (.of_blocks rfl rfl rfl ⟨rfl, rfl⟩) rfl
  have live' : Q → isLive x = true := fun q => by rw [isLive_of_loader (s := s) (by rw [hx]; rfl), live q]
  unfold applyState
  rw [← hx]
  dsimp only
  split
  · next col => exact put.trans (keeps_summaryHeard rejoin (.inr (source col)) live')
  · split
    · exact put.trans (keeps_summaryHeard true (.inl rfl) live')
    · exact put

theorem keeps_stateHeard {src : Station} {f : StateFields} (source : f.role = .col → src.val ≤ 1) (live : Q → isLive s = true) :
    Keeps Q s (stateHeard src f s) := by
  unfold stateHeard
  split
  · have joined : Keeps Q s (raise .peerJoined s) := Still.keeps (.of_blocks (by simp) (by simp) (by simp) (by simp)) (by simp)
    exact joined.trans (keeps_applyState _ _ source fun q => by rw [isLive_of_loader (s := s) (by simp), live q])
  · split
    · exact keeps_applyState _ _ source live
    · split
      · exact keeps_applyState _ _ source live
      · exact .refl

theorem toClash_loader (s : State) : (toClash s).loader = { s.loader with run := .clash } := by
  unfold toClash
  dsimp only
  split <;> rfl

/-- The changes of a declaration of CLASH, before its event ends (R68, R80, R112). -/
def clashed (s : State) : State :=
  let t := emptyQueue (toClash s)
  raise .stationClash (floorHold (t.withLine { t.line with suspendedAt := none }))

theorem keeps_declareClash (live : Q → isLive s = true) : Keeps Q s (declareClash s) := by
  have loader : (clashed s).loader = { s.loader with run := .clash } := by simp [clashed, toClash_loader]
  have same : SameStation s (clashed s) := by rw [SameStation, loader]; exact ⟨rfl, rfl⟩
  have alarms : (clashed s).alarms = (emptyQueue (toClash s)).alarms := by simp [clashed]
  have table : TableKept s (clashed s) := by
    have clash : TableKept s (toClash s) := .of_table (by rw [SameStation, toClash_loader]; exact ⟨rfl, rfl⟩) (by simp)
    have last : SameStation (emptyQueue (toClash s)) (clashed s) := .of_loader (by rw [loader]; simp [toClash_loader])
    exact (clash.trans (tableKept_emptyQueue _)).trans (.of_table last (by rw [alarms]))
  have still : Still Q s (clashed s) := by
    refine ⟨⟨same, fun q => ?_, by simp [clashed], by simp [clashed]⟩, by simp [clashed]⟩
    rw [live q, isLive, loader]
  unfold declareClash
  split
  · exact .refl
  · exact still.event table live

theorem keeps_handOn {f : Frame} (source : ∀ x, f.body = .state x → x.role = .col → f.source.val ≤ 1)
    (live : Q → isLive s = true) : Keeps Q s (handOn f s) := by
  unfold handOn
  split
  · exact keeps_declareClash live
  · split
    · next x body => exact keeps_stateHeard (source x body) live
    · exact keeps_alarmHeard _ _ live
    · exact keeps_ackHeard _ live
    · exact keeps_gapHeard _ _ live

/-- What R50 checks of the source of a good STATE frame: a collector stands at 0 or 1 (R159). -/
def SourceChecked (f : Frame) : Prop := ∀ x, f.body = .state x → x.role = .col → f.source.val ≤ 1

theorem readState_source {src : Station} {payload : List Byte} {f : Frame} (h : readState src payload = .good f) :
    SourceChecked f := by
  unfold readState at h
  split at h
  · split at h
    · cases h
    · split at h
      · cases h
      · split at h
        · cases h
        · split at h
          · cases h
          · split at h
            · split at h
              · next ok =>
                cases h
                intro x body col
                cases body
                have checked := (Bool.and_eq_true _ _ ▸ ok).2
                simp only [Bool.not_eq_true', Bool.and_eq_false_iff, beq_eq_false_iff_ne, decide_eq_false_iff_not, not_lt] at checked
                exact checked.resolve_left fun other => other col
              · cases h
            · cases h
  · cases h

/-- A frame that is no STATE is not bound by the check. -/
theorem sourceChecked_of_other {src : Station} {b : Body} (other : ∀ x, b ≠ .state x) : SourceChecked ⟨src, b⟩ :=
  fun x body => absurd body (other x)

theorem readAlarm_source {src : Station} {payload : List Byte} {f : Frame} (h : readAlarm src payload = .good f) :
    SourceChecked f := by
  unfold readAlarm at h
  split at h
  · split at h <;> cases h
    exact sourceChecked_of_other nofun
  · cases h

theorem readAck_source {src : Station} {payload : List Byte} {f : Frame} (h : readAck src payload = .good f) :
    SourceChecked f := by
  unfold readAck at h
  split at h
  · split at h <;> cases h
    exact sourceChecked_of_other nofun
  · cases h

theorem readGap_source {src : Station} {payload : List Byte} {f : Frame} (h : readGap src payload = .good f) :
    SourceChecked f := by
  unfold readGap at h
  split at h
  · split at h
    · cases h
      exact sourceChecked_of_other nofun
    · split at h <;> cases h
      exact sourceChecked_of_other nofun
  · cases h

theorem readBody_source {hdr : Byte} {payload : List Byte} {f : Frame} (h : readBody hdr payload = .good f) :
    SourceChecked f := by
  unfold readBody at h
  split at h
  · exact readState_source h
  · exact readAlarm_source h
  · exact readAck_source h
  · exact readGap_source h
  · cases h

theorem examine_source {bytes : List Byte} {f : Frame} (h : examine bytes = .good f) : SourceChecked f := by
  unfold examine at h
  split at h
  · cases h
  split at h
  · cases h
  split at h
  · split at h
    · cases h
    split at h
    · cases h
    split at h
    · cases h
    exact readBody_source h
  · cases h

theorem examineFraming_source {bytes : List Byte} {f : Frame} (h : examineFraming bytes = .good f) : SourceChecked f := by
  unfold examineFraming at h
  split at h
  · cases h
  · exact examine_source h

theorem keeps_withLine (l : Line) : Keeps Q s (s.withLine l) := Still.keeps (.of_blocks rfl rfl rfl ⟨rfl, rfl⟩) rfl

theorem keeps_settleReception (frame : List Byte) {r : Reception} (source : ∀ f, r = .good f → SourceChecked f)
    (live : Q → isLive s = true) : Keeps Q s (settleReception frame r s) := by
  cases r with
  | incomplete => exact keeps_withLine _
  | fault _ => exact keeps_withLine _
  | good f => exact (keeps_withLine { s.line with rx := .hunting }).trans (keeps_handOn (source f rfl) live)

theorem keeps_receive (idle : Nat) (bytes : List Byte) (framing : Bool) : Keeps Q s (receive idle bytes framing s) := by
  unfold receive
  split
  · next h =>
    dsimp only
    split
    · exact Still.keeps (.of_blocks (by simp) (by simp) (by simp) (by simp)) (by simp)
    · split
      · exact keeps_withLine _
      · next l _ =>
        refine (keeps_withLine { l with idle := 0 }).trans (keeps_settleReception _ (fun f good => ?_) fun _ => h.1)
        split at good
        · exact examineFraming_source good
        · exact examine_source good
  · exact .refl

/-! ### A period boundary -/

theorem still_endListen (live : isLive s = true) : Still Q s (endListen s) := by
  have loader := endListen_loader s
  refine ⟨⟨by rw [SameStation, loader]; exact ⟨rfl, rfl⟩, fun _ => ?_, by simp, by simp⟩, by simp⟩
  rw [live, endListen_live live]

theorem stageTwo_restore (s : State) : (stageTwo s).shed.restore = s.shed.restore := by
  have demand : (countDemand s).shed.restore = s.shed.restore := by
    unfold countDemand
    dsimp only
    split <;> simp
  have source : ∀ u : State, (countSource u).shed.restore = u.shed.restore := by
    intro u
    unfold countSource
    dsimp only
    split
    · split <;> simp
    · rfl
  simp only [stageTwo, settleCeilings_keeps, latchPosted_keeps]
  rw [source, demand]

theorem still_settledStages (live : isLive s = true) : Still Q s (settledStages s) :=
  (still_endListen live).trans (.of_blocks (by simp [settledStages]) (by simp [settledStages])
    (by rw [settledStages, stageTwo_restore]; simp) (by simp [settledStages]))

theorem keeps_agePeers (live : Q → isLive s = true) : Keeps Q s (agePeers s) := by
  obtain ⟨loader, supply, -, shed, alarms, -⟩ := agedTable_keeps s
  have poles : (agedTable s).poles = s.poles := by
    unfold agedTable
    dsimp only
    split <;> simp
  have aged : Keeps Q s (agedTable s) :=
    Still.keeps (.of_blocks loader supply (by rw [shed]) (by rw [poles]; exact ⟨rfl, rfl⟩)) (by rw [alarms])
  rw [agePeers_eq]
  refine aged.trans (Still.alarmEvent (.of_blocks (by simp) (by simp) (by simp) (by simp)) (tableKept_orphan _ _) fun q => ?_)
  rw [isLive_of_loader loader, live q]

theorem keeps_takeBoundary : Keeps Q s (takeBoundary s) := by
  by_cases due : boundaryDue s = true
  · have live : isLive s = true := by
      rw [boundaryDue, Bool.and_eq_true] at due
      exact due.1
    obtain ⟨u, hu⟩ : ∃ u, u = stageFour (formPending (ripened s)) := ⟨_, rfl⟩
    have live' : isLive (settledStages s) = true := by
      rw [isLive_of_loader (settledStages_loader s), endListen_live live]
    have loader : u.loader = (settledStages s).loader := by simp [hu, ripened]
    have one : Keeps Q s (settledStages s) := (still_settledStages live).keeps (by simp [settledStages])
    have two : Keeps Q (agePeers (settledStages s)) u :=
      Still.keeps (.of_blocks (by simp [hu, ripened]) (by simp [hu, ripened]) (by simp [hu, ripened]) (by simp [hu, ripened]))
        (by simp [hu, ripened])
    have three : Keeps Q u (counted s) := by
      rw [counted, ← hu]
      exact Still.alarmEvent (.of_blocks (by simp) (by simp) (by simp) (by simp)) (tableKept_countAcks u)
        (fun _ => by rw [isLive_of_loader loader, live'])
    have four : Keeps Q (counted s) (takeBoundary s) := by
      rw [takeBoundary_releases due]
      refine keeps_releaseRecords _ fun _ => ?_
      rw [counted, ← hu, isLive_of_loader (s := u) (by simp [alarmEvent]), isLive_of_loader loader, live']
    exact (((one.trans (keeps_agePeers fun _ => live')).trans two).trans three).trans four
  · rw [takeBoundary, if_neg due]
    exact .refl

theorem keeps_boundaryWhen (happens : State → Bool) : Keeps Q s (boundaryWhen happens s) := by
  unfold boundaryWhen
  split
  · exact keeps_takeBoundary
  · exact .refl

end Sys2Proof.Machine
end

section
/-!
Resets, start-up, requests and the limit output keep the laws; every command then does, and the laws that every step keeps follow.
-/
namespace Sys2Proof.Machine

section
variable {Q : Prop} {s t u : State}

/-! ### The limit output -/

theorem keeps_openLimitPeriod : Keeps Q s (openLimitPeriod s) :=
  Still.keeps (.of_blocks (by simp) (by simp) (by simp) (by simp)) (by simp)

theorem keeps_reachLimitDuty : Keeps Q s (reachLimitDuty s) :=
  Still.keeps (.of_blocks (by simp) (by simp) (by simp) (by simp)) (by simp)

/-! ### Resets (R153) -/

/-- At the reset values every law holds, whatever the state was. -/
theorem keeps_reset (dead : isLive t = false) (locked : t.loader.locked = none) (supply : t.supply = Supply.afterReset)
    (restore : t.shed.restore = none) (table : t.alarms.table = []) (p : PoleLaw false t.poles.p) (n : PoleLaw false t.poles.n) :
    Keeps Q s t := by
  have col : isCol t = false := by
    rw [isCol, record, locked]
    rfl
  refine ⟨⟨fun _ => ?_, fun _ _ => ?_⟩, fun _ => ?_, fun _ _ => ?_, fun _ _ => ?_, fun _ _ => ?_⟩
  · rw [AlarmTableBounded, table, col]
    exact ⟨fun _ => Nat.zero_le 4, fun e mem => absurd mem List.not_mem_nil, nofun⟩
  · rw [AlarmsDistinct, table]
    exact List.nodup_nil
  · rw [OffLineUnderAlarm, table]
    exact nofun
  · rw [retrieveFollowsPole_iff, dead]
    exact ⟨p, n⟩
  · rw [TimersFollowView, dead, supply, restore]
    exact ⟨by decide, nofun, fun _ => rfl⟩
  · rw [WindowsOk, dead, supply]
    exact ⟨by decide, by decide, by decide, fun _ => ⟨rfl, rfl⟩, nofun⟩

theorem poleLaw_afterReset : PoleLaw false Pole.afterReset := ⟨fun _ => rfl, nofun, rfl, fun _ => ⟨rfl, rfl⟩⟩

theorem poleLaw_carryPole (q : Pole) : PoleLaw false (carryPole q) := ⟨fun _ => rfl, nofun, rfl, fun _ => ⟨rfl, rfl⟩⟩

theorem keeps_powerOn (straps : BitVec 3) (cs : Bool) : Keeps Q s (powerOn straps cs s) :=
  keeps_reset rfl rfl rfl rfl rfl poleLaw_afterReset poleLaw_afterReset

theorem keeps_requestReset (straps : BitVec 3) : Keeps Q s (requestReset straps s) :=
  keeps_reset rfl rfl rfl rfl rfl (poleLaw_carryPole _) (poleLaw_carryPole _)

theorem keeps_dropSupply : Keeps Q s (dropSupply s) :=
  keeps_reset rfl rfl rfl rfl rfl poleLaw_afterReset poleLaw_afterReset

/-- The Loader changes, but for the station number, the record and the run state. -/
theorem keeps_withLoader {l : Loader} (same : l.station = s.loader.station ∧ l.locked = s.loader.locked ∧ l.run = s.loader.run) :
    Keeps Q s (s.withLoader l) := by
  obtain ⟨station, locked, run⟩ := same
  refine Still.keeps ⟨⟨⟨station, locked⟩, fun _ => ?_, ⟨rfl, rfl, rfl, rfl⟩, ⟨rfl, rfl⟩⟩, ⟨rfl, rfl, rfl⟩⟩ rfl
  rw [isLive, isLive, State.withLoader_loader, run]

theorem keeps_releasePin (straps : BitVec 3) (cs : Bool) : Keeps Q s (releasePin straps cs s) := by
  unfold releasePin
  split
  · exact keeps_withLoader ⟨rfl, rfl, rfl⟩
  · exact keeps_reset rfl rfl rfl rfl rfl (poleLaw_carryPole _) (poleLaw_carryPole _)

theorem keeps_assertPin : Keeps Q s (assertPin s) := by
  unfold assertPin
  split
  · exact keeps_withLoader ⟨rfl, rfl, rfl⟩
  · exact keeps_reset rfl rfl rfl rfl rfl (poleLaw_carryPole _) (poleLaw_carryPole _)

/-! ### Reading the record (R154 to R157) -/

theorem keeps_failAttempt (levels : BusLevels) : Keeps Q s (failAttempt levels s) := by
  unfold failAttempt
  split
  · exact .refl
  · split
    · exact keeps_withLoader ⟨rfl, rfl, rfl⟩
    · exact .refl

theorem keeps_retryAttempt : Keeps Q s (retryAttempt s) := by
  unfold retryAttempt
  split
  · split
    · exact keeps_withLoader ⟨rfl, rfl, rfl⟩
    · exact .refl
  · exact .refl
  · exact .refl

/-- A pole that is not watched keeps its law before listen entry (R37). -/
theorem PoleLaw.unwatched {live : Bool} {q : Pole} (law : PoleLaw false q) : PoleLaw live (unwatched q) := by
  obtain ⟨-, -, capture, before⟩ := law
  obtain ⟨state, opened⟩ := before rfl
  have state' : (Machine.unwatched q).state = .notEvaluated := state
  refine ⟨fun _ => state, fun _ => ?_, capture, fun _ => ⟨state, opened⟩⟩
  rw [state']
  rfl

theorem keeps_enterConfigFault (f : ConfigFault) (run : s.loader.run = .configuring) : Keeps Q s (enterConfigFault f s) := by
  obtain ⟨x, hx⟩ : ∃ x, x = s.withLoader { s.loader with run := .configFault, fault := f, attempt := .idle } := ⟨_, rfl⟩
  have dead : isLive x = false := by rw [hx]; rfl
  have faulty : Keeps Q s x := by
    rw [hx]
    refine Still.keeps ⟨⟨⟨rfl, rfl⟩, fun _ => ?_, ⟨rfl, rfl, rfl, rfl⟩, ⟨rfl, rfl⟩⟩, ⟨rfl, rfl, rfl⟩⟩ rfl
    rw [isLive, isLive, run]
    rfl
  have off : Keeps Q x (unwatchPoles x) := by
    refine keeps_poles rfl rfl rfl rfl ?_ ?_ <;> rw [dead] <;> exact PoleLaw.unwatched
  have raised : Keeps Q (unwatchPoles x) (raise .configFault (unwatchPoles x)) :=
    Still.keeps (.of_blocks (by simp) (by simp) (by simp) (by simp)) (by simp)
  rw [enterConfigFault, ← hx]
  exact (faulty.trans off).trans raised

/-- Listen entry before the exit of GAP is examined (R157). -/
def listening (r : Record) (s : State) : State :=
  let t := now s
  let col := r.role == some .col
  let s := s.withLoader { s.loader with run := .listen, locked := some r, attempt := .idle }
  let s := s.withSupply { s.supply with
    windowStart := if r.voltageInput then some t else none, voltageOk := !r.voltageInput, gapStart := some t }
  let s := s.withShare { s.share with boundaryAt := some t, boundaries := 0 }
  let s := s.withLine { s.line with idle := 0 }
  let s := s.withAlarms { s.alarms with debounceStart := s.clock.up }
  if col then
    s.withPoles { s.poles with
      p := { s.poles.p with headStart := some t }, n := { s.poles.n with headStart := some t }, calStart := some t }
  else unwatchPoles s

theorem enterListen_eq (r : Record) (s : State) : enterListen r s = examineExit (listening r s) := rfl

theorem listening_keeps (r : Record) (s : State) :
    (listening r s).loader = { s.loader with run := .listen, locked := some r, attempt := .idle }
      ∧ (listening r s).supply = { s.supply with
          windowStart := if r.voltageInput then some (now s) else none, voltageOk := !r.voltageInput, gapStart := some (now s) }
      ∧ (listening r s).shed = s.shed ∧ (listening r s).alarms.table = s.alarms.table := by
  unfold listening
  dsimp only
  split <;> exact ⟨rfl, rfl, rfl, rfl⟩

theorem listening_poleLaw (r : Record) (s : State) :
    (PoleLaw false s.poles.p → PoleLaw true (listening r s).poles.p) ∧
    (PoleLaw false s.poles.n → PoleLaw true (listening r s).poles.n) := by
  have watched : ∀ q : Pole, ∀ x, PoleLaw false q → PoleLaw true { q with headStart := x } :=
    fun q x ⟨mark, retrieve, capture, _⟩ => ⟨mark, retrieve, capture, nofun⟩
  unfold listening
  dsimp only
  split
  · exact ⟨watched _ _, watched _ _⟩
  · exact ⟨PoleLaw.unwatched, PoleLaw.unwatched⟩

theorem fieldChecks_good {r : Record} {station : Station} (all : ∀ c ∈ fieldChecks r station, c.2 = true) :
    (r.role = some .col → station.val ≤ 1) ∧ confirmCount r ≠ 0 := by
  have role := all (2, r.role.isSome && !(r.role == some .col && decide (1 < station.val))) (by simp [fieldChecks])
  have confirm := all (22, within 10 r.returnConfirm 500) (by simp [fieldChecks])
  refine ⟨fun col => ?_, ?_⟩
  · simpa [col] using role
  · simp only [within, Bool.and_eq_true, decide_eq_true_eq] at confirm
    unfold confirmCount
    omega

/-- What R155 checks of a record that is locked: a collector stands at 0 or 1, and voltage ok takes a window at least. -/
theorem checkRecord_ok {bytes : List Byte} {station : Station} {r : Record} (ok : checkRecord bytes station = .ok r) :
    (r.role = some .col → station.val ≤ 1) ∧ confirmCount r ≠ 0 := by
  unfold checkRecord at ok
  split at ok
  · cases ok
  · split at ok
    · cases ok
    · next good =>
      cases ok
      have all : ∀ c ∈ fieldChecks (decodeRecord bytes) station, c.2 = true := by
        intro c mem
        rw [firstBadField, Option.map_eq_none_iff, List.find?_eq_none] at good
        simpa using good c mem
      exact fieldChecks_good all

/-- The read ends: the station listens, or the record is bad (R155 to R157). -/
theorem keeps_enterListen {r : Record} (dead : isLive s = false) (col : r.role = some .col → s.loader.station.val ≤ 1)
    (confirm : confirmCount r ≠ 0) : Keeps Q s (enterListen r s) := by
  obtain ⟨loader, supply, shed, table⟩ := listening_keeps r s
  obtain ⟨p, n⟩ := listening_poleLaw r s
  have live : isLive (listening r s) = true := by rw [isLive, loader]
  have locked : record (listening r s) = r := by rw [record, loader]; rfl
  have listen : Keeps Q s (listening r s) := by
    refine ⟨⟨fun ⟨few, origins, _⟩ => ?_, fun _ distinct => ?_⟩, fun law => ?_,
      fun _ law => ?_, fun _ law => ?_, fun _ law => ?_⟩
    · rw [AlarmTableBounded, table, isCol, locked, loader, beq_iff_eq]
      exact ⟨few, origins, col⟩
    · rw [AlarmsDistinct, table]
      exact distinct
    · rw [OffLineUnderAlarm, table, supply]
      exact law
    · rw [retrieveFollowsPole_iff, dead] at law
      rw [retrieveFollowsPole_iff, live]
      exact ⟨p law.1, n law.2⟩
    · obtain ⟨restore, -, view⟩ := law
      rw [TimersFollowView, live, shed, supply]
      exact ⟨restore, fun _ => by simp [view dead], nofun⟩
    · obtain ⟨few, low, count, idle, -⟩ := law
      obtain ⟨run, -⟩ := idle dead
      rw [WindowsOk, live, locked, supply]
      refine ⟨few, low, count, nofun, fun _ input => ?_⟩
      simp only [run, input]
      exact ⟨by simpa using confirm.symm, Nat.zero_le _⟩
  rw [enterListen_eq]
  exact listen.trans (keeps_examineExit fun _ => live)

theorem keeps_completeRead (bytes : List Byte) : Keeps Q s (completeRead bytes s) := by
  unfold completeRead
  split
  · next h =>
    obtain ⟨run, -⟩ := h
    obtain ⟨t, ht⟩ : ∃ t, t = s.withLoader { s.loader with bus := readTransaction, received := bytes } := ⟨_, rfl⟩
    have read : Keeps Q s t := ht ▸ keeps_withLoader ⟨rfl, rfl, rfl⟩
    have run' : t.loader.run = .configuring := by rw [ht]; exact run
    dsimp only
    rw [← ht]
    split
    · next r ok =>
      obtain ⟨col, confirm⟩ := checkRecord_ok ok
      exact read.trans (keeps_enterListen (by rw [isLive, run']) (by rw [ht]; exact col) confirm)
    · exact read.trans (keeps_enterConfigFault _ run')
  · exact .refl

theorem keeps_reachReadDeadline (done : Nat) : Keeps Q s (reachReadDeadline done s) := by
  unfold reachReadDeadline
  split
  · next h =>
    refine Keeps.trans (t := s.withLoader { s.loader with
      bus := if s.loader.attempt = .inProgress then cutTransaction done else s.loader.bus }) (keeps_withLoader ⟨rfl, rfl, rfl⟩) ?_
    exact keeps_enterConfigFault _ h.1
  · exact .refl

/-! ### Requests (R138 to R148) -/

theorem keeps_withPort (p : Port) : Keeps Q s (s.withPort p) := Still.keeps (.of_blocks rfl rfl rfl ⟨rfl, rfl⟩) rfl

theorem keeps_takeFrame (cut : Nat) (bytes : List Byte) (strayBits : Nat) {take : State → Answer} (h : Keeps Q s (take s).1) :
    Keeps Q s (takeFrame cut bytes strayBits take s) := by
  unfold takeFrame
  split
  · exact keeps_withPort _
  · exact h.trans (keeps_withPort _)

theorem keeps_whenRunning {take : State → Answer} (h : isLive s = true → Keeps Q s (take s).1) :
    Keeps Q s (whenRunning take s).1 := by
  rw [whenRunning_fst]
  split
  · next live => exact h live
  · exact .refl

theorem keeps_takeDemand (a : BitVec 16) : Keeps Q s (takeDemand a s).1 :=
  Still.keeps (.of_blocks rfl rfl rfl ⟨rfl, rfl⟩) rfl

theorem keeps_takeSource (a : BitVec 16) : Keeps Q s (takeSource a s).1 := by
  unfold takeSource
  split
  · exact Still.keeps (.of_blocks rfl rfl rfl ⟨rfl, rfl⟩) rfl
  · exact .refl

theorem keeps_takeCap (a : BitVec 16) : Keeps Q s (takeCap a s).1 := by
  unfold takeCap
  split
  · exact keeps_withPort _
  · exact .refl

theorem keeps_takeRelease (b : Byte) (live : isLive s = true) : Keeps Q s (takeRelease b s).1 := by
  unfold takeRelease
  split
  · split
    · exact .refl
    · split
      · next lowered => exact keeps_releasePole _ lowered live
      · exact .refl
  · exact .refl

theorem keeps_takeClearAttention (b : Byte) : Keeps Q s (takeClearAttention b s).1 := by
  unfold takeClearAttention
  split
  · exact keeps_withPort _
  · exact .refl

theorem keeps_takeModuleReset (cut : Nat) (straps : BitVec 3) : Keeps Q s (takeModuleReset cut straps s) := by
  unfold takeModuleReset
  split
  · exact keeps_takeFrame _ _ _ .refl
  · exact (keeps_requestReset straps).trans (keeps_withPort _)

theorem keeps_takeUnknown (cut : Nat) (bytes : List Byte) (strayBits : Nat) : Keeps Q s (takeUnknown cut bytes strayBits s) := by
  unfold takeUnknown
  split
  · exact keeps_takeFrame _ _ _ .refl
  · exact .refl

/-! ### Every command -/

theorem keeps_advance (dt : Nat) (s : State) : Keeps Q s (advance dt s) :=
  Still.keeps (.of_blocks rfl rfl rfl ⟨rfl, rfl⟩) rfl

theorem keeps_of_next {f : State} (h : Host.Outcome.next f = (.next t : Host.Outcome State Fault Refusal)) (k : Keeps Q s f) :
    Keeps Q s t := by
  cases h
  exact k

theorem keeps_of_perform {dt : Nat} {f : State → State} (h : perform dt f s = .next t)
    (k : Keeps Q (advance dt s) (f (advance dt s))) : Keeps Q s t := by
  unfold perform at h
  split at h
  · cases h
    exact .refl
  · cases h
    exact (keeps_advance dt s).trans k

theorem keeps_of_frame {frame : PortFrame} {n : Nat} {f : State → State} (h : performFrame frame n f s = .next t)
    (k : Keeps Q (advance frame.dt s) (f (advance frame.dt s))) : Keeps Q s t := by
  unfold performFrame at h
  split at h
  · exact keeps_of_next h (keeps_withPort _)
  · exact keeps_of_perform h k

theorem keeps_of_request {frame : PortFrame} {r : Request} {take : State → Answer} (h : performRequest frame r take s = .next t)
    (k : Keeps Q (advance frame.dt s) (take (advance frame.dt s)).1) : Keeps Q s t :=
  keeps_of_frame h (keeps_takeFrame _ _ _ k)

theorem keeps_exec {c : Instr} (h : exec c s = .next t) : Keeps (SilentWhenNotRunning s) s t := by
  cases c with
  | powerOnReset straps cs => exact keeps_of_next h (keeps_powerOn straps cs)
  | resetPin straps cs => exact keeps_of_next h (keeps_releasePin straps cs)
  | resetPinAsserted => exact keeps_of_next h keeps_assertPin
  | supplyBelowOperatingLevel => exact keeps_of_next h keeps_dropSupply
  | configAttemptFailed failed => exact keeps_of_perform h (keeps_failAttempt _)
  | configReadRetry dt => exact keeps_of_perform h keeps_retryAttempt
  | configReadComplete dt bytes => exact keeps_of_perform h (keeps_completeRead bytes)
  | configReadDeadline deadline => exact keeps_of_perform h (keeps_reachReadDeadline _)
  | postDemand frame a => exact keeps_of_request h (keeps_whenRunning fun _ => keeps_takeDemand a)
  | postSource frame a => exact keeps_of_request h (keeps_whenRunning fun _ => keeps_takeSource a)
  | capCeiling frame a => exact keeps_of_request h (keeps_whenRunning fun _ => keeps_takeCap a)
  | ackAlarm frame => exact keeps_of_request h (keeps_whenRunning fun live => keeps_acknowledge fun _ => live)
  | releaseRetrieve frame pole => exact keeps_of_request h (keeps_whenRunning fun live => keeps_takeRelease pole live)
  | readStatus frame => exact keeps_of_request h .refl
  | readPeer frame station => exact keeps_of_request h (by rw [takeReadPeer_keeps]; exact .refl)
  | readAlarms frame => exact keeps_of_request h .refl
  | readHistory frame index => exact keeps_of_request h (by rw [takeReadHistory_keeps]; exact .refl)
  | clearAttention frame cause => exact keeps_of_request h (keeps_takeClearAttention cause)
  | clearCounters frame => exact keeps_of_request h (keeps_withLine _)
  | moduleReset frame straps => exact keeps_of_frame h (keeps_takeModuleReset _ straps)
  | unknownRequest frame bytes strayBits => exact keeps_of_frame h (keeps_takeUnknown _ bytes strayBits)
  | windowCompletion dt input => exact keeps_of_perform h (keeps_completeWindow input)
  | rewireConfirm dt input pole => exact keeps_of_perform h (keeps_confirmRewire input pole)
  | suspicionConfirm dt input pole => exact keeps_of_perform h (keeps_confirmSuspicion input pole)
  | retrieveTimeout dt input pole => exact keeps_of_perform h (keeps_timeOutRetrieve input pole)
  | headWindowCompletion dt pole edges => exact keeps_of_perform h (keeps_completeHead pole edges)
  | calibrationIntervalEnd dt => exact keeps_of_perform h keeps_endCalibration
  | gapLimitExpiry dt => exact keeps_of_perform h keeps_reachGapLimit
  | restoreDelayExpiry dt => exact keeps_of_perform h keeps_endRestore
  | periodBoundary dt => exact keeps_of_perform h keeps_takeBoundary
  | listenPhaseEnd dt => exact keeps_of_perform h (keeps_boundaryWhen _)
  | peerStale dt station => exact keeps_of_perform h (keeps_boundaryWhen _)
  | peerLost dt station => exact keeps_of_perform h (keeps_boundaryWhen _)
  | demandTimeout dt => exact keeps_of_perform h (keeps_boundaryWhen _)
  | sourceTimeout dt => exact keeps_of_perform h (keeps_boundaryWhen _)
  | ackPendingLapse dt origin number => exact keeps_of_perform h (keeps_boundaryWhen _)
  | stateFrame dt idle bytes => exact keeps_of_perform h (keeps_receive idle bytes false)
  | alarmFrame dt idle bytes => exact keeps_of_perform h (keeps_receive idle bytes false)
  | ackFrame dt idle bytes => exact keeps_of_perform h (keeps_receive idle bytes false)
  | gapStartFrame dt idle bytes => exact keeps_of_perform h (keeps_receive idle bytes false)
  | gapEndFrame dt idle bytes => exact keeps_of_perform h (keeps_receive idle bytes false)
  | clashFrame dt idle bytes => exact keeps_of_perform h (keeps_receive idle bytes false)
  | receiveFault dt idle bytes framing => exact keeps_of_perform h (keeps_receive idle bytes framing)
  | frameTruncation dt idle bytes gap =>
    exact keeps_of_perform (f := fun u => receive gap [] false (receive idle bytes false u)) h
      ((keeps_receive idle bytes false).trans (keeps_receive gap [] false))
  | deferralReached dt idle => exact keeps_of_perform h (keeps_startAttempt idle)
  | collisionAbort dt bit => exact keeps_of_perform h (keeps_abortAttempt bit id)
  | transmitSuccess dt => exact keeps_of_perform h (keeps_succeedAttempt id)
  | suspensionExpiry dt => exact keeps_of_perform h keeps_endSuspension
  | ackButtonPress dt stood => exact keeps_of_perform h (keeps_pressButton stood)
  | ackButtonRelease dt stood => exact keeps_of_perform h (keeps_releaseButton stood)
  | flashClockToggle dt => exact keeps_of_perform h keeps_toggleLamp
  | soundingTimerExpiry dt => exact keeps_of_perform h keeps_endSounding
  | reminderTimerExpiry dt => exact keeps_of_perform h keeps_remind
  | limitPeriodOpens dt => exact keeps_of_perform h keeps_openLimitPeriod
  | limitDutyReached dt => exact keeps_of_perform h keeps_reachLimitDuty

theorem keeps_step (h : step s = .next t) : Keeps (SilentWhenNotRunning s) s t := by
  unfold step at h
  split at h
  · exact keeps_of_next h .refl
  · next c rest _ =>
    have taken : Keeps (SilentWhenNotRunning s) s { s with pending := rest } :=
      Still.keeps (.of_blocks rfl rfl rfl ⟨rfl, rfl⟩) rfl
    exact taken.trans (keeps_exec h)

end

/-- Settles O55: every command keeps the laws of the alarm table and of OFF_LINE. -/
theorem alarmLawsKept : Obligations.AlarmLawsKept := by
  intro s t h
  obtain ⟨⟨bounded, distinct⟩, offLine, -⟩ := keeps_step h
  exact ⟨bounded, distinct, offLine⟩

/-- Settles O58: every command keeps the laws of the poles, of the timers of the view and of the windows, where the silence law holds. -/
theorem watchLawsKept : Obligations.WatchLawsKept := by
  intro s t silent h
  obtain ⟨-, -, retrieve, timers, windows⟩ := keeps_step h
  exact ⟨retrieve silent, timers silent, windows silent⟩

end Sys2Proof.Machine
end

section
/-!
The inputs of Pole Watch: the capture of angle periods and their angle (R23, R24), the head windows and the calibration of their
baselines (R26 to R28).
-/
namespace Sys2Proof.Machine

/-! ### The angle of a span (R23, R24) -/

/-- The falling edge of an open period ends its high time. -/
theorem takeEdge_falling_opened {q : Pole} {o : Nat} (after : Nat) (h : q.opened = some ⟨o, none⟩) :
    (takeEdge q ⟨false, after⟩).opened = some ⟨o + after, some (o + after)⟩ := by
  simp [takeEdge, h]

/-- The rising edge after it closes the period. -/
theorem takeEdge_closes {q : Pole} {o high : Nat} (after : Nat) (h : q.opened = some ⟨o, some high⟩) :
    (takeEdge q ⟨true, after⟩).capture = some ⟨high / 1000, (o + after) / 1000⟩ := by
  simp [takeEdge, h, closePeriod]

/-- The first rising edge since listen entry completes no period. -/
theorem takeEdge_first_capture {q : Pole} (after : Nat) (h : q.opened = none) :
    (takeEdge q ⟨true, after⟩).capture = q.capture := by
  simp [takeEdge, h]

/-- The angle of a span is that of its last complete period. -/
theorem spanAngle_of_capture {q : Pole} {edges : List AngleEdge} {c : Option AnglePeriod}
    (h : (takeEdges edges q).capture = c) : spanAngle q edges = c.bind angleOf := by
  rw [spanAngle, h]

/-- A period outside 500 to 2000 microseconds is an angle fault. -/
theorem angleOf_outside {p : AnglePeriod} (h : p.period < 500 ∨ 2000 < p.period) : angleOf p = none := if_pos h

/-- Within it the angle follows the duty (R24). -/
theorem angleOf_inside {p : AnglePeriod} (low : 500 ≤ p.period) (high : p.period ≤ 2000) :
    angleOf p =
      let duty := p.high * 1000 / p.period
      if duty < 50 ∨ 950 < duty then none else if duty < 100 then some 0 else if 900 < duty then some 900
      else some ((duty - 100) * 900 / 800) :=
  if_neg (by omega)

theorem angleOf_le {p : AnglePeriod} {a : Nat} (h : angleOf p = some a) : a ≤ 900 := by
  by_cases inside : p.period < 500 ∨ 2000 < p.period
  · rw [angleOf_outside inside] at h
    cases h
  · rw [angleOf_inside (by omega) (by omega)] at h
    dsimp only at h
    split_ifs at h with _ low high <;> cases h <;> omega

/-- Settles O39: the edges are taken one by one, and the falling ones after the last rising edge move no capture. -/
theorem angleOfPeriod : Obligations.AngleOfPeriod := by
  intro q edges last left
  refine ⟨takeEdges_falling_capture edges q, ?_, ?_, ?_, ?_, ?_, ?_, ?_, ?_, ?_, ?_⟩
  · rintro g rest shut rfl falling
    exact (takeEdges_falling_capture rest _ falling).trans (takeEdge_first_capture g shut)
  · rintro before g h l after rfl falling
    change (takeEdges _ q).capture = _
    rw [takeEdges_append, takeEdges_append, takeEdges_falling_capture after _ falling, takeEdges_period]
  · rintro o h l after opened rfl falling
    exact (takeEdges_falling_capture after _ falling).trans (takeEdge_closes l (takeEdge_falling_opened h opened))
  · rintro o h l after opened rfl falling
    exact (takeEdges_falling_capture after _ falling).trans (takeEdge_closes l opened)
  · rintro rfl
    rfl
  · rintro before g rfl
    change (takeEdges _ q).opened = _
    rw [takeEdges_append]
    exact takeEdge_rising_opened _ g
  · rintro before g h rfl
    change (takeEdges _ q).opened = _
    rw [takeEdges_append]
    exact (takeEdge_falling_opened h (takeEdge_rising_opened _ g)).trans (by rw [Nat.zero_add])
  · rintro o h opened rfl
    exact takeEdge_falling_opened h opened
  · exact fun none => spanAngle_of_capture none
  · intro p some
    rw [spanAngle_of_capture some, Option.bind_some]
    refine ⟨angleOf_outside, fun low high duty hduty => ?_, fun a => angleOf_le⟩
    rw [angleOf_inside low high]
    dsimp only
    rw [← hduty]
    refine ⟨fun fault => if_pos fault, fun _ _ => ?_, fun _ _ => ?_, fun _ _ => ?_⟩
    · rw [if_neg (by omega), if_pos (by omega)]
    · rw [if_neg (by omega), if_neg (by omega), if_pos (by omega)]
    · rw [if_neg (by omega), if_neg (by omega), if_neg (by omega)]

/-! ### Head windows (R26, R27) -/

/-- Counts of edges stop at 65535. -/
theorem countUp_eq (count edges : Nat) : countUp count edges = if count + edges ≤ 65535 then count + edges else 65535 := by
  unfold countUp
  split <;> omega

theorem isEligibleWindow_iff {s : State} {q : Pole} :
    isEligibleWindow s q = true ↔ q.state = .onWire ∧ s.supply.voltageOk = true ∧ ownAlarms s = [] := by
  simp [isEligibleWindow, and_assoc]

/-- A head window of a pole starts the next, gives its verdict, and counts for calibration where it is eligible. -/
theorem headPole_eq {s : State} {q : Pole} {t0 : StationTime} (edges : Nat) (start : q.headStart = some t0) :
    headPole s edges q = { q with
      headCount := 0
      headStart := some (later t0 (record s).headWindow)
      verdict := verdictOf (record s) q.baseline (countUp q.headCount edges)
      calSum := if isEligibleWindow s q then q.calSum + countUp q.headCount edges else q.calSum
      calTally := if isEligibleWindow s q then q.calTally + 1 else q.calTally } := by
  rw [← Option.map_some (f := (later · (record s).headWindow)), ← start]
  by_cases eligible : isEligibleWindow s q = true
  · rw [if_pos eligible, if_pos eligible]
    exact if_pos eligible
  · rw [if_neg eligible, if_neg eligible]
    exact if_neg eligible

/-- Settles O37: the window is due, and the pole is as its head window leaves it. -/
theorem headWindowVerdict : Obligations.HeadWindowVerdict := by
  intro dt id edges t0 s ⟨reset, live⟩ col q start ran count verdict eligible
  have effect : completeHead id edges (advance dt s) =
      (advance dt s).withPoles (setPole id (headPole (advance dt s) edges q) s.poles) :=
    if_pos ⟨live, col, expired_of start ran⟩
  have count_eq : countUp q.headCount edges = count := countUp_eq _ _
  have eligible_iff : isEligibleWindow (advance dt s) q = true ↔ eligible := isEligibleWindow_iff
  change perform dt (completeHead id edges) s = _
  rw [perform_working dt _ reset, effect, headPole_eq edges start, count_eq]
  simp only [eligible_iff]
  rfl

/-! ### Calibration (R28) -/

/-- The eighth of the difference is truncated toward zero on either side of the baseline. -/
theorem stepBaseline_eq (baseline mean : Nat) :
    stepBaseline baseline mean =
      if baseline = 0 then mean else ((baseline : Int) + Int.tdiv ((mean : Int) - baseline) 8).toNat := by
  unfold stepBaseline
  split
  · rfl
  · split
    · next up =>
      rw [Int.tdiv_eq_ediv_of_nonneg (by omega)]
      omega
    · next down =>
      rw [show (mean : Int) - baseline = -(baseline - mean) by omega, Int.neg_tdiv, Int.tdiv_eq_ediv_of_nonneg (by omega)]
      omega

/-- A step lands between the baseline and the mean. -/
theorem stepBaseline_le (baseline mean : Nat) : stepBaseline baseline mean ≤ max baseline mean := by
  unfold stepBaseline
  split
  · omega
  · split <;> omega

/-- Settles O38: the interval is due, and each pole takes the step of its baseline. -/
theorem calibrationStep : Obligations.CalibrationStep := by
  intro dt t0 s ⟨reset, live⟩ col start ran step after
  have step_eq : ∀ q : Pole, step q =
      if q.calTally = 0 ∨ q.state = .unwatched then q.baseline else stepBaseline q.baseline (q.calSum / q.calTally) := by
    intro q
    rw [stepBaseline_eq]
  have after_eq : ∀ q : Pole, calibratePole q = after q := fun q => by
    change _ = { q with calSum := 0, calTally := 0, baseline := step q }
    rw [step_eq]
    rfl
  refine ⟨?_, fun q baseline sum => ?_⟩
  · have effect : endCalibration (advance dt s) = (advance dt s).withPoles { s.poles with
        p := calibratePole s.poles.p
        n := calibratePole s.poles.n
        calStart := s.poles.calStart.map (later · (record s).calInterval) } :=
      if_pos ⟨live, col, expired_of start ran⟩
    change perform dt endCalibration s = _
    rw [perform_working dt _ reset, effect, after_eq, after_eq, start]
    rfl
  · rw [step_eq]
    split
    · exact baseline
    · have mean : q.calSum / q.calTally ≤ 65535 := Nat.div_le_of_le_mul (by rwa [Nat.mul_comm])
      exact (stepBaseline_le _ _).trans (max_le baseline mean)

end Sys2Proof.Machine
end

section
/-!
The transition of one pole at an evaluation (Table 2-5, R29 to R35, R37): the terms it goes by, and what it makes of each state.
-/
namespace Sys2Proof.Machine

/-! ### The terms (R29) -/

/-- A_out: the angle of this evaluation is outside the angle window. -/
abbrev OutOfWindow (r : Record) (angle : Option Nat) : Prop := ∃ a, angle = some a ∧ (a < r.amin ∨ r.amax < a)

/-- A_fast: the angle of this evaluation is further than the rate limit from that of the evaluation before. -/
abbrev MovedFast (r : Record) (q : Pole) (angle : Option Nat) : Prop :=
  ∃ a b, angle = some a ∧ q.prevAngle = some b ∧ q.prevUsable = true ∧ (r.rateLimit < a - b ∨ r.rateLimit < b - a)

/-- Down: the angle of this evaluation is at most that of the lowered pole. -/
abbrev IsDown (r : Record) (angle : Option Nat) : Prop := ∃ a, angle = some a ∧ a ≤ r.adown

/-- What a qualifying run asks of each evaluation (R33). -/
abbrev Qualifies (r : Record) (ok : Bool) (q : Pole) (angle : Option Nat) : Prop :=
  (∃ a, angle = some a ∧ r.amin ≤ a ∧ a ≤ r.amax) ∧ ¬q.verdict = .low ∧ ok = true

/-- SUSPECT's first test: H with A_out, or A_fast (R34). -/
abbrev DewiresAtOnce (r : Record) (q : Pole) (angle : Option Nat) : Prop :=
  (q.verdict = .low ∧ OutOfWindow r angle) ∨ MovedFast r q angle

section
variable {r : Record} {q : Pole} {angle : Option Nat}

theorem termsOf_h : (termsOf r q angle).h = true ↔ q.verdict = .low := by
  cases angle <;> simp [termsOf]

theorem termsOf_aOut : (termsOf r q angle).aOut = true ↔ OutOfWindow r angle := by
  cases angle <;> simp [termsOf, OutOfWindow]

theorem termsOf_down : (termsOf r q angle).down = true ↔ IsDown r angle := by
  cases angle <;> simp [termsOf, IsDown]

theorem termsOf_aFast : (termsOf r q angle).aFast = true ↔ MovedFast r q angle := by
  have apart : ∀ a b, r.rateLimit < distance a b ↔ r.rateLimit < a - b ∨ r.rateLimit < b - a := by
    intro a b
    unfold distance
    omega
  cases angle with
  | none => simp [termsOf, MovedFast]
  | some a => cases h : q.prevAngle <;> simp [termsOf, MovedFast, h, apart]

theorem dewiresAtOnce_iff : dewiresAtOnce (termsOf r q angle) = true ↔ DewiresAtOnce r q angle := by
  rw [dewiresAtOnce, Bool.or_eq_true, Bool.and_eq_true, termsOf_h, termsOf_aOut, termsOf_aFast, or_comm]

/-- SUSPECT's second test: H or A_out (R34). -/
theorem suspicious_iff :
    ((termsOf r q angle).h || (termsOf r q angle).aOut) = true ↔ q.verdict = .low ∨ OutOfWindow r angle := by
  rw [Bool.or_eq_true, termsOf_h, termsOf_aOut]

theorem qualifies_iff {ok : Bool} :
    (angle.isSome && !(termsOf r q angle).aOut && !(termsOf r q angle).h && ok) = true ↔ Qualifies r ok q angle := by
  cases angle <;> simp [termsOf, Qualifies, and_assoc]

/-- Without H, A_out and A_fast no test of SUSPECT holds. -/
theorem not_dewiresAtOnce (low : ¬q.verdict = .low) (fast : ¬MovedFast r q angle) : ¬DewiresAtOnce r q angle :=
  fun h => h.elim (fun both => low both.1) fast

end

/-! ### Times that have not come -/

theorem not_reached_of {a b : StationTime} {d : Nat} (h : (a - b).toNat < d) : ¬reached a b d = true :=
  fun ran => absurd (of_decide_eq_true ran) (Nat.not_le.2 h)

theorem not_expired_of {a b : StationTime} {d : Nat} {o : Option StationTime} (e : o = some b) (h : (a - b).toNat < d) :
    ¬expired a o d = true := by
  subst e
  exact not_reached_of h

/-! ### What every transition respects -/

/-- A transition moves nothing of the angle, and takes a pole to DEWIRED by R35's entry alone. -/
def Steps (t : StationTime) (q q' : Pole) : Prop :=
  (q'.anglePresent = q.anglePresent ∧ q'.prevUsable = q.prevUsable ∧ q'.prevAngle = q.prevAngle)
    ∧ (q'.state = .dewired → q.state = .dewired ∨ ∃ x, q' = toDewired t x)

section
variable (t : StationTime) (q : Pole)

theorem steps_refl : Steps t q q := ⟨⟨rfl, rfl, rfl⟩, .inl⟩

theorem steps_toState {st : PoleState} (h : st ≠ .dewired) : Steps t q (toState q st) :=
  ⟨⟨rfl, rfl, rfl⟩, fun on => absurd on h⟩

theorem steps_toDewired : Steps t q (toDewired t q) := ⟨⟨rfl, rfl, rfl⟩, fun _ => .inr ⟨q, rfl⟩⟩

theorem steps_toUnwatched : Steps t q (toUnwatched q) := ⟨⟨rfl, rfl, rfl⟩, nofun⟩

theorem steps_firstState (k : Terms) : Steps t q (firstState k q) := by
  unfold firstState
  dsimp only
  split_ifs <;> exact ⟨⟨rfl, rfl, rfl⟩, nofun⟩

theorem steps_carriedState (k : Terms) : Steps t q (carriedState t k q) := by
  unfold carriedState
  dsimp only
  split_ifs
  · exact ⟨⟨rfl, rfl, rfl⟩, nofun⟩
  · exact ⟨⟨rfl, rfl, rfl⟩, fun _ => .inr ⟨_, rfl⟩⟩

theorem steps_fromRaising (r : Record) (ok has : Bool) (k : Terms) : Steps t q (fromRaising r t ok has k q) := by
  unfold fromRaising
  split_ifs
  · exact steps_toState t q nofun
  · exact steps_toState t q nofun
  · exact ⟨⟨rfl, rfl, rfl⟩, .inl⟩
  · exact ⟨⟨rfl, rfl, rfl⟩, .inl⟩

theorem steps_fromOnWire (k : Terms) : Steps t q (fromOnWire t k q) := by
  unfold fromOnWire
  split_ifs
  · exact steps_toDewired t q
  · exact ⟨⟨rfl, rfl, rfl⟩, nofun⟩
  · exact steps_refl t q

theorem steps_fromSuspect (r : Record) (k : Terms) : Steps t q (fromSuspect r t k q) := by
  unfold fromSuspect
  split_ifs
  · exact steps_toDewired t q
  · exact steps_toState t q nofun
  · exact steps_toDewired t q
  · exact steps_refl t q

theorem steps_fromNone (angle : Option Nat) (k : Terms) :
    Steps t q (if angle.isNone then toUnwatched q else if q.carried then carriedState t k q else firstState k q) := by
  split_ifs
  · exact steps_toUnwatched t q
  · exact steps_carriedState t q k
  · exact steps_firstState t q k

theorem steps_transition (r : Record) (ok : Bool) (angle : Option Nat) (k : Terms) : Steps t q (transition r t ok angle k q) := by
  unfold transition
  split
  · exact steps_toUnwatched t q
  cases q.state <;> dsimp only
  case notEvaluated => exact steps_fromNone t q angle k
  case unwatched => exact steps_fromNone t q angle k
  case stowed => split <;> [exact steps_toState t q nofun; exact steps_refl t q]
  case raising => exact steps_fromRaising t q r ok _ k
  case onWire => exact steps_fromOnWire t q k
  case suspect => exact steps_fromSuspect t q r k
  case dewired => split <;> [exact steps_toState t q nofun; exact steps_refl t q]
  case lowered => exact steps_refl t q

end

/-! ### The transition out of each state (R31 to R35) -/

section
variable {r : Record} {t : StationTime} {ok : Bool} {edges : List AngleEdge} {q : Pole}

/-- The evaluation has an angle, or a baseline that lets it do without one (R32). -/
abbrev Watched (edges : List AngleEdge) (q : Pole) : Prop := ¬(spanAngle q edges = none ∧ q.baseline = 0)

theorem watched_of_some {a : Nat} (h : spanAngle q edges = some a) : Watched edges q := fun fault => by
  rw [h] at fault
  cases fault.1

/-- Taking the span's edges leaves the qualifying run and the suspicion as they stand. -/
theorem spanned_timers :
    (spanned edges q).runStart = q.runStart ∧ (spanned edges q).suspicionStart = q.suspicionStart := by
  unfold spanned keepAngle
  rw [takeEdges_eq]
  split <;> exact ⟨rfl, rfl⟩

theorem stepped_toUnwatched (none : spanAngle q edges = none)
    (why : q.baseline = 0 ∨ q.state = .notEvaluated ∨ q.state = .unwatched) :
    stepped r t ok edges q = toUnwatched (spanned edges q) := by
  obtain ⟨state', -, -, baseline', -⟩ := spanned_keeps edges q
  unfold stepped transition
  rw [none, state', baseline']
  rcases why with zero | state | state
  · simp [zero]
  · simp [state]
  · simp [state]

theorem stepped_first {a : Nat} (state : q.state = .notEvaluated ∨ q.state = .unwatched) (angle : spanAngle q edges = some a) :
    stepped r t ok edges q =
      if q.carried then carriedState t (termsOf r q (some a)) (spanned edges q)
      else firstState (termsOf r q (some a)) (spanned edges q) := by
  obtain ⟨state', -, carried', -⟩ := spanned_keeps edges q
  unfold stepped transition
  rw [angle, state', carried']
  rcases state with state | state <;> rw [state] <;> rfl

/-- A watched pole is past the first test of a transition, which takes it to UNWATCHED from any state. -/
theorem unfaulted (watched : Watched edges q) : ¬((spanAngle q edges).isNone && (spanned edges q).baseline == 0) = true := by
  obtain ⟨-, -, -, baseline', -⟩ := spanned_keeps edges q
  rw [baseline']
  simpa using watched

theorem stepped_stowed (watched : Watched edges q) (state : q.state = .stowed) :
    stepped r t ok edges q =
      if (spanAngle q edges).isSome && !(termsOf r q (spanAngle q edges)).down then toState (spanned edges q) .raising
      else spanned edges q := by
  rw [stepped, transition, if_neg (unfaulted watched), (spanned_keeps edges q).1, state]

theorem stepped_raising (watched : Watched edges q) (state : q.state = .raising) :
    stepped r t ok edges q =
      fromRaising r t ok (spanAngle q edges).isSome (termsOf r q (spanAngle q edges)) (spanned edges q) := by
  rw [stepped, transition, if_neg (unfaulted watched), (spanned_keeps edges q).1, state]

theorem stepped_onWire (watched : Watched edges q) (state : q.state = .onWire) :
    stepped r t ok edges q = fromOnWire t (termsOf r q (spanAngle q edges)) (spanned edges q) := by
  rw [stepped, transition, if_neg (unfaulted watched), (spanned_keeps edges q).1, state]

theorem stepped_suspect (watched : Watched edges q) (state : q.state = .suspect) :
    stepped r t ok edges q = fromSuspect r t (termsOf r q (spanAngle q edges)) (spanned edges q) := by
  rw [stepped, transition, if_neg (unfaulted watched), (spanned_keeps edges q).1, state]

theorem stepped_dewired (watched : Watched edges q) (state : q.state = .dewired) :
    stepped r t ok edges q =
      if (termsOf r q (spanAngle q edges)).down then toState (spanned edges q) .lowered else spanned edges q := by
  rw [stepped, transition, if_neg (unfaulted watched), (spanned_keeps edges q).1, state]

theorem stepped_lowered (watched : Watched edges q) (state : q.state = .lowered) : stepped r t ok edges q = spanned edges q := by
  rw [stepped, transition, if_neg (unfaulted watched), (spanned_keeps edges q).1, state]

/-! ### The pole after its evaluation (R23, R25, R37) -/

/-- After the transition the retrieve output and the timeout are settled, and nothing else. -/
theorem evalPole_settles :
    evalPole r t ok edges q = { stepped r t ok edges q with
      retrieve := (stepped r t ok edges q).state == .dewired || (stepped r t ok edges q).state == .lowered
      timedOut := (stepped r t ok edges q).timedOut || ((stepped r t ok edges q).state == .dewired
        && expired t (stepped r t ok edges q).dewiredAt r.retrieveTimeout) } := by
  rw [evalPole_eq]
  generalize stepped r t ok edges q = x
  unfold settleTimeout settleRetrieve
  split
  · next times =>
    obtain ⟨state, -, ran⟩ := times
    simp_all only [beq_self_eq_true, Bool.true_and, Bool.or_true]
  · next stays =>
    have flag : (x.timedOut || (x.state == .dewired && expired t x.dewiredAt r.retrieveTimeout)) = x.timedOut := by
      cases off : x.timedOut with
      | true => rfl
      | false => simpa [off] using stays
    rw [flag]

@[simp] theorem evalPole_fields :
    (evalPole r t ok edges q).state = (stepped r t ok edges q).state ∧
    (evalPole r t ok edges q).firstMark = (stepped r t ok edges q).firstMark ∧
    (evalPole r t ok edges q).carried = (stepped r t ok edges q).carried ∧
    (evalPole r t ok edges q).runStart = (stepped r t ok edges q).runStart ∧
    (evalPole r t ok edges q).suspicionStart = (stepped r t ok edges q).suspicionStart ∧
    (evalPole r t ok edges q).dewiredAt = (stepped r t ok edges q).dewiredAt := by
  rw [evalPole_settles]
  exact ⟨rfl, rfl, rfl, rfl, rfl, rfl⟩

theorem evalPole_retrieve :
    (evalPole r t ok edges q).retrieve =
      ((evalPole r t ok edges q).state == .dewired || (evalPole r t ok edges q).state == .lowered) := by
  rw [evalPole_settles]

/-- The span's edges are taken, and its capture is used up. -/
theorem evalPole_capture :
    (evalPole r t ok edges q).capture = none ∧ (evalPole r t ok edges q).opened = (takeEdges edges q).opened := by
  obtain ⟨capture, opened, -⟩ :=
    moved_transition r t ok (spanAngle q edges) (termsOf r q (spanAngle q edges)) (spanned edges q)
  obtain ⟨-, -, -, -, -, -, emptied⟩ := spanned_keeps edges q
  rw [evalPole_settles]
  refine ⟨capture.trans emptied, opened.trans ?_⟩
  unfold spanned keepAngle
  split <;> rfl

/-- The angle of this evaluation is kept for the next, or that there was none. -/
theorem evalPole_angle :
    (evalPole r t ok edges q).anglePresent = (spanAngle q edges).isSome
      ∧ (evalPole r t ok edges q).prevUsable = (spanAngle q edges).isSome
      ∧ (evalPole r t ok edges q).prevAngle = (spanAngle q edges).or q.prevAngle := by
  obtain ⟨⟨present, usable, angle⟩, -⟩ :=
    steps_transition t (spanned edges q) r ok (spanAngle q edges) (termsOf r q (spanAngle q edges))
  have kept : (spanned edges q).anglePresent = (spanAngle q edges).isSome
      ∧ (spanned edges q).prevUsable = (spanAngle q edges).isSome
      ∧ (spanned edges q).prevAngle = (spanAngle q edges).or q.prevAngle := by
    unfold spanned keepAngle
    rw [takeEdges_eq]
    cases spanAngle q edges <;> exact ⟨rfl, rfl, rfl⟩
  rw [evalPole_settles]
  exact ⟨present.trans kept.1, usable.trans kept.2.1, angle.trans kept.2.2⟩

/-- A pole that enters DEWIRED has its time, no run and no suspicion, and times out later, if at all (R35). -/
theorem evalPole_entersDewired (off : q.state ≠ .dewired) (on : (evalPole r t ok edges q).state = .dewired) :
    (evalPole r t ok edges q).dewiredAt = some t ∧ (evalPole r t ok edges q).runStart = none
      ∧ (evalPole r t ok edges q).suspicionStart = none
      ∧ (0 < r.retrieveTimeout → (evalPole r t ok edges q).timedOut = false) := by
  rw [evalPole_fields.1] at on
  obtain ⟨x, entry⟩ : ∃ x, stepped r t ok edges q = toDewired t x :=
    ((steps_transition t (spanned edges q) r ok _ _).2 on).resolve_left (by rwa [(spanned_keeps edges q).1])
  rw [evalPole_settles, entry]
  refine ⟨rfl, rfl, rfl, fun long => ?_⟩
  have soon : expired t (some t) r.retrieveTimeout = false := by simpa [expired, reached, since] using Nat.ne_of_gt long
  simp [toDewired, toState, soon]

/-! ### The rows of Table 2-5 -/

/-- The first evaluation and the return from UNWATCHED (R31). -/
theorem evalPole_first {a : Nat} (state : q.state = .notEvaluated ∨ q.state = .unwatched) (angle : spanAngle q edges = some a) :
    (evalPole r t ok edges q).firstMark = false ∧ (evalPole r t ok edges q).carried = false
      ∧ (evalPole r t ok edges q).state =
          (if q.carried then if a ≤ r.adown then .lowered else .dewired
          else if a ≤ r.adown then .stowed
          else if (r.amin ≤ a ∧ a ≤ r.amax) ∧ q.verdict ≠ .low then .onWire else .raising)
      ∧ (evalPole r t ok edges q).retrieve = q.carried := by
  have down : (termsOf r q (some a)).down = decide (a ≤ r.adown) := rfl
  have good : (!(termsOf r q (some a)).aOut && !(termsOf r q (some a)).h) = true ↔
      (r.amin ≤ a ∧ a ≤ r.amax) ∧ q.verdict ≠ .low := by simp [termsOf]
  simp only [evalPole_retrieve, evalPole_fields, stepped_first state angle]
  cases q.carried with
  | true =>
    simp only [if_true, carriedState, down, decide_eq_true_eq]
    split <;> exact ⟨rfl, rfl, rfl, rfl⟩
  | false =>
    simp only [Bool.false_eq_true, if_false, firstState, down, decide_eq_true_eq, good]
    split_ifs <;> exact ⟨rfl, rfl, rfl, rfl⟩

/-- An angle fault with no baseline, or of a pole without a state (R32). -/
theorem evalPole_unwatched (none : spanAngle q edges = none)
    (why : q.baseline = 0 ∨ q.state = .notEvaluated ∨ q.state = .unwatched) :
    let q' := evalPole r t ok edges q
    q'.state = .unwatched ∧ q'.firstMark = false ∧ q'.retrieve = false ∧ q'.runStart = Option.none
      ∧ q'.suspicionStart = Option.none ∧ q'.carried = (q.carried || q.state == .dewired || q.state == .lowered) := by
  obtain ⟨state', -, carried', -⟩ := spanned_keeps edges q
  dsimp only
  rw [evalPole_settles, stepped_toUnwatched none why]
  refine ⟨rfl, rfl, rfl, rfl, rfl, ?_⟩
  rw [← state', ← carried']
  rfl

theorem evalPole_stowed (watched : Watched edges q) (state : q.state = .stowed) :
    let q' := evalPole r t ok edges q
    ((∃ a, spanAngle q edges = some a ∧ r.adown < a) → q'.state = .raising ∧ q'.runStart = none)
      ∧ (spanAngle q edges = none ∨ IsDown r (spanAngle q edges) → q'.state = .stowed) := by
  dsimp only
  simp only [evalPole_fields, stepped_stowed watched state]
  constructor
  · rintro ⟨a, angle, up⟩
    have rises : ((spanAngle q edges).isSome && !(termsOf r q (spanAngle q edges)).down) = true := by
      simpa [angle, termsOf] using up
    rw [if_pos rises]
    exact ⟨rfl, rfl⟩
  · intro low
    have stays : ¬((spanAngle q edges).isSome && !(termsOf r q (spanAngle q edges)).down) = true := by
      rw [Bool.and_eq_true, Bool.not_eq_true', ← Bool.not_eq_true, termsOf_down]
      rintro ⟨some, up⟩
      rcases low with none | down
      · rw [none] at some
        cases some
      · exact up down
    rw [if_neg stays, (spanned_keeps edges q).1, state]

theorem evalPole_raising (watched : Watched edges q) (state : q.state = .raising) :
    let q' := evalPole r t ok edges q
    (IsDown r (spanAngle q edges) → q'.state = .stowed ∧ q'.runStart = none)
      ∧ (¬IsDown r (spanAngle q edges) → ¬Qualifies r ok q (spanAngle q edges) → q'.state = .raising ∧ q'.runStart = none)
      ∧ (¬IsDown r (spanAngle q edges) → Qualifies r ok q (spanAngle q edges) →
          let start := q.runStart.getD t
          (r.rewireConfirm ≤ (t - start).toNat → q'.state = .onWire ∧ q'.runStart = none)
          ∧ ((t - start).toNat < r.rewireConfirm → q'.state = .raising ∧ q'.runStart = some start)) := by
  have run : (spanned edges q).runStart = q.runStart := spanned_timers.1
  have state' : (spanned edges q).state = .raising := (spanned_keeps edges q).1.trans state
  dsimp only
  simp only [evalPole_fields, stepped_raising watched state, fromRaising, qualifies_iff, termsOf_down, run]
  refine ⟨fun down => ?_, fun up breaks => ?_, fun up runs => ⟨fun ran => ?_, fun early => ?_⟩⟩
  · rw [if_pos down]
    exact ⟨rfl, rfl⟩
  · rw [if_neg up, if_neg breaks]
    exact ⟨state', rfl⟩
  · rw [if_neg up, if_pos runs, if_pos (reached_of ran)]
    exact ⟨rfl, rfl⟩
  · rw [if_neg up, if_pos runs, if_neg (not_reached_of early)]
    exact ⟨state', rfl⟩

theorem evalPole_onWire (watched : Watched edges q) (state : q.state = .onWire) :
    let q' := evalPole r t ok edges q
    let out := OutOfWindow r (spanAngle q edges)
    (DewiresAtOnce r q (spanAngle q edges) → q'.state = .dewired)
      ∧ (¬DewiresAtOnce r q (spanAngle q edges) → q.verdict = .low ∨ out → q'.state = .suspect ∧ q'.suspicionStart = some t)
      ∧ (¬q.verdict = .low → ¬out → ¬MovedFast r q (spanAngle q edges) → q'.state = .onWire) := by
  dsimp only
  simp only [evalPole_fields, stepped_onWire watched state, fromOnWire, suspicious_iff]
  refine ⟨fun dewires => ?_, fun not suspicious => ?_, fun high inside slow => ?_⟩
  · rw [if_pos (dewiresAtOnce_iff.2 dewires)]
    rfl
  · rw [if_neg (mt dewiresAtOnce_iff.1 not), if_pos suspicious]
    exact ⟨rfl, rfl⟩
  · rw [if_neg (mt dewiresAtOnce_iff.1 (not_dewiresAtOnce high slow)), if_neg (not_or.2 ⟨high, inside⟩),
      (spanned_keeps edges q).1, state]

theorem evalPole_suspect (watched : Watched edges q) (state : q.state = .suspect) :
    let q' := evalPole r t ok edges q
    let out := OutOfWindow r (spanAngle q edges)
    (DewiresAtOnce r q (spanAngle q edges) → q'.state = .dewired)
      ∧ (¬q.verdict = .low → ¬out → ¬MovedFast r q (spanAngle q edges) → q'.state = .onWire ∧ q'.suspicionStart = none)
      ∧ (¬DewiresAtOnce r q (spanAngle q edges) → q.verdict = .low ∨ out → ∀ t0, q.suspicionStart = some t0 →
          (r.suspicionConfirm ≤ (t - t0).toNat → q'.state = .dewired)
          ∧ ((t - t0).toNat < r.suspicionConfirm → q'.state = .suspect ∧ q'.suspicionStart = some t0)) := by
  have suspicion : (spanned edges q).suspicionStart = q.suspicionStart := spanned_timers.2
  have negated : ∀ k : Terms, (!(k.h || k.aOut)) = true ↔ ¬(k.h || k.aOut) = true := by simp
  dsimp only
  simp only [evalPole_fields, stepped_suspect watched state, fromSuspect, negated, suspicious_iff, suspicion]
  refine ⟨fun dewires => ?_, fun high inside slow => ?_, fun not suspicious t0 start => ⟨fun ran => ?_, fun early => ?_⟩⟩
  · rw [if_pos (dewiresAtOnce_iff.2 dewires)]
    rfl
  · rw [if_neg (mt dewiresAtOnce_iff.1 (not_dewiresAtOnce high slow)), if_pos (not_or.2 ⟨high, inside⟩)]
    exact ⟨rfl, rfl⟩
  · rw [if_neg (mt dewiresAtOnce_iff.1 not), if_neg (not_not.2 suspicious), if_pos (expired_of start ran)]
    rfl
  · rw [if_neg (mt dewiresAtOnce_iff.1 not), if_neg (not_not.2 suspicious), if_neg (not_expired_of start early), suspicion]
    exact ⟨(spanned_keeps edges q).1.trans state, start⟩

/-- A good window at the end of the rewire confirm takes a RAISING pole to ON_WIRE (R33). -/
theorem evalPole_confirmsRewire {t0 : StationTime} {a : Nat} (state : q.state = .raising) (start : q.runStart = some t0)
    (ran : r.rewireConfirm ≤ (t - t0).toNat) (angle : spanAngle q edges = some a) (inside : r.amin ≤ a ∧ a ≤ r.amax)
    (up : r.adown < a) (high : q.verdict ≠ .low) (volts : ok = true) :
    (evalPole r t ok edges q).state = .onWire ∧ (evalPole r t ok edges q).runStart = none := by
  have notDown : ¬IsDown r (spanAngle q edges) := by
    rintro ⟨b, hb, down⟩
    cases angle.symm.trans hb
    exact absurd up (Nat.not_lt.2 down)
  exact ((evalPole_raising (watched_of_some angle) state).2.2 notDown ⟨⟨a, angle, inside⟩, high, volts⟩).1
    (by rwa [start])

/-- A suspicion with one term true that has lasted its confirm takes a SUSPECT pole to DEWIRED (R34). -/
theorem evalPole_confirmsSuspicion {t0 : StationTime} (state : q.state = .suspect) (start : q.suspicionStart = some t0)
    (ran : r.suspicionConfirm ≤ (t - t0).toNat) (watched : Watched edges q)
    (suspicious : (termsOf r q (spanAngle q edges)).h = true ∨ (termsOf r q (spanAngle q edges)).aOut = true)
    (not : dewiresAtOnce (termsOf r q (spanAngle q edges)) = false) : (evalPole r t ok edges q).state = .dewired :=
  ((evalPole_suspect watched state).2.2 (mt dewiresAtOnce_iff.2 (by rw [not]; exact Bool.false_ne_true))
    (suspicious.imp termsOf_h.1 termsOf_aOut.1) t0 start).1 ran

theorem evalPole_inDewired (watched : Watched edges q) (state : q.state = .dewired) :
    let q' := evalPole r t ok edges q
    (IsDown r (spanAngle q edges) → q'.state = .lowered)
      ∧ (¬IsDown r (spanAngle q edges) → q'.state = .dewired ∧ q'.dewiredAt = q.dewiredAt) := by
  obtain ⟨state', -, -, -, -, since', -⟩ := spanned_keeps edges q
  dsimp only
  simp only [evalPole_fields, stepped_dewired watched state, termsOf_down]
  refine ⟨fun down => ?_, fun up => ?_⟩
  · rw [if_pos down]
    rfl
  · rw [if_neg up]
    exact ⟨state'.trans state, since'⟩

theorem evalPole_lowered (watched : Watched edges q) (state : q.state = .lowered) :
    (evalPole r t ok edges q).state = .lowered := by
  rw [evalPole_fields.1, stepped_lowered watched state, (spanned_keeps edges q).1, state]

end

/-! ### What the two poles make of the alarms and of the attention set -/

/-- A pole that enters DEWIRED leaves the DEWIRE record active: it is not ON_WIRE (R40). -/
theorem dewireWith_stays {entered : PoleSet} {w : PoleWatch} (dewired : AllDewired entered w) (some : entered ≠ .none) (n : Byte)
    (before : Option ActiveAlarm) :
    ((dewireWith entered n before).filter fun a =>
      !allOf a.poles (w.p.state == .onWire) (w.n.state == .onWire)).isSome = true := by
  cases before with
  | none => rw [(dewireFollows dewired n none).2.1 rfl some |>.choose_spec]; rfl
  | some a =>
    rw [dewireWith, filter_unless, if_neg]
    · rfl
    · rw [Bool.not_eq_true]
      by_cases same : unionSet a.poles entered = a.poles
      · rw [if_pos (.inr same)]
        exact not_allOf_onWire some dewired (hasP_of_union same) (hasN_of_union same)
      · rw [if_neg (by simp [some, same])]
        exact not_allOf_onWire some dewired (fun _ => rfl) (fun _ => rfl)

/-- An angle fault after an angle raises SENSOR_FAULT (R25). -/
theorem polesStage_sensor {i : WindowInput} {s : State} (id : PoleId)
    (fault : angleFault (poleOf id s.poles) (edgesOf id i) = true) : isPending (polesStage i s).port .sensorFault = true := by
  unfold polesStage
  cases id
  · rw [show angleFault s.poles.p i.angleP = true from fault]
    dsimp only
    split <;> simp
  · rw [show angleFault s.poles.n i.angleN = true from fault]
    simp

/-! ### The window completion -/

/-- What the poles' stage made pending is pending at the end of the evaluation. -/
theorem evaluate_pending_polesStage (i : WindowInput) (loss became : Bool) (prior : View) (s : State) :
    PendingGrows (polesStage i s) (evaluate i loss became prior s) := by
  rw [evaluate_eq]
  have changes : PendingGrows (polesStage i s) (evaluated i s) := .of_port (by simp)
  exact (changes.trans (endAlarmEvent_pending s.alarms.table _)).trans (.of_port (by simp))

section
variable {dt : Nat} {i : WindowInput} {s : State} (due : windowDue (advance dt s) = true) (col : isCol s = true) (id : PoleId)
include due col

/-- The pole of a window, in the time and with the voltage ok that stand at the window's end. -/
theorem completeWindow_evalPole :
    let t := completeWindow i (advance dt s)
    poleOf id t.poles = evalPole (record s) (now t) t.supply.voltageOk (edgesOf id i) (poleOf id s.poles) := by
  intro t
  have time : now t = now (advance dt s) := now_of_clock (completeWindow_keeps _ _).1
  have ok : t.supply.voltageOk = (measure i.edges (advance dt s)).supply.voltageOk := by
    obtain ⟨-, -, -, -, voltageOk, -⟩ := completeWindow_supply i due
    rw [voltageOk, measure_supply]
  rw [time, ok]
  exact completeWindow_pole due col id

/-- A pole that enters DEWIRED leaves a DEWIRE record active (R40). -/
theorem completeWindow_dewire (off : (poleOf id s.poles).state ≠ .dewired)
    (on : (poleOf id (completeWindow i (advance dt s)).poles).state = .dewired) :
    (completeWindow i (advance dt s)).poles.dewire.isSome = true := by
  obtain ⟨m, hm⟩ : ∃ m, m = measure i.edges (advance dt s) := ⟨_, rfl⟩
  obtain ⟨p, n, dewire, -⟩ := completeWindow_evaluated i due (show isCol (advance dt s) = true from col)
  obtain ⟨⟨number, record⟩, -⟩ := evaluated_records i m
  have p' : (completeWindow i (advance dt s)).poles.p = (polesStage i m).poles.p := p.trans (by simp [windowEvaluated, hm])
  have n' : (completeWindow i (advance dt s)).poles.n = (polesStage i m).poles.n := n.trans (by simp [windowEvaluated, hm])
  have kept : m.poles = s.poles := by simp [hm]
  have entered : enteredAt i m ≠ .none := by
    unfold enteredAt enteredSet
    rw [Ne, poleSet_eq_none, kept, ← p', ← n']
    rintro ⟨notP, notN⟩
    cases id
    · simp [show s.poles.p.state ≠ .dewired from off, show (completeWindow i _).poles.p.state = .dewired from on] at notP
    · simp [show s.poles.n.state ≠ .dewired from off, show (completeWindow i _).poles.n.state = .dewired from on] at notN
  rw [dewire, windowEvaluated, ← hm, record]
  exact dewireWith_stays (enteredAt_dewired i m) entered number _

/-- An angle fault after an angle raises SENSOR_FAULT (R25). -/
theorem completeWindow_sensor (fault : angleFault (poleOf id s.poles) (edgesOf id i) = true) :
    isPending (completeWindow i (advance dt s)).port .sensorFault = true := by
  have kept : (measure i.edges (advance dt s)).poles = s.poles := by simp
  rw [completeWindow_col due col]
  exact viewAfterWindow_pending _ _ _ _ (evaluate_pending_polesStage _ _ _ _ _ _ (polesStage_sensor id (by rwa [kept])))

end

/-- A window of at least V_return that makes up the confirm count gives voltage ok (R5). -/
theorem windowRun_confirms {s : State} {v : Nat} (volts : (record s).vReturn ≤ v)
    (run : confirmCount (record s) ≤ s.supply.run + 1) : (windowRun s v == confirmCount (record s)) = true := by
  rw [windowRun, if_pos volts, Nat.min_eq_right run, beq_self_eq_true]

/-- Settles O35: each pole of a window is as its evaluation leaves it, whose rows are those of Table 2-5. -/
theorem poleConfirmations : Obligations.PoleConfirmations := by
  intro dt i id s ⟨reset, live⟩ col due q r angle
  obtain ⟨t, ht⟩ : ∃ t, t = completeWindow i (advance dt s) := ⟨_, rfl⟩
  have row : exec (.windowCompletion dt i) s = .next t := ht ▸ perform_working dt (completeWindow i) reset
  have time : now t = now (advance dt s) := ht ▸ now_of_clock (completeWindow_keeps _ _).1
  have pole : poleOf id t.poles = evalPole r (now t) t.supply.voltageOk (edgesOf id i) q :=
    ht ▸ completeWindow_evalPole due col id
  have dewire : q.state ≠ .dewired → (poleOf id t.poles).state = .dewired → t.poles.dewire.isSome = true :=
    ht ▸ completeWindow_dewire due col id
  have retrieve : (poleOf id t.poles).retrieve =
      ((poleOf id t.poles).state == .dewired || (poleOf id t.poles).state == .lowered) := by rw [pole, evalPole_retrieve]
  have entered : q.state ≠ .dewired → (poleOf id t.poles).state = .dewired →
      (poleOf id t.poles).dewiredAt = some (now t) ∧ (poleOf id t.poles).runStart = none
        ∧ (poleOf id t.poles).suspicionStart = none ∧ (0 < r.retrieveTimeout → (poleOf id t.poles).timedOut = false) := by
    rw [pole]
    exact evalPole_entersDewired
  refine ⟨?_, ?_, ?_, ?_, t, row, ?_⟩
  · intro t0 a state start ran some low high up verdict volts run
    have ok : t.supply.voltageOk = true := by
      obtain ⟨-, -, -, -, voltageOk, -⟩ := completeWindow_supply i due
      rw [ht, voltageOk]
      exact windowRun_confirms volts run
    obtain ⟨state', run'⟩ := evalPole_confirmsRewire state start (time ▸ ran) some ⟨low, high⟩ up verdict ok
    rw [← pole] at state' run'
    have confirms : confirmRewire i id (advance dt s) = t := by
      rw [ht] at state' ⊢
      exact if_pos ⟨state, state'⟩
    exact ⟨t, (perform_working dt (confirmRewire i id) reset).trans (by rw [confirms]), row, state', run',
      by rw [retrieve, state']; rfl⟩
  · rintro t0 state start ran watched k rfl suspicious slow not
    have notAtOnce : dewiresAtOnce (termsOf r q angle) = false := by
      rw [dewiresAtOnce, slow, Bool.false_or, ← Bool.not_eq_true, Bool.and_eq_true]
      exact not
    have state' : (poleOf id t.poles).state = .dewired := by
      rw [pole]
      exact evalPole_confirmsSuspicion state start (time ▸ ran) (fun fault => watched fault.1 fault.2) suspicious notAtOnce
    have off : q.state ≠ .dewired := by rw [state]; exact nofun
    have confirms : confirmSuspicion i id (advance dt s) = t := by
      rw [ht] at state' ⊢
      exact if_pos ⟨state, state', notAtOnce⟩
    exact ⟨t, (perform_working dt (confirmSuspicion i id) reset).trans (by rw [confirms]), row, state',
      (entered off state').1, by rw [retrieve, state']; rfl, dewire off state'⟩
  · intro a state hangle
    obtain ⟨first, carried, state', output⟩ := evalPole_first (t := now t) (ok := t.supply.voltageOk) (r := r) state hangle
    rw [← pole] at first carried state' output
    refine ⟨t, row, first, carried, state', output, fun mark up => ?_⟩
    have off : q.state ≠ .dewired := by rcases state with state | state <;> rw [state] <;> exact nofun
    rw [if_pos mark, if_neg (Nat.not_le.2 up)] at state'
    exact ⟨(entered off state').1, dewire off state'⟩
  · intro none why
    refine ⟨t, row, ?_⟩
    rw [pole]
    exact evalPole_unwatched none why
  · refine ⟨retrieve, ?_⟩
    obtain ⟨capture, opened⟩ :=
      evalPole_capture (r := r) (t := now t) (ok := t.supply.voltageOk) (edges := edgesOf id i) (q := q)
    obtain ⟨present, usable, prev⟩ :=
      evalPole_angle (r := r) (t := now t) (ok := t.supply.voltageOk) (edges := edgesOf id i) (q := q)
    rw [← pole] at capture opened present usable prev
    refine ⟨capture, opened, fun none => ?_, fun a some => ?_, fun off on => ?_, fun watched => ?_⟩
    · have none' : spanAngle q (edgesOf id i) = Option.none := none
      rw [none'] at present usable prev
      refine ⟨present, usable, prev, fun before => ht ▸ completeWindow_sensor due col id ?_⟩
      rw [angleFault, before, none']
      rfl
    · have some' : spanAngle q (edgesOf id i) = Option.some a := some
      rw [some'] at present usable prev
      exact ⟨present, usable, prev⟩
    · obtain ⟨since, run, suspicion, flag⟩ := entered off on
      exact ⟨since, run, suspicion, dewire off on, flag⟩
    · rw [pole]
      exact ⟨evalPole_stowed watched, evalPole_raising watched, evalPole_onWire watched, evalPole_suspect watched,
        evalPole_inDewired watched, evalPole_lowered watched⟩

end Sys2Proof.Machine
end

section
/-!
RELEASE_RETRIEVE (R36, R41, R145): the frame of a request, the release of a pole, and the end of a RETRIEVE_FAIL by it.
-/
namespace Sys2Proof.Machine

/-! ### A request frame (R138 to R140) -/

/-- A request that the port can take in a live run state is what the request makes of the station, and its answer. -/
theorem performRequest_ready {frame : PortFrame} {r : Request} {take : State → Answer} {s : State} (ready : PortReady s)
    (live : isLive s = true) {u : State} {st : Status} {payload : List Byte}
    (h : take (advance frame.dt s) = (u, st, payload)) :
    performRequest frame r (whenRunning take) s = .next (u.withPort (answered r st payload u.port)) := by
  obtain ⟨reset, whole⟩ := ready
  have running : whenRunning take (advance frame.dt s) = (u, st, payload) := (if_pos live).trans h
  have open' : ¬(advance frame.dt s).port.abandoned = true := by simpa using whole
  have taken : takeFrame frame.cut (requestBytes r) 0 (whenRunning take) (advance frame.dt s) =
      u.withPort (answered r st payload u.port) := by
    rw [takeFrame, if_neg open', running]
    rfl
  rw [performRequest, performFrame, if_neg (by simp [reset]), perform_working _ _ reset, taken]

/-! ### The checks (R36, R145) -/

theorem takeRelease_wrongRole {b : Byte} {s : State} (col : isCol s = false) : takeRelease b s = answer .wrongRole [] s := by
  simp [takeRelease, col]

theorem takeRelease_noTarget {b : Byte} {s : State} (col : isCol s = true) (p : b ≠ 1) (n : b ≠ 2) :
    takeRelease b s = answer .noTarget [] s := by
  have none : poleArgument b = none := (if_neg p).trans (if_neg n)
  simp [takeRelease, col, none]

theorem poleArgument_eq {b : Byte} {id : PoleId} (h : (b = 1 ∧ id = .p) ∨ (b = 2 ∧ id = .n)) : poleArgument b = some id := by
  rcases h with ⟨rfl, rfl⟩ | ⟨rfl, rfl⟩ <;> rfl

theorem takeRelease_wrongState {b : Byte} {id : PoleId} {s : State} (col : isCol s = true) (pole : poleArgument b = some id)
    (state : (poleOf id s.poles).state ≠ .lowered) : takeRelease b s = answer .wrongState [] s := by
  simp [takeRelease, col, pole, state]

theorem takeRelease_ok {b : Byte} {id : PoleId} {s : State} (col : isCol s = true) (pole : poleArgument b = some id)
    (state : (poleOf id s.poles).state = .lowered) : takeRelease b s = answer .ok [] (releasePole id s) := by
  simp [takeRelease, col, pole, state]

/-! ### The release of a pole (R36, R41) -/

/-- Pole Watch with this pole released: STOWED, its output deasserted, its run and suspicion discarded. -/
def releasedPoles (id : PoleId) (w : PoleWatch) : PoleWatch :=
  setPole id { toState (poleOf id w) .stowed with retrieve := false } w

theorem releasedPoles_retrieveFail (id : PoleId) (w : PoleWatch) : (releasedPoles id w).retrieveFail = w.retrieveFail := by
  cases id <;> rfl

theorem releasePole_eq (id : PoleId) (s : State) :
    releasePole id s = alarmEvent (retrieveFailReached (id == .p) (id == .n)) (s.withPoles (releasedPoles id s.poles)) := rfl

/-- Without a RETRIEVE_FAIL the pole is released and that is all. -/
theorem releasePole_none {id : PoleId} {s : State} (none : s.poles.retrieveFail = none) :
    releasePole id s = s.withPoles (releasedPoles id s.poles) := by
  have idle := retrieveFailReached_none (dp := id == .p) (dn := id == .n) (s := s.withPoles (releasedPoles id s.poles))
    ((releasedPoles_retrieveFail id s.poles).trans none)
  rw [releasePole_eq, alarmEvent_idle (by rw [idle]), idle]

/-- With a pole of the RETRIEVE_FAIL still to come, its marks are all that the release adds. -/
theorem releasePole_kept {id : PoleId} {a : ActiveAlarm} {s : State} (some : s.poles.retrieveFail = some a)
    (off : allReached (withReached (id == .p) (id == .n) a) = false) :
    releasePole id s = s.withPoles { releasedPoles id s.poles with
      retrieveFail := .some (withReached (id == .p) (id == .n) a) } := by
  have kept := retrieveFailReached_kept (s := s.withPoles (releasedPoles id s.poles))
    ((releasedPoles_retrieveFail id s.poles).trans some) off
  rw [releasePole_eq, alarmEvent_idle (by rw [kept]; rfl), kept]
  rfl

/-- With its last pole reached, the record ends and its alarm is cleared. -/
theorem releasePole_clears {id : PoleId} {a : ActiveAlarm} {s : State} (some : s.poles.retrieveFail = some a)
    (on : allReached (withReached (id == .p) (id == .n) a) = true) :
    releasePole id s = endAlarmEvent s.alarms.table
      (withRetrieveFail none (clearOwn a.number (s.withPoles (releasedPoles id s.poles)))) := by
  have clears := retrieveFailReached_clears (s := s.withPoles (releasedPoles id s.poles))
    ((releasedPoles_retrieveFail id s.poles).trans some) on
  rw [releasePole_eq, alarmEvent, clears]
  rfl

/-! ### A clear of RETRIEVE_FAIL and the supply view (R17, R18, R121) -/

/-- The station once the last pole of the RETRIEVE_FAIL has reached, before the event ends. -/
def failCleared (id : PoleId) (n : Byte) (s : State) : State :=
  withRetrieveFail none (clearOwn n (s.withPoles (releasedPoles id s.poles)))

theorem failCleared_holds {id : PoleId} {n : Byte} {s : State} (h : holdsSupplyAlarm (failCleared id n s).alarms.table = true) :
    holdsSupplyAlarm s.alarms.table = true :=
  clearOwn_holds (s := s.withPoles (releasedPoles id s.poles)) h

/-- Under the law of OFF_LINE no clear takes the view there, so Pole Watch is as the release leaves it. -/
theorem failCleared_poles {id : PoleId} {n : Byte} {s : State} (law : OffLineUnderAlarm s) :
    (endAlarmEvent s.alarms.table (failCleared id n s)).poles = { releasedPoles id s.poles with retrieveFail := none } := by
  have poles : (failCleared id n s).poles = { releasedPoles id s.poles with retrieveFail := none } := by
    simp [failCleared, withRetrieveFail]
  have supply : (failCleared id n s).supply = s.supply := by simp [failCleared]
  rcases endAlarmEvent_cases s.alarms.table (failCleared id n s) with ⟨-, h⟩ | ⟨h, -⟩ | ⟨-, held, view⟩ | ⟨h, -⟩
  · rw [h, poles]
  · simp [h, poles]
  · exact absurd (law (failCleared_holds held)) (by rwa [supply] at view)
  · simp [h, poles]

/-- Of two alarms with one origin and number there is one (R118). -/
theorem eq_of_same_alarm {s : State} (distinct : AlarmsDistinct s) {e x : AlarmEntry} (he : e ∈ s.alarms.table)
    (hx : x ∈ s.alarms.table) (same : isEntry e.origin e.number x = true) : x = e := by
  obtain ⟨origin, number⟩ : x.origin = e.origin ∧ x.number = e.number := by simpa [isEntry] using same
  exact List.inj_on_of_nodup_map distinct hx he (by rw [origin, number])

/-- A clear leaves every other alarm as it is. -/
theorem mem_clearOwn {n : Byte} {e x : AlarmEntry} {s : State} (found : findAlarm s s.loader.station n = some e)
    (mem : x ∈ s.alarms.table) (other : isEntry e.origin e.number x = false) : x ∈ (clearOwn n s).alarms.table := by
  obtain ⟨unack, acked, cleared⟩ := clearOwn_clears n e s found
  have other' : ¬(x.origin = e.origin ∧ x.number = e.number) := by simpa [isEntry] using other
  cases phase : e.phase with
  | activeUnack =>
    rw [(unack phase).1]
    exact List.mem_map.2 ⟨x, mem, if_neg other'⟩
  | activeAcked =>
    rw [(acked phase).1]
    exact List.mem_filter.2 ⟨mem, congrArg (!·) other⟩
  | clearedUnack => rwa [(cleared phase).1]

/-- The clear of a RETRIEVE_FAIL, which is no supply alarm, takes none away and gives none. -/
theorem clearOwn_holds_of_fail {n : Byte} {e : AlarmEntry} {s : State} (found : findAlarm s s.loader.station n = some e)
    (kind : e.kind = .retrieveFail) (distinct : AlarmsDistinct s) :
    holdsSupplyAlarm (clearOwn n s).alarms.table = holdsSupplyAlarm s.alarms.table := by
  rw [Bool.eq_iff_iff]
  refine ⟨clearOwn_holds, fun held => ?_⟩
  obtain ⟨x, mem, supply⟩ := List.any_eq_true.1 held
  have other : isEntry e.origin e.number x = false := by
    rw [← Bool.not_eq_true]
    intro same
    rw [eq_of_same_alarm distinct (List.mem_of_find?_eq_some found) mem same] at supply
    simp [isSupplyAlarm, kind] at supply
  exact List.any_eq_true.2 ⟨x, mem_clearOwn found mem other, supply⟩

/-- What ClearedOwn says carries over to states with the same alarms and notices, at one time. -/
theorem ClearedOwn.of_same {e : AlarmEntry} {s s' t t' : State} (h : ClearedOwn e s t) (loader : s'.loader = s.loader)
    (alarms : s'.alarms = s.alarms) (part : s'.line.alarmPart = s.line.alarmPart) (time : now t' = now t)
    (table' : t'.alarms.table = t.alarms.table) (history' : t'.alarms.history = t.alarms.history)
    (number' : t'.alarms.nextNumber = t.alarms.nextNumber) (part' : t'.line.alarmPart = t.line.alarmPart) :
    ClearedOwn e s' t' := by
  unfold ClearedOwn ChangedOwn ClosedOwn OwnAlarmsStand handedTo at h ⊢
  rw [loader, alarms, part, time, table', history', number', part']
  exact h

/-- The clear of the RETRIEVE_FAIL as its event ends: its alarm is cleared, and the rest of the station stands. -/
theorem failCleared_clears {id : PoleId} {n : Byte} {e : AlarmEntry} {s : State}
    (found : findAlarm s s.loader.station n = some e) (kind : e.kind = .retrieveFail) (distinct : AlarmsDistinct s)
    (law : OffLineUnderAlarm s) :
    let t := endAlarmEvent s.alarms.table (failCleared id n s)
    ClearedOwn e s t ∧ t.supply = s.supply ∧ t.share = s.share ∧ t.peers = s.peers ∧ t.shed = s.shed := by
  have holds : holdsSupplyAlarm (failCleared id n s).alarms.table = holdsSupplyAlarm s.alarms.table :=
    clearOwn_holds_of_fail (s := s.withPoles (releasedPoles id s.poles)) found kind distinct
  have supply : (failCleared id n s).supply = s.supply := by simp [failCleared]
  have stands : (failCleared id n s).share = s.share ∧ (failCleared id n s).peers = s.peers
      ∧ (failCleared id n s).shed = s.shed := by simp [failCleared]
  refine ⟨?_, ?_⟩
  · refine (clearOwn_clears n e (s.withPoles (releasedPoles id s.poles)) found).of_same rfl rfl rfl (now_of_clock ?_) ?_ ?_ ?_ ?_
    all_goals simp [failCleared]
  · rcases endAlarmEvent_cases s.alarms.table (failCleared id n s) with ⟨-, h⟩ | ⟨h, -⟩ | ⟨-, held, view⟩ | ⟨-, none, held, -⟩
    · rw [h]
      exact ⟨supply, stands⟩
    · simpa [h] using ⟨supply, stands⟩
    · exact absurd (law (failCleared_holds held)) (by rwa [supply] at view)
    · rw [holds, held] at none
      cases none

theorem hasP_iff {ps : PoleSet} : hasP ps = true ↔ ps = .p ∨ ps = .both := by simp [hasP]

theorem hasN_iff {ps : PoleSet} : hasN ps = true ↔ ps = .n ∨ ps = .both := by simp [hasN]

/-- Settles O15: the checks answer the refusals, and the release is that of the pole with what it makes of the RETRIEVE_FAIL. -/
theorem releaseRetrieveOutcomes : Obligations.ReleaseRetrieveOutcomes := by
  intro frame b s ⟨_, live⟩ ready
  have request : ∀ {u st}, takeRelease b (advance frame.dt s) = (u, st, []) →
      exec (.releaseRetrieve frame b) s = .next (u.withPort (answered (.releaseRetrieve b) st [] u.port)) :=
    fun h => performRequest_ready ready live h
  refine ⟨fun col => request (takeRelease_wrongRole col), fun col p n => request (takeRelease_noTarget col p n),
    fun id col argument => ?_⟩
  intro released
  have pole := poleArgument_eq argument
  refine ⟨fun state => request (takeRelease_wrongState col pole state), fun state quiet => ?_, fun state a active => ?_⟩
  · rw [request (takeRelease_ok col pole state), releasePole_none (s := advance frame.dt s) quiet]
    rfl
  · intro reachedP reachedN all
    have marked : withReached (id == .p) (id == .n) a = { a with reachedP := reachedP, reachedN := reachedN } := by
      rw [withReached, Bool.and_comm (hasP a.poles), Bool.and_comm (hasN a.poles)]
      rfl
    have all_iff : allReached (withReached (id == .p) (id == .n) a) = true ↔ all := by
      rw [marked, allReached, allOf_eq_true, hasP_iff, hasN_iff]
    refine ⟨_, request (takeRelease_ok col pole state), ?_, fun notAll => ?_, fun isAll law => ?_⟩
    · rcases argument with ⟨rfl, -⟩ | ⟨rfl, -⟩ <;> rfl
    · rw [releasePole_kept (s := advance frame.dt s) active (by rwa [← Bool.not_eq_true, all_iff]), marked]
      rfl
    · have clears : releasePole id (advance frame.dt s) =
          endAlarmEvent s.alarms.table (failCleared id a.number (advance frame.dt s)) :=
        releasePole_clears active (all_iff.2 isAll)
      refine ⟨?_, ?_, fun e found kind distinct => ?_⟩
      · rw [clears]
        exact failCleared_poles (s := advance frame.dt s) law
      · simp
      · rw [clears]
        obtain ⟨cleared, rest⟩ := failCleared_clears (s := advance frame.dt s) (id := id) found kind distinct law
        exact ⟨cleared.of_same rfl rfl rfl rfl rfl rfl rfl rfl, rest⟩

end Sys2Proof.Machine
end

section
/-!
Receive faults (R49, R50): what a frame with a fault, and one that is cut off, leave of the line.
-/
namespace Sys2Proof.Machine

/-- REC by its cases (R50). -/
theorem countFault_recv (l : Line) : (countFault l).recv = if l.recv < 255 then l.recv + 1 else 255 := by
  show min 255 (l.recv + 1) = _
  split <;> omega

/-- The line block once a frame with a fault has been counted: hunting again, after `idle` bit times. -/
def faultedLine (idle : Nat) (l : Line) : Line := { countFault l with rx := .hunting, idle := idle }

theorem faultedLine_eq (idle : Nat) (l : Line) :
    faultedLine idle l = { l with rx := .hunting, idle := idle, recv := if l.recv < 255 then l.recv + 1 else 255 } := by
  rw [← countFault_recv]
  rfl

section
variable {idle : Nat} {bytes : List Byte} {s : State} (live : isLive s = true) (free : s.line.attempt = none)
include live free

/-- The first byte after 12 idle bit times begins a frame, of which the receiver takes these bytes (R49). -/
theorem receive_opens {framing : Bool} (hunting : s.line.rx = .hunting) (long : 12 ≤ s.line.idle + idle) (some : bytes ≠ []) :
    receive idle bytes framing s =
      settleReception bytes (if framing then examineFraming bytes else examine bytes) (s.withLine { s.line with idle := 0 }) := by
  rw [receive, if_pos ⟨live, free⟩]
  simp [some, frameSoFar, hunting, long]

/-- Without bytes the line stands idle and no more. -/
theorem receive_nothing {framing : Bool} : receive idle [] framing s = s.withLine (idledLine (s.line.idle + idle) s.line) := by
  rw [receive, if_pos ⟨live, free⟩, ← idleLine_eq]
  rfl

end

/-- Settles O22: the frame begins at its first byte, and its fault, or the idle time that cuts it off, is counted once. -/
theorem receiveFaultsAreCounted : Obligations.ReceiveFaultsAreCounted := by
  intro dt idle bytes s ⟨⟨reset, live⟩, free, hunting, long⟩ some
  have opens : ∀ framing, receive idle bytes framing (advance dt s) =
      settleReception bytes (if framing then examineFraming bytes else examine bytes)
        ((advance dt s).withLine { s.line with idle := 0 }) :=
    fun framing => receive_opens (s := advance dt s) live free hunting long some
  refine ⟨fun framing k fault => ?_, fun gap cut gap20 => ?_⟩
  · have result : exec (.receiveFault dt idle bytes framing) s = .next ((advance dt s).withLine (faultedLine 0 s.line)) := by
      refine (perform_working dt _ reset).trans ?_
      rw [opens, fault]
      rfl
    rw [result, faultedLine_eq]
    rfl
  · obtain ⟨u, hu⟩ : ∃ u, u = (advance dt s).withLine { s.line with rx := .inFrame bytes, idle := 0 } := ⟨_, rfl⟩
    have frame : receive idle bytes false (advance dt s) = u := by
      rw [opens, if_neg Bool.false_ne_true, cut, hu]
      rfl
    have idles : receive gap [] false u = (advance dt s).withLine (faultedLine gap s.line) := by
      rw [receive_nothing (by rw [hu]; exact live) (by rw [hu]; exact free), idledLine_inFrame (bytes := bytes) (by rw [hu]; rfl), hu]
      simp [gap20, faultedLine, countFault]
    have result : exec (.frameTruncation dt idle bytes gap) s = .next ((advance dt s).withLine (faultedLine gap s.line)) := by
      refine (perform_working dt (fun x => receive gap [] false (receive idle bytes false x)) reset).trans ?_
      rw [frame, idles]
    rw [result, faultedLine_eq]
    rfl

end Sys2Proof.Machine
end

section
/-!
Frames in bytes (R47, R48, R50, R159, Tables 10-1 to 10-4): what a receiver hands on is legal, and it reads back every legal frame.
-/
namespace Sys2Proof.Machine

/-! ### What a receiver hands on (R159) -/

theorem readKind_fits {b : Byte} {k : AlarmKind} {ps : PoleSet} (h : readKind b = some (k, ps)) : polesFit k ps = true := by
  unfold readKind at h
  split at h
  · cases h
  · dsimp only at h
    split at h
    · next fits =>
      cases h
      exact fits
    · cases h

/-- The items read are legal, and there is one for every three bytes. -/
theorem readItems_legal (bytes : List Byte) {items : List SummaryItem} (h : readItems bytes = some items) :
    (∀ i ∈ items, i.legal) ∧ 3 * items.length ≤ bytes.length := by
  fun_induction readItems bytes generalizing items with
  | case1 n k ph rest kind ps phase later laterRead phaseRead kindRead ih =>
    cases h
    obtain ⟨legal, length⟩ := ih laterRead
    refine ⟨List.forall_mem_cons.2 ⟨readKind_fits kindRead, legal⟩, ?_⟩
    simp only [List.length_cons]
    omega
  | case2 => cases h
  | case3 =>
    cases h
    exact ⟨nofun, Nat.zero_le _⟩

theorem optWithin_iff {largest : Nat} {o : Option Nat} : optWithin largest o = true ↔ ∀ n, o = some n → n ≤ largest := by
  cases o <;> simp [optWithin]

theorem readState_legal {src : Station} {payload : List Byte} {f : Frame} (h : readState src payload = .good f) : f.legal := by
  unfold readState at h
  split at h
  · split at h
    · cases h
    · split at h
      · cases h
      · split at h
        · cases h
        · split at h
          · cases h
          · next few =>
            split at h
            · next itemsRead =>
              split at h
              · next checked =>
                cases h
                obtain ⟨items, length⟩ := readItems_legal _ itemsRead
                simp only [Bool.or_eq_true, decide_eq_true_eq, bne_iff_ne, not_or, not_not] at few
                simp only [Bool.and_eq_true, decide_eq_true_eq, optWithin_iff, Bool.not_eq_true', Bool.and_eq_false_iff,
                  beq_eq_false_iff_ne, decide_eq_false_iff_not, not_lt] at checked
                obtain ⟨⟨⟨⟨⟨⟨⟨⟨⟨cls, weight⟩, weight'⟩, demand⟩, floor⟩, ceiling⟩, grant⟩, voltage⟩, discharge⟩, source⟩ := checked
                exact ⟨cls, weight, weight', demand, floor, ceiling, grant, voltage, discharge, by dsimp only; omega, items,
                  fun col => source.resolve_left fun other => other col⟩
              · cases h
            · cases h
  · cases h

theorem readAlarm_legal {src : Station} {payload : List Byte} {f : Frame} (h : readAlarm src payload = .good f) : f.legal := by
  unfold readAlarm at h
  split at h
  · split at h
    · next kindRead _ =>
      cases h
      exact readKind_fits kindRead
    · cases h
  · cases h

theorem readAck_legal {src : Station} {payload : List Byte} {f : Frame} (h : readAck src payload = .good f) : f.legal := by
  unfold readAck at h
  split at h
  · split at h <;> cases h
    trivial
  · cases h

theorem readGap_legal {src : Station} {payload : List Byte} {f : Frame} (h : readGap src payload = .good f) : f.legal := by
  unfold readGap at h
  split at h
  · split at h
    · cases h
      trivial
    · split at h <;> cases h
      trivial
  · cases h

theorem readBody_legal {hdr : Byte} {payload : List Byte} {f : Frame} (h : readBody hdr payload = .good f) : f.legal := by
  unfold readBody at h
  split at h
  · exact readState_legal h
  · exact readAlarm_legal h
  · exact readAck_legal h
  · exact readGap_legal h
  · cases h

/-- A frame that passes the checks is what its header and payload are read as. -/
theorem examine_good {bytes : List Byte} {f : Frame} (h : examine bytes = .good f) :
    ∃ hdr payload, readBody hdr payload = .good f := by
  unfold examine at h
  split at h
  · cases h
  split at h
  · cases h
  split at h
  · split at h
    · cases h
    split at h
    · cases h
    split at h
    · cases h
    exact ⟨_, _, h⟩
  · cases h

/-- Settles O21: the field checks of every kind leave legal values only. -/
theorem receivedFramesAreLegal : Obligations.ReceivedFramesAreLegal := by
  intro bytes f good
  obtain ⟨_, _, read⟩ := examine_good good
  exact readBody_legal read

/-! ### Numbers in bytes -/

theorem byteOf_toNat {n : Nat} (h : n < 256) : (byteOf n).toNat = n := by
  rw [byteOf, BitVec.toNat_ofNat]
  exact Nat.mod_eq_of_lt h

theorem nat16_bytes16 {n : Nat} (h : n < 65536) : nat16 (byteOf (n / 256)) (byteOf n) = n := by
  simp only [nat16, byteOf, BitVec.toNat_ofNat]
  omega

theorem time32_bytes32 (t : StationTime) :
    time32 (t.extractLsb' 24 8) (t.extractLsb' 16 8) (t.extractLsb' 8 8) (t.extractLsb' 0 8) = t := by
  have join : ∀ {start len : Nat}, t.extractLsb' (start + 8) len ++ t.extractLsb' start 8 = t.extractLsb' start (len + 8) :=
    BitVec.extractLsb'_append_extractLsb'_eq_extractLsb' rfl
  rw [time32, join (start := 16), join (start := 8), join (start := 0)]
  exact BitVec.extractLsb'_eq_self

/-! ### Each field read back -/

theorem readKind_kindByte {k : AlarmKind} {ps : PoleSet} (fits : polesFit k ps = true) :
    readKind (kindByte k ps) = some (k, ps) := by
  revert fits
  cases k <;> cases ps <;> decide

theorem phaseOf_phaseCode (p : Phase) : phaseOf (byteOf (phaseCode p)).toNat = some p := by cases p <;> rfl

theorem readNoticePhase_noticePhaseByte (p : NoticePhase) : readNoticePhase (noticePhaseByte p) = some p := by
  cases p with
  | opened p => cases p <;> rfl
  | closed forced => cases forced <;> rfl

theorem roleOf_roleCode (r : Role) : roleOf (byteOf (roleCode r)).toNat = some r := by cases r <;> rfl

theorem viewOf_viewCode (v : View) : viewOf (byteOf (viewCode v)).toNat = some v := by cases v <;> rfl

/-- The four flags of a STATE, at their bits. -/
theorem flagsByte_bits (f : StateFields) :
    (flagsByte f).getLsbD 0 = f.boot ∧ (flagsByte f).getLsbD 1 = f.voltage.isSome
      ∧ (flagsByte f).getLsbD 2 = f.discharge.isSome ∧ (flagsByte f).getLsbD 3 = f.timedOut := by
  unfold flagsByte
  generalize f.voltage.isSome = v, f.discharge.isSome = d
  cases f.boot <;> cases v <;> cases d <;> cases f.timedOut <;> decide

theorem readOpt_optBytes {o : Option Nat} {largest : Nat} (low : ∀ n, o = some n → n ≤ largest) (small : largest < 65536)
    (rest : List Byte) : readOpt o.isSome (optBytes o ++ rest) = some (o, rest) := by
  cases o with
  | none => rfl
  | some n =>
    have := low n rfl
    simp only [readOpt, optBytes, bytes16, Option.isSome_some, if_true, List.cons_append, List.nil_append,
      nat16_bytes16 (n := n) (by omega)]

theorem readItems_itemBytes (items : List SummaryItem) (legal : ∀ i ∈ items, i.legal) :
    readItems (items.flatMap itemBytes) = some items := by
  induction items with
  | nil => rfl
  | cons i rest ih =>
    obtain ⟨first, others⟩ := List.forall_mem_cons.1 legal
    simp only [List.flatMap_cons, itemBytes, List.cons_append, List.nil_append, readItems,
      readKind_kindByte (k := i.kind) (ps := i.poles) first, phaseOf_phaseCode, ih others]

theorem items_length (items : List SummaryItem) : (items.flatMap itemBytes).length = 3 * items.length := by
  induction items with
  | nil => rfl
  | cons i rest ih =>
    simp only [List.flatMap_cons, List.length_append, ih, List.length_cons, itemBytes, List.length_nil]
    omega

/-! ### Each payload read back -/

theorem readState_statePayload {src : Station} {f : StateFields} (legal : f.legal src) :
    readState src (statePayload f) = .good ⟨src, .state f⟩ := by
  obtain ⟨cls, weight, weight', demand, floor, ceiling, grant, voltage, discharge, few, items, col⟩ := legal
  obtain ⟨boot, hasVoltage, hasDischarge, timedOut⟩ := flagsByte_bits f
  have count : (byteOf f.summary.length).toNat = f.summary.length := byteOf_toNat (by omega)
  have collector : (!(f.role == .col && decide (1 < src.val))) = true := by
    cases isCol : f.role == .col with
    | false => rfl
    | true => simpa using col (by simpa using isCol)
  simp only [statePayload, bytes16, List.append_assoc, List.cons_append, List.nil_append, readState, boot, timedOut,
    hasVoltage, hasDischarge, readOpt_optBytes voltage (by decide), readOpt_optBytes discharge (by decide), count,
    items_length, roleOf_roleCode, viewOf_viewCode, readItems_itemBytes _ items, byteOf_toNat (n := f.cls) (by omega),
    byteOf_toNat (n := f.weight) (by omega), nat16_bytes16 (n := f.demand) (by omega), nat16_bytes16 (n := f.floor) (by omega),
    nat16_bytes16 (n := f.ceiling) (by omega), nat16_bytes16 (n := f.grant) (by omega)]
  rw [if_neg (by simpa using few), if_pos]
  simp only [collector, optWithin_iff.2 voltage, optWithin_iff.2 discharge, cls, weight, weight', demand, floor, ceiling, grant,
    decide_true, Bool.and_self]

theorem readAlarm_alarmPayload {src : Station} {a : AlarmContent} (fits : polesFit a.kind a.poles = true) :
    readAlarm src (alarmPayload a) = .good ⟨src, .alarm a⟩ := by
  simp only [alarmPayload, bytes32, List.cons_append, List.nil_append, readAlarm, readKind_kindByte fits,
    readNoticePhase_noticePhaseByte, time32_bytes32]

theorem readAck_payload (src : Station) (a : AckContent) : readAck src [byteOf a.origin.val, a.number] = .good ⟨src, .ack a⟩ := by
  have origin : (byteOf a.origin.val).toNat = a.origin.val := byteOf_toNat (by omega)
  simp only [readAck, origin, a.origin.isLt, dif_pos, Fin.eta]

theorem readGap_payload (src : Station) (g : GapContent) :
    readGap src [if g.start then 1 else 2, g.serial] = .good ⟨src, .gap g⟩ := by
  obtain ⟨start, serial⟩ := g
  cases start <;> rfl

/-! ### The whole frame -/

/-- A payload fits the largest LEN (Table 10-1). -/
theorem payloadOf_length {f : Frame} (legal : f.legal) : (payloadOf f.body).length ≤ 31 := by
  have opt : ∀ o, (optBytes o).length ≤ 2 := fun o => by cases o <;> simp [optBytes, bytes16]
  obtain ⟨src, body⟩ := f
  cases body with
  | state x =>
    obtain ⟨-, -, -, -, -, -, -, -, -, few, -⟩ := legal
    have v := opt x.voltage
    have d := opt x.discharge
    simp only [payloadOf, statePayload, bytes16, List.length_append, List.length_cons, List.length_nil, items_length]
    omega
  | alarm a => simp [payloadOf, alarmPayload, bytes32]
  | ack a => simp [payloadOf]
  | gap g => simp [payloadOf]

/-- A frame whose length and CRC are right is what its header and payload are read as (R47, R48). -/
theorem examine_whole (hdr : Byte) {payload : List Byte} (short : payload.length ≤ 31) :
    examine (0xAA#8 :: ([hdr, byteOf payload.length] ++ payload
      ++ crcBytes ([hdr, byteOf payload.length] ++ payload))) = readBody hdr payload := by
  have length : (byteOf payload.length).toNat = payload.length := byteOf_toNat (by omega)
  have crc : (crcBytes (hdr :: byteOf payload.length :: payload)).length = 2 := rfl
  simp only [List.cons_append, List.nil_append, examine, length, List.length_append, crc, List.drop_left, List.take_left]
  rw [if_neg (by simp), if_neg (by omega), if_neg (by omega), if_neg]
  simp [crcBytes, bytes16]

/-- The header holds the kind and the source (R47). -/
theorem readBody_header {f : Frame} (legal : f.legal) :
    readBody (byteOf (bodyCode f.body * 8 + f.source.val)) (payloadOf f.body) = .good f := by
  obtain ⟨src, body⟩ := f
  have code : 1 ≤ bodyCode body ∧ bodyCode body ≤ 4 := by cases body <;> exact ⟨by simp [bodyCode], by simp [bodyCode]⟩
  have hdr : (byteOf (bodyCode body * 8 + src.val)).toNat = bodyCode body * 8 + src.val := byteOf_toNat (by omega)
  have source : sourceOf (byteOf (bodyCode body * 8 + src.val)) = src := by
    apply Fin.ext
    show (byteOf (bodyCode body * 8 + src.val)).toNat % 8 = src.val
    rw [hdr]
    omega
  have kind : (byteOf (bodyCode body * 8 + src.val)).toNat / 8 = bodyCode body := by
    rw [hdr]
    omega
  rw [readBody, kind, source]
  cases body with
  | state x => exact readState_statePayload legal
  | alarm a => exact readAlarm_alarmPayload legal
  | ack a => exact readAck_payload src a
  | gap g => exact readGap_payload src g

/-- Settles O20: the length, the CRC and the header are right, and the payload of each kind is read back field by field. -/
theorem frameCodingRoundTrip : Obligations.FrameCodingRoundTrip :=
  fun _ legal => (examine_whole _ (payloadOf_length legal)).trans (readBody_header legal)

end Sys2Proof.Machine
end

section
/-!
The ends of an attempt (R55 to R58, R61 to R64, R132): what a success and a collision abort make of the line, and of the frame's
notice.
-/
namespace Sys2Proof.Machine

/-! ### The line at the end of an attempt -/

/-- The line block after a success, before its frame leaves (R56). -/
def sentLine (s : State) : Line :=
  { s.line with attempt := none, sentAt := some (micros s.clock), rx := .hunting, idle := 0, tec := s.line.tec - 1 }

/-- The line block after a collision at bit `bit`, before its frame waits again (R55). -/
def abortedLine (bit : Nat) (a : Attempt) (l : Line) : Line := { receiverAfterAbort bit a l with tec := l.tec + 1 }

theorem abortedLine_eq (bit : Nat) (a : Attempt) (l : Line) :
    abortedLine bit a l =
      if bit = 0 then { l with
        attempt := none, rx := a.rxBefore, idle := a.idleBefore, recv := min l.recv a.recvBefore, tec := l.tec + 1 }
      else { l with attempt := none, rx := .inFrame (a.bytes.take (bit / 10)), tec := l.tec + 1 } := by
  unfold abortedLine receiverAfterAbort
  split <;> rfl

/-- A collision moves no part of the queue. -/
theorem abortedLine_parts (bit : Nat) (a : Attempt) (l : Line) :
    (abortedLine bit a l).gapPart = l.gapPart ∧ (abortedLine bit a l).gapPairing = l.gapPairing ∧
    (abortedLine bit a l).alarmPart = l.alarmPart ∧ (abortedLine bit a l).ackPart = l.ackPart := by
  rw [abortedLine_eq]
  split <;> exact ⟨rfl, rfl, rfl, rfl⟩

/-- An event that leaves the table as it was ends with nothing done. -/
theorem endAlarmEvent_same {before : List AlarmEntry} {s : State} (h : s.alarms.table = before) : endAlarmEvent before s = s :=
  if_pos h

section
variable {bit : Nat} {a : Attempt} {s : State} (sending : s.line.attempt = some a)
include sending

theorem succeedAttempt_eq :
    succeedAttempt s = endAlarmEvent s.alarms.table (releaseFrame a.what (s.withLine (sentLine s))) := by
  rw [succeedAttempt, sending]
  rfl

/-- Below the 32nd error an abort returns the frame to where it waited (R55). -/
theorem abortAttempt_eq (inside : bit + 1 < 10 * a.bytes.length) (few : s.line.tec < 31) :
    abortAttempt bit s = endAlarmEvent s.alarms.table (returnFrame a.what (s.withLine (abortedLine bit a s.line))) := by
  have tec : min 32 (s.line.tec + 1) = s.line.tec + 1 := by omega
  rw [abortAttempt, sending]
  dsimp only
  rw [if_pos inside, alarmEvent, tec, if_neg (by omega)]
  rfl

/-- A success that changes no alarm. -/
theorem succeedAttempt_idle (h : (releaseFrame a.what (s.withLine (sentLine s))).alarms.table = s.alarms.table) :
    succeedAttempt s = releaseFrame a.what (s.withLine (sentLine s)) := by
  rw [succeedAttempt_eq sending, endAlarmEvent_same h]

/-- An abort that changes no alarm. -/
theorem abortAttempt_idle (inside : bit + 1 < 10 * a.bytes.length) (few : s.line.tec < 31)
    (h : (returnFrame a.what (s.withLine (abortedLine bit a s.line))).alarms.table = s.alarms.table) :
    abortAttempt bit s = returnFrame a.what (s.withLine (abortedLine bit a s.line)) := by
  rw [abortAttempt_eq sending inside few, endAlarmEvent_same h]

/-- The 32nd error suspends the station (R66). -/
theorem abortAttempt_suspends (inside : bit + 1 < 10 * a.bytes.length) (last : s.line.tec = 31) :
    abortAttempt bit s =
      endAlarmEvent s.alarms.table (enterSuspended (returnFrame a.what (s.withLine (abortedLine bit a s.line)))) := by
  rw [abortAttempt, sending]
  dsimp only
  rw [if_pos inside, alarmEvent, last, if_pos (by decide), abortedLine, last]
  rfl

end

/-! ### The fate of a notice -/

section
variable {α : Type} {n : Notice α}

/-- A notice that waits is touched by no end of an attempt. -/
theorem restNotice_waits (h : n.onWire = false ∧ n.renewed = false) : restNotice n = n := by
  obtain ⟨content, attempts, onWire, renewed⟩ := n
  obtain ⟨rfl, rfl⟩ := h
  rfl

theorem afterAbort_waits (h : n.onWire = false ∧ n.renewed = false) : afterAbort n = some n := by
  rw [afterAbort, if_neg (by simp [h]), restNotice_waits h]

theorem afterSuccess_waits (h : n.onWire = false ∧ n.renewed = false) : afterSuccess n = some n := by
  rw [afterSuccess, if_neg (by simp [h]), restNotice_waits h]

theorem filterMap_afterAbort {rest : List (Notice α)} (h : ∀ m ∈ rest, m.onWire = false ∧ m.renewed = false) :
    rest.filterMap afterAbort = rest := by
  rw [List.filterMap_congr fun m mem => afterAbort_waits (h m mem), List.filterMap_some]

theorem filterMap_afterSuccess {rest : List (Notice α)} (h : ∀ m ∈ rest, m.onWire = false ∧ m.renewed = false) :
    rest.filterMap afterSuccess = rest := by
  rw [List.filterMap_congr fun m mem => afterSuccess_waits (h m mem), List.filterMap_some]

/-- The notice on the wire leaves at a success unless it was renewed (R56, R61). -/
theorem afterSuccess_onWire (wire : n.onWire = true) :
    afterSuccess n = if n.renewed = true then some (restNotice n) else none := by
  cases renewed : n.renewed <;> simp [afterSuccess, wire, renewed]

/-- The notice on the wire waits again after an abort, but for the 16th without a renewal (R61, R64). -/
theorem afterAbort_onWire (wire : n.onWire = true) :
    afterAbort n = if n.renewed = false ∧ 16 ≤ n.attempts then none else some (restNotice n) := by
  simp [afterAbort, wire]

end

/-! ### TXEN (R46, R56) -/

theorem micros_tickClock (c : Clock) (dt : Nat) : micros (tickClock c dt) = micros c + dt := by
  simp only [micros, tickClock]
  omega

theorem pins_txen (frame : Option Nat) (s : State) : (pins frame s).txen = txenAsserted s := beq_true _

/-- After a success nothing is being sent but the last stop bit. -/
theorem releaseFrame_sent (what : Sending) (s : State) :
    (releaseFrame what s).line.attempt = s.line.attempt ∧ (releaseFrame what s).line.sentAt = s.line.sentAt := by
  cases what <;> simp [releaseFrame, gapAfterSuccess, ackAfterSuccess]

/-- TXEN stands for the time of one bit after a success. -/
theorem txenAsserted_sent {a : Attempt} {s : State} (sending : s.line.attempt = some a) (run : s.loader.run = .running)
    (later : Nat) : txenAsserted (advance later (succeedAttempt s)) = decide (later < 2) := by
  obtain ⟨attempt, sentAt⟩ := releaseFrame_sent a.what (s.withLine (sentLine s))
  have line : (succeedAttempt s).line = (releaseFrame a.what (s.withLine (sentLine s))).line := by
    rw [succeedAttempt_eq sending]
    simp
  have attempt' : (advance later (succeedAttempt s)).line.attempt = none := (congrArg Line.attempt line).trans attempt
  have sentAt' : (advance later (succeedAttempt s)).line.sentAt = some (micros s.clock) :=
    (congrArg Line.sentAt line).trans sentAt
  have clock : micros (advance later (succeedAttempt s)).clock = micros s.clock + later := by
    rw [← (succeedAttempt_keeps s).1]
    exact micros_tickClock _ _
  have run' : (advance later (succeedAttempt s)).loader.run = .running := by simpa using run
  rw [txenAsserted, stopBitOut, attempt', sentAt', run']
  simp [clock, bitTime]

/-- Settles O30: the slot or the ALARM part is left as the frame's fate says, and no alarm changes. -/
theorem attemptEnds : Obligations.AttemptEnds := by
  intro dt a s reset sending sent aborted
  have success : exec (.transmitSuccess dt) s = .next (succeedAttempt (advance dt s)) := perform_working dt _ reset
  have abort : ∀ bit, exec (.collisionAbort dt bit) s = .next (abortAttempt bit (advance dt s)) :=
    fun bit => perform_working dt _ reset
  have sending' : (advance dt s).line.attempt = some a := sending
  have aborted_eq : ∀ bit, aborted bit = abortedLine bit a s.line := fun bit => (abortedLine_eq bit a s.line).symm
  refine ⟨fun boot what => ⟨?_, fun bit inside few => ?_⟩, fun n rest what part wire others => ⟨?_, fun bit inside few => ?_⟩,
    fun frame => ?_, fun run => ⟨_, success, fun later frame => ?_⟩⟩
  · have counted : min 3 (s.line.statesSent + 1) = if s.line.statesSent < 3 then s.line.statesSent + 1 else 3 := by
      split <;> omega
    rw [success, succeedAttempt_idle sending' (by rw [what]; rfl), what, ← counted]
    rfl
  · rw [abort, abortAttempt_idle sending' inside few (by rw [what]; rfl), what, aborted_eq]
    rfl
  · have left : s.line.alarmPart.filterMap afterSuccess = if n.renewed = true then restNotice n :: rest else rest := by
      rw [part, List.filterMap_cons, afterSuccess_onWire wire, filterMap_afterSuccess others]
      cases n.renewed <;> rfl
    rw [success, succeedAttempt_idle sending' (by rw [what]; rfl), what]
    exact congrArg (fun p => Host.Outcome.next { advance dt s with line := { sent with alarmPart := p } }) left
  · have left : (abortedLine bit a s.line).alarmPart.filterMap afterAbort =
        if n.renewed = false ∧ 16 ≤ n.attempts then rest else restNotice n :: rest := by
      obtain ⟨-, -, alarm, -⟩ := abortedLine_parts bit a s.line
      rw [alarm, part, List.filterMap_cons, afterAbort_onWire wire, filterMap_afterAbort others]
      split_ifs <;> rfl
    rw [abort, abortAttempt_idle sending' inside few (by rw [what]; rfl), what, aborted_eq]
    exact congrArg
      (fun p => Host.Outcome.next { advance dt s with line := { abortedLine bit a s.line with alarmPart := p } }) left
  · rw [pins_txen, txenAsserted, sending]
    rfl
  · rw [pins_txen]
    exact txenAsserted_sent sending' run later

end Sys2Proof.Machine
end

section
/-!
The ends of an attempt of an ACK or GAP notice (R55, R56, R62, R63, R64, R132), with what the reports make of an ack pending.
-/
namespace Sys2Proof.Machine

/-! ### The reports (R132) -/

/-- A change of one alarm under its origin and number is found there. -/
theorem findAlarm_mapAlarm (o : Station) (n : Byte) {f : AlarmEntry → AlarmEntry}
    (names : ∀ e, (f e).origin = e.origin ∧ (f e).number = e.number) (s : State) :
    findAlarm (mapAlarm o n f s) o n = (findAlarm s o n).map f := by
  have same : isEntry o n ∘ (fun e => if isEntry o n e then f e else e) = isEntry o n := by
    funext e
    by_cases h : isEntry o n e
    · have : isEntry o n (f e) = isEntry o n e := by simp only [isEntry, names]
      simp [h, this]
    · simp [h]
  unfold findAlarm mapAlarm
  rw [State.withAlarms_alarms, List.find?_map, same]
  refine Option.map_congr fun e found => if_pos ?_
  exact List.find?_some found

theorem findAlarm_of_table {s t : State} (h : t.alarms.table = s.alarms.table) (o : Station) (n : Byte) :
    findAlarm t o n = findAlarm s o n := by rw [findAlarm, findAlarm, h]

section
variable {c : AckContent} {e : AlarmEntry} {s : State} (found : findAlarm s c.origin c.number = some e)
  (queued : e.ack = .queued)
include found queued

theorem reportSent_finds : findAlarm (reportSent c s) c.origin c.number = some { e with ack := .sent 0 } := by
  rw [reportSent, findAlarm_mapAlarm, found]
  · simp [queued]
  · exact fun _ => ⟨rfl, rfl⟩

theorem reportDiscarded_finds : findAlarm (reportDiscarded c s) c.origin c.number = some { e with ack := .absent } := by
  rw [reportDiscarded, findAlarm_mapAlarm, found]
  · simp [queued]
  · exact fun _ => ⟨rfl, rfl⟩

end

theorem endAlarmEvent_line (before : List AlarmEntry) (s : State) : (endAlarmEvent before s).line = s.line := by simp

theorem findAlarm_endAlarmEvent (before : List AlarmEntry) (s : State) (o : Station) (n : Byte) :
    findAlarm (endAlarmEvent before s) o n = findAlarm s o n := findAlarm_of_table (by simp) o n

/-! ### The ACK part with its first notice on the wire (R63, R64) -/

section
variable {n : Notice AckContent} {rest : List (Notice AckContent)} {s : State} (part : s.line.ackPart = n :: rest)
  (wire : n.onWire = true) (old : n.renewed = false) (others : ∀ m ∈ rest, m.onWire = false ∧ m.renewed = false)
include part wire old others

theorem ackAfterSuccess_first :
    ackAfterSuccess s = (reportSent n.content s).withLine { s.line with ackPart := rest } := by
  have sent : afterSuccess n = none := by rw [afterSuccess_onWire wire, old]; rfl
  have waits : rest.filter (fun m => (afterSuccess m).isNone) = [] :=
    List.filter_eq_nil_iff.2 fun m mem => by simp [afterSuccess_waits (others m mem)]
  simp [ackAfterSuccess, part, sent, waits, filterMap_afterSuccess others]

theorem ackAfterAbort_last (last : 16 ≤ n.attempts) :
    ackAfterAbort s = (reportDiscarded n.content s).withLine { s.line with ackPart := rest } := by
  have gone : afterAbort n = none := by rw [afterAbort_onWire wire, if_pos ⟨old, last⟩]
  have waits : rest.filter (fun m => (afterAbort m).isNone) = [] :=
    List.filter_eq_nil_iff.2 fun m mem => by simp [afterAbort_waits (others m mem)]
  simp [ackAfterAbort, part, gone, waits, filterMap_afterAbort others]

theorem ackAfterAbort_again (few : n.attempts < 16) :
    ackAfterAbort s = s.withLine { s.line with ackPart := { n with onWire := false } :: rest } := by
  have stays : afterAbort n = some { n with onWire := false } := by
    rw [afterAbort_onWire wire, if_neg (by omega), restNotice, ← old]
  have waits : rest.filter (fun m => (afterAbort m).isNone) = [] :=
    List.filter_eq_nil_iff.2 fun m mem => by simp [afterAbort_waits (others m mem)]
  simp [ackAfterAbort, part, stays, waits, filterMap_afterAbort others]

end

/-! ### The GAP part with its notice on the wire (R62) -/

section
variable {n : Notice GapContent} {l : Line} (part : l.gapPart = some n) (wire : n.onWire = true)
include part wire

theorem gapAfterSuccess_eq :
    gapAfterSuccess l = { l with
      gapPart := if l.gapPairing = true ∨ n.renewed = true then some (restNotice n) else none, gapPairing := false } := by
  rw [gapAfterSuccess, part, Option.map_some, Option.bind_some, afterSuccess_onWire wire]
  cases l.gapPairing <;> cases n.renewed <;> rfl

theorem gapAfterAbort_eq :
    gapAfterAbort l = { l with
      gapPart := if l.gapPairing = true ∨ (n.renewed = false ∧ 16 ≤ n.attempts) then none else some (restNotice n)
      gapPairing := false } := by
  rw [gapAfterAbort, part, Option.bind_some, afterAbort_onWire wire]
  cases l.gapPairing <;> simp

end

/-! ### The ends of the attempt -/

section
variable {bit : Nat} {a : Attempt} {n : Notice AckContent} {rest : List (Notice AckContent)} {e : AlarmEntry} {s : State}
  (sending : s.line.attempt = some a) (what : a.what = .ack) (part : s.line.ackPart = n :: rest) (wire : n.onWire = true)
  (old : n.renewed = false) (others : ∀ m ∈ rest, m.onWire = false ∧ m.renewed = false)
include sending what part wire old others

theorem succeedAttempt_ack (found : findAlarm s n.content.origin n.content.number = some e) (queued : e.ack = .queued) :
    (succeedAttempt s).line = { sentLine s with ackPart := rest }
      ∧ findAlarm (succeedAttempt s) n.content.origin n.content.number = some { e with ack := .sent 0 } := by
  rw [succeedAttempt_eq sending, what, releaseFrame, ackAfterSuccess_first (s := s.withLine (sentLine s)) part wire old others]
  refine ⟨endAlarmEvent_line _ _, ?_⟩
  rw [findAlarm_endAlarmEvent]
  exact reportSent_finds (s := s.withLine (sentLine s)) found queued

variable (inside : bit + 1 < 10 * a.bytes.length) (few : s.line.tec < 31)
include inside few

theorem abortAttempt_ack (soon : n.attempts < 16) :
    abortAttempt bit s =
      s.withLine { abortedLine bit a s.line with ackPart := { n with onWire := false } :: rest } := by
  obtain ⟨-, -, -, ackPart⟩ := abortedLine_parts bit a s.line
  have again := ackAfterAbort_again (s := s.withLine (abortedLine bit a s.line)) (ackPart.trans part) wire old others soon
  rw [abortAttempt_idle sending inside few (by rw [what, returnFrame, again]; rfl), what, returnFrame, again]
  rfl

theorem abortAttempt_lastAck (last : 16 ≤ n.attempts) (found : findAlarm s n.content.origin n.content.number = some e)
    (queued : e.ack = .queued) :
    (abortAttempt bit s).line = { abortedLine bit a s.line with ackPart := rest }
      ∧ findAlarm (abortAttempt bit s) n.content.origin n.content.number = some { e with ack := .absent } := by
  obtain ⟨-, -, -, ackPart⟩ := abortedLine_parts bit a s.line
  rw [abortAttempt_eq sending inside few, what, returnFrame,
    ackAfterAbort_last (s := s.withLine (abortedLine bit a s.line)) (ackPart.trans part) wire old others last]
  refine ⟨endAlarmEvent_line _ _, ?_⟩
  rw [findAlarm_endAlarmEvent]
  exact reportDiscarded_finds (s := s.withLine (abortedLine bit a s.line)) found queued

end

/-- Settles O31: the report of the ACK on the wire finds its alarm, and a GAP notice changes no alarm. -/
theorem noticeAttemptEnds : Obligations.NoticeAttemptEnds := by
  intro dt bit a s reset sending inside few sent aborted
  have success : exec (.transmitSuccess dt) s = .next (succeedAttempt (advance dt s)) := perform_working dt _ reset
  have abort : exec (.collisionAbort dt bit) s = .next (abortAttempt bit (advance dt s)) := perform_working dt _ reset
  have sending' : (advance dt s).line.attempt = some a := sending
  refine ⟨fun n rest e what part wire old others found queued => ?_, fun n what part wire => ⟨?_, ?_⟩⟩
  · obtain ⟨origin, number⟩ : e.origin = n.content.origin ∧ e.number = n.content.number := by
      simpa [isEntry] using List.find?_some found
    have name : ∀ t, findAlarm t e.origin e.number = findAlarm t n.content.origin n.content.number :=
      fun t => congrArg₂ (findAlarm t) origin number
    refine ⟨⟨_, success, ?_⟩, fun soon => ?_, fun last => ⟨_, abort, ?_⟩⟩
    · rw [name]
      exact succeedAttempt_ack sending' what part wire old others found queued
    · rw [abort, abortAttempt_ack sending' what part wire old others inside few soon]
      rfl
    · rw [name]
      exact abortAttempt_lastAck sending' what part wire old others inside few last found queued
  · rw [success, succeedAttempt_idle sending' (by rw [what]; rfl), what, releaseFrame, State.withLine_line,
      gapAfterSuccess_eq (l := sentLine (advance dt s)) part wire]
    rfl
  · obtain ⟨gapPart, gapPairing, -, -⟩ := abortedLine_parts bit a (advance dt s).line
    rw [abort, abortAttempt_idle sending' inside few (by rw [what]; rfl), what, returnFrame, State.withLine_line,
      gapAfterAbort_eq (l := abortedLine bit a (advance dt s).line) (gapPart.trans part) wire, gapPairing]
    rfl

end Sys2Proof.Machine
end

section
/-!
A station that falls silent: TX_SUSPENDED (R66, R67) and CLASH (R68, R80). The transmitter is emptied, the discarded ACKs are reported,
and the grant is held to the floor (R112).
-/
namespace Sys2Proof.Machine

/-! ### An event that touches ack pendings only -/

/-- Under the law of OFF_LINE the end of an event that leaves the supply alarms as they were moves the alarms' own figures only. -/
theorem endAlarmEvent_stands {before : List AlarmEntry} {s : State}
    (law : holdsSupplyAlarm before = true → s.supply.view = .offLine)
    (held : holdsSupplyAlarm s.alarms.table = holdsSupplyAlarm before) :
    let t := endAlarmEvent before s
    t.supply = s.supply ∧ t.poles = s.poles ∧ t.peers = s.peers ∧ t.share = s.share ∧ t.shed = s.shed := by
  dsimp only
  rcases endAlarmEvent_cases before s with ⟨-, h⟩ | ⟨h, -⟩ | ⟨-, now, view⟩ | ⟨-, none, now, -⟩
  · rw [h]
    exact ⟨rfl, rfl, rfl, rfl, rfl⟩
  · rw [h]
    exact ⟨by simp, by simp, by simp, by simp, by simp⟩
  · exact absurd (law (held ▸ now)) view
  · rw [held, now] at none
    cases none

theorem reportDiscarded_holds (c : AckContent) (s : State) :
    holdsSupplyAlarm (reportDiscarded c s).alarms.table = holdsSupplyAlarm s.alarms.table := by
  unfold holdsSupplyAlarm reportDiscarded mapAlarm
  rw [State.withAlarms_alarms, List.any_map]
  congr 1
  funext e
  by_cases h : isEntry c.origin c.number e <;> simp [h, isSupplyAlarm]

theorem reportsDiscarded_holds (cs : List AckContent) (s : State) :
    holdsSupplyAlarm (cs.foldl (fun s c => reportDiscarded c s) s).alarms.table = holdsSupplyAlarm s.alarms.table :=
  foldl_keeps (fun s c => reportDiscarded c s) (fun s => holdsSupplyAlarm s.alarms.table) (fun s c => reportDiscarded_holds c s) cs s

theorem returnFrame_holds (what : Sending) (s : State) :
    holdsSupplyAlarm (returnFrame what s).alarms.table = holdsSupplyAlarm s.alarms.table := by
  cases what with
  | ack => exact reportsDiscarded_holds _ s
  | gap => rfl
  | alarm => rfl
  | state boot => rfl

/-! ### The emptied transmitter (R66, R68) -/

/-- The line block with nothing to send. -/
def emptiedLine (l : Line) : Line :=
  { l with
    attempt := none, stateWaiting := false, gapPart := none, gapPairing := false, alarmPart := [], ackPart := []
    stateFirst := false }

theorem emptyQueue_line (s : State) : (emptyQueue s).line = emptiedLine s.line := by
  simp [emptyQueue, emptiedLine]

theorem emptyQueue_holds (s : State) : holdsSupplyAlarm (emptyQueue s).alarms.table = holdsSupplyAlarm s.alarms.table :=
  reportsDiscarded_holds _ s

/-- Where a frame waits again is emptied with the rest. -/
theorem emptiedLine_returnFrame (what : Sending) (s : State) : emptiedLine (returnFrame what s).line = emptiedLine s.line := by
  cases what <;> simp [returnFrame, gapAfterAbort, ackAfterAbort, emptiedLine]

/-! ### TX_SUSPENDED (R66, R67) -/

theorem enterSuspended_spec (s : State) :
    (enterSuspended s).loader = { s.loader with run := .txSuspended }
      ∧ (enterSuspended s).line = { emptiedLine s.line with suspendedAt := some (now s) }
      ∧ (enterSuspended s).share.grant = min s.share.grant s.share.floor ∧ (enterSuspended s).share.pendingGrant = none
      ∧ (enterSuspended s).port = raiseIn s.port .txSuspended
      ∧ holdsSupplyAlarm (enterSuspended s).alarms.table = holdsSupplyAlarm s.alarms.table := by
  refine ⟨by simp [enterSuspended], ?_, by simp [enterSuspended], by simp [enterSuspended], by simp [enterSuspended], ?_⟩
  · simp [enterSuspended, emptyQueue_line, now]
  · rw [← emptyQueue_holds s]
    simp [enterSuspended]

theorem receiverAfterAbort_attempt (bit : Nat) (a : Attempt) (l : Line) : (receiverAfterAbort bit a l).attempt = none := by
  unfold receiverAfterAbort
  split <;> rfl

/-- The suspension at the 32nd error as its event ends. -/
theorem abortAttempt_suspended {bit : Nat} {a : Attempt} {s : State} (sending : s.line.attempt = some a)
    (inside : bit + 1 < 10 * a.bytes.length) (last : s.line.tec = 31) (law : OffLineUnderAlarm s) :
    let t := abortAttempt bit s
    t.loader = { s.loader with run := .txSuspended }
      ∧ t.line = { emptiedLine (receiverAfterAbort bit a s.line) with tec := 32, suspendedAt := some (now s) }
      ∧ t.share.grant = min s.share.grant s.share.floor ∧ t.share.pendingGrant = none
      ∧ isPending t.port .txSuspended = true ∧ t.supply = s.supply ∧ t.poles = s.poles ∧ t.shed = s.shed := by
  obtain ⟨x, hx⟩ : ∃ x, x = returnFrame a.what (s.withLine (abortedLine bit a s.line)) := ⟨_, rfl⟩
  have line : emptiedLine x.line = emptiedLine (abortedLine bit a s.line) := by rw [hx, emptiedLine_returnFrame]; rfl
  have kept : x.clock = s.clock ∧ x.loader = s.loader ∧ x.supply = s.supply ∧ x.poles = s.poles ∧ x.share = s.share
      ∧ x.shed = s.shed := by simp [hx]
  obtain ⟨clock, loader, supply, poles, share, shed⟩ := kept
  obtain ⟨loader', line', grant', pending', port', held'⟩ := enterSuspended_spec x
  have held : holdsSupplyAlarm (enterSuspended x).alarms.table = holdsSupplyAlarm s.alarms.table := by
    rw [held', hx, returnFrame_holds]
    rfl
  have stands := endAlarmEvent_stands (before := s.alarms.table) (s := enterSuspended x) (by simpa [supply] using law) held
  obtain ⟨supply'', poles'', -, share'', shed''⟩ := stands
  dsimp only
  rw [abortAttempt_suspends sending inside last, ← hx, supply'', poles'', share'', shed'']
  refine ⟨?_, ?_, by rw [grant', share], pending', ?_, by simpa using supply, by simpa using poles, by simpa using shed⟩
  · simp [loader', loader]
  · rw [endAlarmEvent_line, line', line, now_of_clock clock, abortedLine, last]
    rfl
  · exact endAlarmEvent_pending _ _ _ (by rw [port', isPending_raiseIn]; simp)

/-- Settles O32: the entry at the 32nd error, and the end of the suspension once it has run 1000 ms. -/
theorem suspensionCycle : Obligations.SuspensionCycle := by
  intro dt s reset
  refine ⟨fun a bit sending inside last law => ?_, fun t0 run suspended ran => ?_⟩
  · have abort : exec (.collisionAbort dt bit) s = .next (abortAttempt bit (advance dt s)) := perform_working dt _ reset
    obtain ⟨loader, line, rest⟩ := abortAttempt_suspended (s := advance dt s) sending inside last law
    refine ⟨_, abort, loader, ?_, rest⟩
    rw [now_of_clock (abortAttempt_keeps bit (advance dt s)).1]
    refine line.trans ?_
    simp [emptiedLine, receiverAfterAbort_attempt]
  · have expires : exec (.suspensionExpiry dt) s = .next (endSuspension (advance dt s)) := perform_working dt _ reset
    rw [expires, endSuspension, if_pos ⟨run, expired_of suspended ran⟩]
    rfl

/-! ### CLASH (R68, R80) -/

theorem declareClash_eq {s : State} (run : s.loader.run ≠ .clash) : declareClash s = endAlarmEvent s.alarms.table (clashed s) :=
  if_neg run

theorem clashed_spec (s : State) :
    (clashed s).loader = { s.loader with run := .clash }
      ∧ (clashed s).line = { emptiedLine s.line with suspendedAt := none }
      ∧ (clashed s).share.grant = min s.share.grant s.share.floor ∧ (clashed s).share.pendingGrant = none
      ∧ (clashed s).port = raiseIn s.port .stationClash
      ∧ holdsSupplyAlarm (clashed s).alarms.table = holdsSupplyAlarm s.alarms.table
      ∧ (clashed s).alarms.history = s.alarms.history := by
  refine ⟨by simp [clashed, toClash_loader], ?_, by simp [clashed], by simp [clashed], by simp [clashed], ?_, ?_⟩
  · simp [clashed, emptyQueue_line]
  · have table : (clashed s).alarms = (emptyQueue (toClash s)).alarms := by simp [clashed]
    rw [table, emptyQueue_holds]
    simp
  · simp [clashed, emptyQueue]

/-- A station in its listen phase gets its own entry (R80). -/
theorem clashed_own {s : State} (listens : s.loader.run = .listen) : (ownEntry (clashed s)).isSome = true := by
  obtain ⟨loader, -⟩ := clashed_spec s
  have peers : (clashed s).peers = mapPeer s.loader.station (fun f => { f with grant := min s.share.grant s.share.floor })
      (toClash s).peers := by simp [clashed, toClash_loader]
  have put : (toClash s).peers = (writeOwn (s.withLoader { s.loader with run := .clash })).peers := by
    rw [toClash, if_pos listens]
  rw [ownEntry, peerOf, loader, peers, find_mapPeer, Option.isSome_map, List.find?_isSome, put]
  exact ⟨_, List.mem_append_right _ List.mem_cons_self, beq_self_eq_true _⟩

/-- The declaration of CLASH as its event ends. -/
theorem declareClash_spec {s : State} (run : s.loader.run ≠ .clash) (law : OffLineUnderAlarm s) :
    let t := declareClash s
    t.loader = { s.loader with run := .clash } ∧ t.line = { emptiedLine s.line with suspendedAt := none }
      ∧ t.share.grant = min s.share.grant s.share.floor ∧ t.share.pendingGrant = none
      ∧ isPending t.port .stationClash = true ∧ (s.loader.run = .listen → (ownEntry t).isSome = true)
      ∧ t.supply = s.supply ∧ t.poles = s.poles ∧ t.shed = s.shed ∧ t.alarms.history = s.alarms.history := by
  obtain ⟨loader, line, grant, pending, port, held, history⟩ := clashed_spec s
  have kept : (clashed s).supply = s.supply ∧ (clashed s).poles = s.poles ∧ (clashed s).shed = s.shed := by simp [clashed]
  obtain ⟨supply, poles, shed⟩ := kept
  obtain ⟨supply', poles', peers', share', shed'⟩ := endAlarmEvent_stands (by rwa [supply]) held
  have loader' : (endAlarmEvent s.alarms.table (clashed s)).loader = (clashed s).loader := by simp
  dsimp only
  rw [declareClash_eq run, supply', poles', share', shed', loader', endAlarmEvent_line]
  refine ⟨loader, line, grant, pending, ?_, fun listens => ?_, supply, poles, shed, by simpa using history⟩
  · exact endAlarmEvent_pending _ _ _ (by rw [port, isPending_raiseIn]; simp)
  · rw [ownEntry, peerOf, peers', loader']
    exact clashed_own listens

/-- Settles O28: a good frame that carries the own number declares CLASH, and its event leaves Supply Watch and Pole Watch alone. -/
theorem clashFrameSilences : Obligations.ClashFrameSilences := by
  intro dt idle bytes f s hears good own
  have clash : handOn f (heardFrame dt s) = declareClash (heardFrame dt s) := if_pos own
  have heard : exec (.clashFrame dt idle bytes) s = .next (declareClash (heardFrame dt s)) :=
    (receive_good hears good).trans (congrArg _ clash)
  obtain ⟨-, free, -⟩ := hears
  refine ⟨fun run => ?_, fun run law => ?_⟩
  · have stays : declareClash (heardFrame dt s) = heardFrame dt s := if_pos run
    rw [heard, stays]
    rfl
  · obtain ⟨loader, line, rest⟩ := declareClash_spec (s := heardFrame dt s) run law
    refine ⟨_, heard, loader, line.trans ?_, rest⟩
    simp [emptiedLine, afterFrame, free]

end Sys2Proof.Machine
end

section
/-!
Stages 1 and 2 of a period boundary (R57, R85 to R89, R112 to R115, R158), and what the boundary leaves as it stands.
-/
namespace Sys2Proof.Machine

/-! ### The counts and the latch (R88, R113 to R115) -/

/-- The demand silence count at this boundary (R113). -/
def demandCount (s : State) : Nat := silenceCount s.shed.demandTaken s.shed.demandSilence (record s).demandTimeout

/-- The source silence count at this boundary (R115). -/
def sourceCount (s : State) : Nat := silenceCount s.shed.sourceTaken s.shed.sourceSilence (record s).demandTimeout

theorem countDemand_shed (s : State) :
    (countDemand s).shed = { s.shed with
      demandSilence := demandCount s, demandTimedOut := demandCount s == (record s).demandTimeout, demandTaken := false } := by
  unfold countDemand
  dsimp only
  split <;> rfl

theorem countSource_shed (s : State) :
    (countSource s).shed =
      if isBat s = true then { s.shed with
        sourceSilence := sourceCount s, sourceTimedOut := sourceCount s == (record s).demandTimeout, sourceTaken := false }
      else s.shed := by
  unfold countSource
  dsimp only
  split
  · split <;> rfl
  · rfl

/-- The Shed Sequencer after stage 2. -/
theorem stageTwo_shed (s : State) :
    (stageTwo s).shed =
      let counted : Shed := { s.shed with
        demandSilence := demandCount s, demandTimedOut := demandCount s == (record s).demandTimeout, demandTaken := false }
      if isBat s = true then { counted with
        sourceSilence := sourceCount s, sourceTimedOut := sourceCount s == (record s).demandTimeout, sourceTaken := false }
      else counted := by
  have loader : (countDemand s).loader = s.loader := by simp
  have source : sourceCount (countDemand s) = sourceCount s := by
    rw [sourceCount, sourceCount, record_of_loader loader, countDemand_shed]
  have shed : (stageTwo s).shed = (countSource (countDemand s)).shed := by simp [stageTwo]
  rw [shed, countSource_shed, isBat_of_loader loader, record_of_loader loader, source, countDemand_shed]

/-- The silence counts after stage 2. -/
theorem stageTwo_counts (s : State) :
    let t := stageTwo s
    t.shed.demandSilence = demandCount s ∧ t.shed.demandTimedOut = (demandCount s == (record s).demandTimeout)
      ∧ t.shed.demandTaken = false
      ∧ (isBat s = true → t.shed.sourceSilence = sourceCount s
          ∧ t.shed.sourceTimedOut = (sourceCount s == (record s).demandTimeout) ∧ t.shed.sourceTaken = false)
      ∧ (isBat s = false → t.shed.sourceSilence = s.shed.sourceSilence) := by
  dsimp only
  rw [stageTwo_shed]
  by_cases bat : isBat s = true
  · rw [if_pos bat]
    exact ⟨rfl, rfl, rfl, fun _ => ⟨rfl, rfl, rfl⟩, fun no => absurd bat (by simp [no])⟩
  · rw [if_neg bat]
    exact ⟨rfl, rfl, rfl, fun yes => absurd yes bat, fun _ => rfl⟩

/-- The Share Engine after stage 2: the latched figures, the effective ceiling and floor, and the grant that they lower (R88, R89). -/
theorem stageTwo_share (s : State) :
    let t := stageTwo s
    t.share.boundaryAt = s.share.boundaryAt ∧ t.share.boundaries = s.share.boundaries
      ∧ t.share.demand = (if t.shed.demandTimedOut = true then (record s).cfgFloor else s.port.postedDemand)
      ∧ t.share.discharge = (if isBat s = true ∧ t.shed.sourceTimedOut = false then s.port.postedSource else 0)
      ∧ t.share.cap = s.port.postedCap
      ∧ t.share.ceiling = min (viewCeiling (record s) s.supply.view) s.port.postedCap
      ∧ t.share.floor = min (record s).cfgFloor t.share.ceiling
      ∧ t.share.grant = min s.share.grant (if heldToFloor s = true then t.share.floor else t.share.ceiling) := by
  obtain ⟨v, hv⟩ : ∃ v, v = countSource (countDemand s) := ⟨_, rfl⟩
  have kept : v.loader = s.loader ∧ v.share = s.share ∧ v.supply = s.supply ∧ v.port.postedDemand = s.port.postedDemand
      ∧ v.port.postedSource = s.port.postedSource ∧ v.port.postedCap = s.port.postedCap := by simp [hv]
  obtain ⟨loader, share, supply, demand, source, cap⟩ := kept
  have held : heldToFloor v = heldToFloor s := by
    rw [heldToFloor, heldToFloor, record_of_loader loader, supply, isSilenced_of_loader loader]
  dsimp only
  rw [stageTwo, ← hv, ← record_of_loader loader, ← isBat_of_loader loader, ← demand, ← source, ← cap, ← share, ← supply,
    ← held]
  exact ⟨rfl, rfl, rfl, rfl, rfl, rfl, rfl, rfl⟩

/-! ### The station that the stages find -/

/-- The station once the pending grant is taken into force. -/
def firstStage (s : State) : State := takePending (countBoundary (endListen s))

theorem takePending_grant (s : State) :
    (takePending s).share.grant =
      match s.share.pendingGrant with
      | some p => min p s.share.ceiling
      | none => s.share.grant := by
  unfold takePending
  cases s.share.pendingGrant <;> rfl

theorem firstStage_keeps (s : State) :
    (firstStage s).loader = (endListen s).loader ∧ (firstStage s).supply = s.supply ∧ (firstStage s).port = s.port
      ∧ (firstStage s).shed = s.shed := by
  simp [firstStage]

theorem firstStage_record (s : State) :
    record (firstStage s) = record s ∧ isBat (firstStage s) = isBat s ∧ isSilenced (firstStage s) = isSilenced s := by
  obtain ⟨loader, -⟩ := firstStage_keeps s
  have same : record (firstStage s) = record s := by rw [record, loader, endListen_loader, record]
  refine ⟨same, by rw [isBat, same, isBat], ?_⟩
  rw [isSilenced, isSilenced, loader, endListen_loader]
  by_cases h : listenEnds s = true
  · have listen : s.loader.run = .listen := by
      rw [listenEnds, Bool.and_eq_true, beq_iff_eq] at h
      exact h.1
    simp only [h, if_true, listen]
    rfl
  · simp [h]

/-! ### The boundary -/

/-- What a boundary leaves of its first two stages, and of the rest of the station. -/
theorem takeBoundary_settled {s : State} (due : boundaryDue s = true) (law : OffLineUnderAlarm s) :
    let t := takeBoundary s
    let u := settledStages s
    t.shed.demandSilence = u.shed.demandSilence ∧ t.shed.demandTimedOut = u.shed.demandTimedOut
      ∧ t.shed.demandTaken = u.shed.demandTaken ∧ t.shed.sourceSilence = u.shed.sourceSilence
      ∧ t.shed.sourceTimedOut = u.shed.sourceTimedOut ∧ t.shed.sourceTaken = u.shed.sourceTaken
      ∧ t.share = { u.share with
          budget := t.share.budget, target := t.share.target, pendingGrant := t.share.pendingGrant } := by
  obtain ⟨-, share, -, -⟩ := takeBoundary_forms due law
  obtain ⟨-, supply, alarms⟩ := settledStages_keeps s
  obtain ⟨-, share', -, -⟩ := agePeers_watch (s := settledStages s) (by rw [OffLineUnderAlarm, supply, alarms]; exact law)
  have ripe : (ripened s).share = (settledStages s).share := by simp [ripened, share']
  dsimp only
  refine ⟨?_, ?_, ?_, ?_, ?_, ?_, ?_⟩
  iterate 6 simp [takeBoundary_due due, releaseLeft, alarmEvent, ripened]
  rw [share, formPending_share, ripe]

theorem settledStages_line (s : State) : (settledStages s).line = s.line := by simp [settledStages]

theorem stageFour_line (s : State) :
    (stageFour s).line = { s.line with stateWaiting := s.line.stateWaiting || s.loader.run == .running } := by
  unfold stageFour
  split
  · next run => simp [run]
  · next run =>
    rw [beq_eq_false_iff_ne.mpr run, Bool.or_false]

/-- Under the law of OFF_LINE the ageing leaves the poles as they are. -/
theorem agePeers_poles {s : State} (law : OffLineUnderAlarm s) : (agePeers s).poles = s.poles := by
  obtain ⟨-, supply, -, -, alarms, -⟩ := agedTable_keeps s
  have poles : (agedTable s).poles = s.poles := by
    unfold agedTable
    dsimp only
    split <;> simp
  obtain ⟨-, event, -⟩ := endAlarmEvent_stands (before := (agedTable s).alarms.table)
    (s := orphan (losesCollector s) (agedTable s)) (by simpa [supply, alarms] using law) (orphan_holds _ _)
  rw [agePeers_eq, alarmEvent, event, (orphan_keeps _ _).2.2.2.1, poles]

theorem takeBoundary_poles {s : State} (due : boundaryDue s = true) (law : OffLineUnderAlarm s) :
    (takeBoundary s).poles = s.poles := by
  obtain ⟨-, supply, alarms⟩ := settledStages_keeps s
  have settled : (settledStages s).poles = s.poles := by simp [settledStages]
  have ripe : (ripened s).poles = s.poles := by
    rw [← settled, ← agePeers_poles (s := settledStages s) (by rw [OffLineUnderAlarm, supply, alarms]; exact law)]
    simp [ripened]
  obtain ⟨-, law', -⟩ := ripened_watch law
  obtain ⟨u, hu⟩ : ∃ u, u = stageFour (formPending (ripened s)) := ⟨_, rfl⟩
  have kept : u.supply = (ripened s).supply ∧ u.alarms = (ripened s).alarms ∧ u.poles = (ripened s).poles := by simp [hu]
  obtain ⟨supply', alarms', poles'⟩ := kept
  obtain ⟨-, event, -⟩ := endAlarmEvent_stands (before := u.alarms.table) (s := countAcks u)
    (by simpa [supply', alarms'] using law') (countAcks_holds u)
  rw [takeBoundary_due due, (releaseLeft_keeps _ _).2.2.1, ← hu, alarmEvent, event, (countAcks_keeps u).2.2.2.1, poles', ripe]

theorem takeBoundary_line {s : State} (due : boundaryDue s = true) :
    (takeBoundary s).line = { s.line with stateWaiting := s.line.stateWaiting || (endListen s).loader.run == .running } := by
  have line : (takeBoundary s).line = (stageFour (formPending (ripened s))).line := by
    simp [takeBoundary_due due, alarmEvent]
  have before : (formPending (ripened s)).line = s.line := by simp [ripened, settledStages_line]
  rw [line, stageFour_line, before, (formPending_keeps _).2.1, ripened_loader]

theorem takeBoundary_stands {s : State} (due : boundaryDue s = true) :
    let t := takeBoundary s
    t.loader = (endListen s).loader ∧ t.alarms.history = s.alarms.history ∧ t.clock = s.clock
      ∧ t.supply.volts = s.supply.volts ∧ t.supply.voltageOk = s.supply.voltageOk
      ∧ t.port.postedDemand = s.port.postedDemand ∧ t.port.postedSource = s.port.postedSource
      ∧ t.port.postedCap = s.port.postedCap ∧ t.port.held = s.port.held := by
  obtain ⟨-, -, alarms⟩ := settledStages_keeps s
  refine ⟨?_, ?_, by simp, ?_⟩
  · simp [takeBoundary_due due, alarmEvent, ripened_loader]
  · simp [takeBoundary_due due, alarmEvent, ripened, alarms]
  · simp [takeBoundary_due due, releaseLeft, alarmEvent, ripened, settledStages]

/-- The timer and the grant that stage 2 finds: the next boundary (R85), and the pending grant taken within the old ceiling (R87). -/
theorem firstStage_share (s : State) :
    let u := firstStage s
    u.share.boundaryAt = s.share.boundaryAt.map (later · (record s).period) ∧ u.share.boundaries = s.share.boundaries + 1
      ∧ u.share.grant = match s.share.pendingGrant with
          | some p => min p s.share.ceiling
          | none => s.share.grant := by
  have share : (endListen s).share = s.share := by simp
  have same : record (endListen s) = record s := by rw [record, endListen_loader, record]
  have counts : (countBoundary (endListen s)).share = { s.share with
      boundaryAt := s.share.boundaryAt.map (later · (record s).period), boundaries := s.share.boundaries + 1 } := by
    rw [← share, ← same]
    rfl
  refine ⟨?_, ?_, ?_⟩
  · rw [firstStage, (takePending_fields _).1, counts]
  · rw [firstStage, (takePending_fields _).2.1, counts]
  · rw [firstStage, takePending_grant, counts]

theorem heldToFloor_iff (s : State) :
    heldToFloor s = true ↔ ((record s).cls = 0 ∧ s.supply.view = .gap) ∨ isSilenced s = true := by
  rw [heldToFloor, Bool.or_eq_true, Bool.and_eq_true, beq_iff_eq, beq_iff_eq]

theorem listenEnds_iff (s : State) :
    listenEnds s = true ↔ s.loader.run = .listen ∧ (record s).lostCount ≤ s.share.boundaries + 1 := by
  rw [listenEnds, Bool.and_eq_true, beq_iff_eq, decide_eq_true_eq]

/-- The run state is RUNNING after the end of the listen phase. -/
theorem endListen_running (s : State) :
    ((endListen s).loader.run == .running) =
      decide (s.loader.run = .running ∨ s.loader.run = .listen ∧ (record s).lostCount ≤ s.share.boundaries + 1) := by
  rw [endListen_loader, beq_eq_decide, decide_eq_decide, ← listenEnds_iff]
  by_cases h : listenEnds s = true <;> simp [h]

/-- Settles O42: the first stage takes the pending grant, the second counts, latches and forms the ceiling and the floor, and the later
stages, the ageing and the releases leave of all this what is stated. -/
theorem boundaryLatchesAndLimits : Obligations.BoundaryLatchesAndLimits := by
  intro dt b s ⟨reset, live⟩ law start passed
  obtain ⟨x, hx⟩ : ∃ x, x = advance dt s := ⟨_, rfl⟩
  have lawX : OffLineUnderAlarm x := hx ▸ law
  have startX : x.share.boundaryAt = some b := hx ▸ start
  have due : boundaryDue x = true := by
    rw [boundaryDue, Bool.and_eq_true]
    exact ⟨hx ▸ live, expired_of startX (hx ▸ passed)⟩
  obtain ⟨silence, out, taken, sources, sourceOut, sourceTaken, share⟩ := takeBoundary_settled due lawX
  obtain ⟨loader, history, clock, volts, voltageOk, postedDemand, postedSource, postedCap, held⟩ := takeBoundary_stands due
  have poles := takeBoundary_poles due lawX
  have line := takeBoundary_line due
  obtain ⟨u, hu⟩ : ∃ u, u = firstStage x := ⟨_, rfl⟩
  obtain ⟨-, supplyU, portU, shedU⟩ := firstStage_keeps x
  obtain ⟨recordU, batU, silencedU⟩ := firstStage_record x
  obtain ⟨atU, boundariesU, grantU⟩ := firstStage_share x
  have stages : settledStages x = stageTwo u := hu ▸ rfl
  rw [← hu] at supplyU portU shedU recordU batU silencedU atU boundariesU grantU
  rw [stages] at silence out taken sources sourceOut sourceTaken share
  obtain ⟨at', boundaries, demand, discharge, cap, ceiling, floor, grant⟩ := stageTwo_share u
  obtain ⟨silence', out', taken', sources', noSources⟩ := stageTwo_counts u
  have recordX : record x = record s := hx ▸ rfl
  have batX : isBat x = isBat s := hx ▸ rfl
  have count : demandCount u = if s.shed.demandTaken then 0 else min (s.shed.demandSilence + 1) (record s).demandTimeout := by
    rw [demandCount, recordU, shedU, hx]
    rfl
  have sourcesAre : sourceCount u = if s.shed.sourceTaken then 0 else min (s.shed.sourceSilence + 1) (record s).demandTimeout := by
    rw [sourceCount, recordU, shedU, hx]
    rfl
  have endedRun := endListen_running x
  have ended : listenEnds x = true ↔ s.loader.run = .listen ∧ (record s).lostCount ≤ s.share.boundaries + 1 := by
    rw [listenEnds_iff, hx]
    rfl
  rw [recordU, recordX] at out' demand sources' ceiling floor
  rw [count] at silence' out'
  rw [sourcesAre, batU, batX] at sources'
  rw [batU, batX] at noSources discharge
  rw [supplyU, portU] at ceiling
  rw [ceiling] at floor
  rw [recordX, startX] at atU
  rw [recordX] at endedRun
  subst hx
  refine ⟨takeBoundary (advance dt s), perform_working dt takeBoundary reset, ?_, ?_, silence.trans silence', out.trans out',
    taken.trans taken', ?_, fun bat => ?_, fun no => ?_, ?_, ?_, ?_, ?_, ?_, ?_, poles, history, clock, volts, voltageOk,
    postedDemand, postedSource, postedCap, held⟩
  · rw [share]
    exact at'.trans atU
  · rw [share]
    exact boundaries.trans boundariesU
  · rw [share]
    simpa [out', portU] using demand
  · obtain ⟨source, sourceOut', sourceTaken'⟩ := sources' bat
    refine ⟨sources.trans source, sourceOut.trans sourceOut', sourceTaken.trans sourceTaken', ?_⟩
    rw [share]
    simpa [bat, sourceOut', portU] using discharge
  · rw [share]
    exact ⟨by simpa [no] using discharge, by rw [sources, noSources no, shedU]; rfl⟩
  · rw [share]
    exact cap.trans (by rw [portU]; rfl)
  · rw [share]
    exact ceiling
  · rw [share]
    exact floor
  · rw [share]
    have limit : heldToFloor u = true ↔ ((record s).cls = 0 ∧ s.supply.view = .gap) ∨ isSilenced s = true := by
      rw [heldToFloor_iff, recordU, silencedU, supplyU]
      rfl
    refine grant.trans ?_
    rw [grantU, floor, ceiling]
    simp only [limit]
    rfl
  · rw [loader, endListen_loader]
    simp only [ended]
    rfl
  · rw [line, endedRun]
    rfl

end Sys2Proof.Machine
end

section
/-!
What most operations leave to the station line: the run state, TEC, an attempt and the two timers of the transmitter stand, and notices
join the queue within its bounds (R50, R60 to R63, R135).
-/
namespace Sys2Proof.Machine

/-- The station line goes on as it was: the run state, TEC, the attempt, the STATE slot and the suspension timer stand, the posted cap
does not rise, REC rises where `R` says so only and not past 255, the queue and the history list stay in their bounds, and a silenced
station's queue stands (R50, R60 to R63, R66, R68, R135, R144). -/
structure Quiet (R : Prop) (s t : State) : Prop where
  station : t.loader.station = s.loader.station ∧ t.loader.run = s.loader.run ∧ t.loader.cause = s.loader.cause
  cap : t.port.postedCap ≤ s.port.postedCap
  sending : t.line.attempt = s.line.attempt ∧ t.line.stateWaiting = s.line.stateWaiting ∧ t.line.suspendedAt = s.line.suspendedAt
  counts : t.line.tec = s.line.tec ∧ t.line.statesSent = s.line.statesSent
  rises : s.line.recv < t.line.recv → R
  stops : s.line.recv ≤ 255 → t.line.recv ≤ 255
  queue : QueueBounded s → QueueBounded t
  history : HistoryBounded s → HistoryBounded t
  silenced : isSilenced s = true →
    t.line.gapPart = s.line.gapPart ∧ t.line.alarmPart = s.line.alarmPart ∧ t.line.ackPart = s.line.ackPart

/-- A count that has risen over two steps rose in one of them. -/
theorem rises_trans {R : Prop} {a b c : Nat} (h : a < b → R) (k : b < c → R) (more : a < c) : R := by
  rcases lt_or_ge a b with early | late
  · exact h early
  · exact k (lt_of_le_of_lt late more)

section
variable {R : Prop} {s t u : State}

namespace Quiet

theorem refl : Quiet R s s :=
  ⟨⟨rfl, rfl, rfl⟩, le_rfl, ⟨rfl, rfl, rfl⟩, ⟨rfl, rfl⟩, fun h => absurd h (lt_irrefl _), id, id, id,
    fun _ => ⟨rfl, rfl, rfl⟩⟩

theorem trans (h : Quiet R s t) (k : Quiet R t u) : Quiet R s u := by
  obtain ⟨⟨station, run, cause⟩, cap, ⟨attempt, waiting, suspended⟩, ⟨tec, sent⟩, rises, stops, queue, history,
    silenced⟩ := h
  obtain ⟨⟨station', run', cause'⟩, cap', ⟨attempt', waiting', suspended'⟩, ⟨tec', sent'⟩, rises', stops', queue', history',
    silenced'⟩ := k
  refine ⟨⟨station'.trans station, run'.trans run, cause'.trans cause⟩, cap'.trans cap,
    ⟨attempt'.trans attempt, waiting'.trans waiting, suspended'.trans suspended⟩, ⟨tec'.trans tec, sent'.trans sent⟩,
    rises_trans rises rises', stops' ∘ stops, queue' ∘ queue, history' ∘ history, fun silent => ?_⟩
  obtain ⟨gap, alarm, ack⟩ := silenced silent
  obtain ⟨gap', alarm', ack'⟩ := silenced' (by rw [isSilenced, run, ← isSilenced, silent])
  exact ⟨gap'.trans gap, alarm'.trans alarm, ack'.trans ack⟩

/-- The receiver, the idle time and REC may move. -/
theorem receiver {rx : Receiver} {idle rec : Nat} (rises : s.line.recv < rec → R) (stops : s.line.recv ≤ 255 → rec ≤ 255) :
    Quiet R s (s.withLine { s.line with rx := rx, idle := idle, recv := rec }) :=
  { refl (R := R) (s := s) with rises := rises, stops := stops }

/-- What leaves the Loader and the line alone. -/
theorem of_same (loader : t.loader = s.loader) (line : t.line = s.line) (history : t.alarms.history = s.alarms.history)
    (cap : t.port.postedCap = s.port.postedCap) : Quiet R s t where
  station := by rw [loader]; exact ⟨rfl, rfl, rfl⟩
  cap := cap.le
  sending := by rw [line]; exact ⟨rfl, rfl, rfl⟩
  counts := by rw [line]; exact ⟨rfl, rfl⟩
  rises := by rw [line]; exact fun h => absurd h (lt_irrefl _)
  stops := by rw [line]; exact id
  queue := by unfold QueueBounded; rw [line]; exact id
  history := by unfold HistoryBounded; rw [history]; exact id
  silenced _ := by rw [line]; exact ⟨rfl, rfl, rfl⟩

/-- The Loader's read attempt moves. -/
theorem of_loader {l : Loader} (same : l.station = s.loader.station ∧ l.run = s.loader.run ∧ l.cause = s.loader.cause) :
    Quiet R s (s.withLoader l) :=
  ⟨same, le_rfl, ⟨rfl, rfl, rfl⟩, ⟨rfl, rfl⟩, fun h => absurd h (lt_irrefl _), id, id, id, fun _ => ⟨rfl, rfl, rfl⟩⟩

theorem withPort {p : Port} (cap : p.postedCap ≤ s.port.postedCap) : Quiet R s (s.withPort p) :=
  { refl with cap := cap }

theorem withAlarms {a : Alarms} (history : HistoryBounded s → a.history.length ≤ 16) : Quiet R s (s.withAlarms a) :=
  { refl with history := history }

end Quiet

/-! ### Notices that join the queue (R60 to R63) -/

/-- A silenced station takes no notice (R60). -/
theorem isSilenced_of_accepts (accepts : acceptsNotices s = true) : isSilenced s = false := by
  rw [acceptsNotices, Bool.or_eq_true, beq_iff_eq, beq_iff_eq] at accepts
  rcases accepts with run | run <;> rw [isSilenced, run] <;> rfl

theorem quiet_handAlarm (c : AlarmContent) (s : State) : Quiet R s (handAlarm c s) := by
  unfold handAlarm
  split
  · next accepts =>
    refine { Quiet.refl with queue := fun ⟨alarms, acks⟩ => ⟨joinAlarm_length c _ alarms, acks⟩, silenced := fun silent => ?_ }
    rw [isSilenced_of_accepts accepts] at silent
    cases silent
  · exact .refl

theorem joinGap_keeps (c : GapContent) (l : Line) :
    joinGap c l = { l with gapPart := (joinGap c l).gapPart, gapPairing := (joinGap c l).gapPairing } := by
  unfold joinGap
  split
  · rfl
  · split
    · split <;> rfl
    · rfl

theorem quiet_handGap (c : GapContent) (s : State) : Quiet R s (handGap c s) := by
  unfold handGap
  split
  · next accepts =>
    rw [joinGap_keeps]
    refine { Quiet.refl with silenced := fun silent => ?_ }
    rw [isSilenced_of_accepts accepts] at silent
    cases silent
  · exact .refl

theorem quiet_joinAck (c : AckContent) (room : ackAccepted s = true) : Quiet R s (joinAck c s) := by
  rw [ackAccepted, Bool.and_eq_true, decide_eq_true_eq] at room
  obtain ⟨accepts, few⟩ := room
  refine { Quiet.refl with queue := fun ⟨alarms, _⟩ => ⟨alarms, ?_⟩, silenced := fun silent => ?_ }
  · change (s.line.ackPart ++ [_]).length ≤ 3
    rw [List.length_append, List.length_singleton]
    omega
  · rw [isSilenced_of_accepts accepts] at silent
    cases silent

/-! ### The Alarm Table -/

theorem quiet_closeEntry (e : AlarmEntry) (r : CloseReason) (s : State) : Quiet R s (closeEntry e r s) :=
  .withAlarms fun _ => by rw [List.length_take]; exact min_le_left _ _

theorem quiet_mapAlarm (o : Station) (n : Byte) (f : AlarmEntry → AlarmEntry) (s : State) : Quiet R s (mapAlarm o n f s) :=
  .withAlarms id

theorem quiet_addEntry (e : AlarmEntry) (s : State) : Quiet R s (addEntry e s) :=
  .of_same (by simp) (by simp) (by simp) (by simp)

theorem quiet_endAlarmEvent (before : List AlarmEntry) (s : State) : Quiet R s (endAlarmEvent before s) :=
  .of_same (by simp) (by simp) (by simp) (by simp)

theorem Quiet.alarmEvent {f : State → State} (h : Quiet R s (f s)) : Quiet R s (alarmEvent f s) :=
  h.trans (quiet_endAlarmEvent _ _)

theorem Quiet.noticeFor {e : AlarmEntry} {p : NoticePhase} (h : Quiet R s t) : Quiet R s (noticeFor e p t) :=
  h.trans (quiet_handAlarm _ t)

theorem quiet_closeOwn (e : AlarmEntry) (r : CloseReason) (s : State) : Quiet R s (closeOwn e r s) :=
  (quiet_closeEntry e r s).noticeFor

theorem quiet_changeOwn (e : AlarmEntry) (p : Phase) (ps : PoleSet) (s : State) : Quiet R s (changeOwn e p ps s) :=
  (quiet_mapAlarm _ _ _ s).noticeFor

theorem quiet_makeOwnRoom (s : State) : Quiet R s (makeOwnRoom s) := by
  unfold makeOwnRoom
  split
  · exact .refl
  · split
    · exact quiet_closeOwn _ _ s
    · exact .refl

theorem quiet_raiseOwn (k : AlarmKind) (ps : PoleSet) (s : State) : Quiet R s (raiseOwn k ps s) := by
  obtain ⟨x, hx⟩ : ∃ x, x = makeOwnRoom s := ⟨_, rfl⟩
  have room : Quiet R s x := hx ▸ quiet_makeOwnRoom s
  have numbered : Quiet R x (x.withAlarms { x.alarms with nextNumber := raiseNumber x + 1 }) := .withAlarms id
  rw [raiseOwn, ← hx]
  exact ((room.trans numbered).trans (quiet_addEntry _ _)).noticeFor

theorem quiet_widenOwn (n : Byte) (s : State) : Quiet R s (widenOwn n s) := by
  unfold widenOwn
  split
  · exact quiet_changeOwn _ _ _ s
  · exact .refl

theorem quiet_clearOwn (n : Byte) (s : State) : Quiet R s (clearOwn n s) := by
  unfold clearOwn
  split
  · exact .refl
  · split
    · exact quiet_changeOwn _ _ _ s
    · exact quiet_closeOwn _ _ s
    · exact .refl

theorem quiet_ackOwn (n : Byte) (s : State) : Quiet R s (ackOwn n s) := by
  unfold ackOwn
  split
  · exact .refl
  · split
    · exact quiet_changeOwn _ _ _ s
    · exact .refl
    · exact quiet_closeOwn _ _ s

theorem quiet_addHeard (e : AlarmEntry) (s : State) : Quiet R s (addHeard e s) := by
  unfold addHeard
  split
  · exact quiet_addEntry e s
  · split
    · exact (quiet_closeEntry _ _ s).trans (quiet_addEntry e _)
    · exact quiet_addEntry e s

theorem quiet_newNotice (src : Station) (c : AlarmContent) (s : State) : Quiet R s (newNotice src c s) := by
  unfold newNotice
  split
  · exact .refl
  · exact quiet_addHeard _ s

theorem quiet_takeNotice (src : Station) (c : AlarmContent) (s : State) : Quiet R s (takeNotice src c s) := by
  unfold takeNotice
  split
  · exact quiet_newNotice src c s
  · split
    · split
      · exact quiet_mapAlarm _ _ _ s
      · exact quiet_closeEntry _ _ s
    · exact (quiet_closeEntry _ _ s).trans (quiet_newNotice src c _)

theorem quiet_alarmHeard (src : Station) (c : AlarmContent) (s : State) : Quiet R s (alarmHeard src c s) := by
  unfold alarmHeard
  split
  · exact (quiet_takeNotice src c s).alarmEvent
  · exact .refl

/-- What each step of a fold leaves alone the fold does. -/
theorem Quiet.foldl {α : Type} {f : State → α → State} (h : ∀ s a, Quiet R s (f s a)) (as : List α) (s : State) :
    Quiet R s (as.foldl f s) := by
  induction as generalizing s with
  | nil => exact .refl
  | cons a as ih => exact (h s a).trans (ih _)

theorem quiet_addItem (o : Station) (s : State) (i : SummaryItem) : Quiet R s (addItem o s i) := by
  unfold addItem
  split
  · exact .refl
  · exact quiet_addHeard _ s

theorem quiet_reconcile (o : Station) (summary : List SummaryItem) (rejoin : Bool) (s : State) :
    Quiet R s (reconcile o summary rejoin s) := by
  have closed : Quiet R s (closeMissing o (firstItems [] summary) (if rejoin then .originRestarted else .normal) s) :=
    .foldl (fun s e => quiet_closeEntry e _ s) _ s
  have retold : ∀ (f : AlarmEntry → AlarmEntry) (u : State),
      Quiet R u (u.withAlarms { u.alarms with table := u.alarms.table.map f }) := fun _ _ => .withAlarms id
  exact ((closed.trans (retold _ _)).trans (.foldl (quiet_addItem o) _ _)).trans (retold _ _)

theorem quiet_summaryHeard (o : Station) (summary : List SummaryItem) (rejoin : Bool) (s : State) :
    Quiet R s (summaryHeard o summary rejoin s) :=
  (quiet_reconcile o summary rejoin s).alarmEvent

theorem quiet_ackHeard (c : AckContent) (s : State) : Quiet R s (ackHeard c s) := by
  unfold ackHeard
  split
  · exact (quiet_ackOwn _ s).alarmEvent
  · exact .refl

theorem quiet_acknowledge (s : State) : Quiet R s (acknowledge s).1 := by
  unfold acknowledge
  split
  · exact .refl
  · split
    · exact (quiet_ackOwn _ s).alarmEvent
    · split
      · next room => exact (quiet_joinAck _ room).trans (quiet_mapAlarm _ _ _ _).alarmEvent
      · exact .refl

theorem quiet_pressButton (stood : Nat) (s : State) : Quiet R s (pressButton stood s) := by
  unfold pressButton
  split
  · exact Quiet.trans (t := s.withAlarms { s.alarms with buttonArmed := false, debounceStart := s.clock.up }) (.withAlarms id)
      (quiet_acknowledge _)
  · exact .refl

theorem quiet_releaseButton (stood : Nat) (s : State) : Quiet R s (releaseButton stood s) := by
  unfold releaseButton
  split
  · exact .withAlarms id
  · exact .refl

theorem quiet_toggleLamp (s : State) : Quiet R s (toggleLamp s) := by
  unfold toggleLamp
  split
  · exact .withAlarms id
  · exact .refl

theorem quiet_endSounding (s : State) : Quiet R s (endSounding s) := by
  unfold endSounding
  split
  · exact .withAlarms id
  · exact .refl

theorem quiet_remind (s : State) : Quiet R s (remind s) := by
  unfold remind
  split
  · dsimp only
    split
    · exact Quiet.trans (t := s.withAlarms { s.alarms with reminderStart := none }) (.withAlarms id)
        (.of_same (by simp) (by simp) (by simp) (by simp))
    · exact .withAlarms id
  · exact .refl

/-! ### Pole Watch and Supply Watch -/

theorem quiet_withPoles (w : PoleWatch) (s : State) : Quiet R s (s.withPoles w) := .of_same rfl rfl rfl rfl

theorem quiet_dewireEntry (entered : PoleSet) (s : State) : Quiet R s (dewireEntry entered s) := by
  unfold dewireEntry
  split
  · exact .refl
  · split
    · exact (quiet_raiseOwn _ _ s).trans (quiet_withPoles _ _)
    · split
      · exact .refl
      · exact (quiet_widenOwn _ s).trans (quiet_withPoles _ _)

theorem quiet_dewireClear (s : State) : Quiet R s (dewireClear s) := by
  unfold dewireClear
  split
  · exact .refl
  · split
    · exact (quiet_clearOwn _ s).trans (quiet_withPoles _ _)
    · exact .refl

theorem quiet_retrieveFailEntry (timed : PoleSet) (s : State) : Quiet R s (retrieveFailEntry timed s) := by
  unfold retrieveFailEntry
  split
  · exact .refl
  · split
    · exact (quiet_raiseOwn _ _ s).trans (quiet_withPoles _ _)
    · dsimp only
      split
      · exact quiet_withPoles _ _
      · exact (quiet_widenOwn _ s).trans (quiet_withPoles _ _)

theorem quiet_retrieveFailReached (downP downN : Bool) (s : State) : Quiet R s (retrieveFailReached downP downN s) := by
  unfold retrieveFailReached
  split
  · exact .refl
  · dsimp only
    split
    · exact (quiet_clearOwn _ s).trans (quiet_withPoles _ _)
    · exact quiet_withPoles _ _

theorem quiet_lineDeadClear (s : State) : Quiet R s (lineDeadClear s) := by
  unfold lineDeadClear
  split
  · exact .refl
  · split
    · exact (quiet_clearOwn _ s).trans (quiet_withPoles _ _)
    · exact .refl

theorem quiet_lineDeadRaise (s : State) : Quiet R s (lineDeadRaise s) := by
  unfold lineDeadRaise
  split
  · exact (quiet_raiseOwn _ _ s).trans (quiet_withPoles _ _)
  · exact .refl

theorem quiet_handOffs (entered timed : PoleSet) (s : State) : Quiet R s (handOffs entered timed s) :=
  ((((quiet_dewireEntry entered s).trans (quiet_dewireClear _)).trans (quiet_retrieveFailEntry timed _)).trans
    (quiet_retrieveFailReached _ _ _)).trans (quiet_lineDeadClear _)

/-- Records that enter the history list in table order are cut to 16 with the rest (R135). -/
theorem quiet_closingInOrder {f : State → State} (h : ∀ s, Quiet R s (f s)) (s : State) : Quiet R s (closingInOrder f s) := by
  have emptied : Quiet R s (s.withAlarms { s.alarms with history := [] }) := .withAlarms fun _ => Nat.zero_le 16
  exact (emptied.trans (h _)).trans (.withAlarms fun _ => by rw [List.length_take]; exact min_le_left _ _)

theorem quiet_alarmStage (entered timed : PoleSet) (s : State) : Quiet R s (alarmStage entered timed s) :=
  (quiet_closingInOrder (quiet_handOffs entered timed) s).alarmEvent

theorem quiet_gapStage (loss became raised : Bool) (prior : View) (s : State) : Quiet R s (gapStage loss became raised prior s) := by
  unfold gapStage
  split
  · dsimp only
    split
    · exact (quiet_withPoles _ s).trans (quiet_handGap _ _)
    · exact .refl
  · split
    · exact quiet_withPoles _ s
    · split
      · exact (quiet_withPoles _ s).trans (quiet_handGap _ _)
      · exact .refl

theorem quiet_evaluate (i : WindowInput) (loss became : Bool) (prior : View) (s : State) :
    Quiet R s (evaluate i loss became prior s) := by
  have poles : Quiet R s (polesStage i s) := .of_same (by simp) (by simp) (by simp) (by simp)
  exact (poles.trans (quiet_alarmStage _ _ _)).trans (quiet_gapStage _ _ _ _ _)

theorem quiet_completeWindow (i : WindowInput) (s : State) : Quiet R s (completeWindow i s) := by
  have measured : Quiet R s (measure i.edges s) := .of_same (by simp) (by simp) (by simp) (by simp)
  have view : ∀ loss became u, Quiet R u (viewAfterWindow loss became u) := fun loss became u =>
    .of_same (by simp) (by simp) (by simp) (by simp)
  unfold completeWindow
  split
  · dsimp only
    split
    · exact (measured.trans (quiet_evaluate i _ _ _ _)).trans (view _ _ _)
    · exact measured.trans (view _ _ _)
  · exact .refl

theorem quiet_confirmRewire (i : WindowInput) (id : PoleId) (s : State) : Quiet R s (confirmRewire i id s) := by
  unfold confirmRewire
  dsimp only
  split
  · exact quiet_completeWindow i s
  · exact .refl

theorem quiet_confirmSuspicion (i : WindowInput) (id : PoleId) (s : State) : Quiet R s (confirmSuspicion i id s) := by
  unfold confirmSuspicion
  dsimp only
  split
  · exact quiet_completeWindow i s
  · exact .refl

theorem quiet_timeOutRetrieve (i : WindowInput) (id : PoleId) (s : State) : Quiet R s (timeOutRetrieve i id s) := by
  unfold timeOutRetrieve
  dsimp only
  split
  · exact quiet_completeWindow i s
  · exact .refl

theorem quiet_completeHead (id : PoleId) (edges : Nat) (s : State) : Quiet R s (completeHead id edges s) := by
  unfold completeHead
  dsimp only
  split
  · exact quiet_withPoles _ s
  · exact .refl

theorem quiet_endCalibration (s : State) : Quiet R s (endCalibration s) := by
  unfold endCalibration
  split
  · exact quiet_withPoles _ s
  · exact .refl

theorem quiet_endRestore (s : State) : Quiet R s (endRestore s) := .of_same (by simp) (by simp) (by simp) (by simp)

theorem quiet_reachGapLimit (s : State) : Quiet R s (reachGapLimit s) := by
  have offLine : Quiet R s (enterOffLine s) := .of_same (by simp) (by simp) (by simp) (by simp)
  have entered := offLine.trans (quiet_lineDeadRaise (enterOffLine s)).alarmEvent
  unfold reachGapLimit
  split
  · dsimp only
    split
    · exact entered
    · exact entered.trans (.of_same (by simp) (by simp) (by simp) (by simp))
  · exact .refl

theorem quiet_releasePole (id : PoleId) (s : State) : Quiet R s (releasePole id s) :=
  (quiet_withPoles _ s).trans (quiet_retrieveFailReached _ _ _).alarmEvent

/-! ### The receiver -/

theorem quiet_applyState (src : Station) (f : StateFields) (rejoin wasCol : Bool) (s : State) :
    Quiet R s (applyState src f rejoin wasCol s) := by
  obtain ⟨x, hx⟩ : ∃ x, x = s.withPeers (putPeer ⟨src, f, now s, 0, .fresh⟩ s.peers) := ⟨_, rfl⟩
  have put : Quiet R s x := hx ▸ .of_same rfl rfl rfl rfl
  rw [applyState, ← hx]
  split
  · exact put.trans (quiet_summaryHeard _ _ _ x)
  · split
    · exact put.trans (quiet_summaryHeard _ _ _ x)
    · exact put

theorem quiet_stateHeard (src : Station) (f : StateFields) (s : State) : Quiet R s (stateHeard src f s) := by
  unfold stateHeard
  split
  · exact Quiet.trans (.of_same (by simp) (by simp) (by simp) (by simp)) (quiet_applyState _ _ _ _ (raise .peerJoined s))
  · split
    · exact quiet_applyState _ _ _ _ s
    · split
      · exact quiet_applyState _ _ _ _ s
      · exact .refl

end

end Sys2Proof.Machine
end

section
/-!
The laws of the station line over every command: the counters, the queue, the history list and the silence stay in their bounds, and the
run state, the posted cap, TEC and REC move by their own commands only (R50, R52, R57, R61 to R63, R66 to R68, R135, R144, Table 9-1).
-/
namespace Sys2Proof.Machine

/-- Each law of the station line is kept on its own. -/
structure LineLaws (s t : State) : Prop where
  counters : CountersBounded s → CountersBounded t
  queue : QueueBounded s → QueueBounded t
  history : HistoryBounded s → HistoryBounded t
  silence : SilentWhenNotRunning s → SilentWhenNotRunning t

/-- The run state moves along Table 9-1, the posted cap does not rise, TEC moves where `T` says so and REC rises where `R` does. -/
structure Moves (R T : Prop) (s t : State) : Prop where
  run : runStep s.loader.run t.loader.run = true
  cap : t.port.postedCap ≤ s.port.postedCap
  tec : t.line.tec ≠ s.line.tec → T
  rises : s.line.recv < t.line.recv → R
  station : t.loader.station = s.loader.station
  cause : t.loader.cause = s.loader.cause

/-- Both, where the silence law holds at first for what moves. -/
structure Follows (R T : Prop) (s t : State) : Prop extends LineLaws s t where
  moves : SilentWhenNotRunning s → Moves R T s t

section
variable {R T : Prop} {s t u : State}

theorem historyBounded_of (history : t.alarms.history = s.alarms.history) (few : HistoryBounded s) : HistoryBounded t := by
  rw [HistoryBounded, history]
  exact few

theorem runStep_self (r : RunState) : runStep r r = true := by cases r <;> rfl

/-- The silence law looks at the run state and at what the transmitter holds. -/
theorem Quiet.silence (h : Quiet R s t) (law : SilentWhenNotRunning s) : SilentWhenNotRunning t := by
  obtain ⟨⟨-, run, -⟩, -, ⟨attempt, waiting, suspended⟩, -, -, -, -, -, silenced⟩ := h
  obtain ⟨sends, waits, timer, empty⟩ := law
  have same : isSilenced t = isSilenced s := by rw [isSilenced, run, ← isSilenced]
  rw [SilentWhenNotRunning, run, attempt, waiting, suspended, same]
  refine ⟨sends, waits, timer, fun silent => ?_⟩
  obtain ⟨gap, alarm, ack⟩ := silenced silent
  rw [gap, alarm, ack]
  exact empty silent

theorem Quiet.laws (h : Quiet R s t) : LineLaws s t where
  counters := fun ⟨tec, rec, sent⟩ => ⟨h.counts.1 ▸ tec, h.stops rec, h.counts.2 ▸ sent⟩
  queue := h.queue
  history := h.history
  silence := h.silence

theorem Quiet.follows (h : Quiet R s t) : Follows R T s t where
  toLineLaws := h.laws
  moves _ :=
    ⟨by rw [h.station.2.1]; exact runStep_self _, h.cap, fun other => absurd h.counts.1 other, h.rises, h.station.1, h.station.2.2⟩

theorem LineLaws.trans (h : LineLaws s t) (k : LineLaws t u) : LineLaws s u :=
  ⟨k.counters ∘ h.counters, k.queue ∘ h.queue, k.history ∘ h.history, k.silence ∘ h.silence⟩

/-- What is quiet may come before. -/
theorem Quiet.then (h : Quiet R s t) (k : Follows R T t u) : Follows R T s u where
  toLineLaws := h.laws.trans k.toLineLaws
  moves silent := by
    obtain ⟨run, cap, tec, rises, station, cause⟩ := k.moves (h.silence silent)
    obtain ⟨station', run', cause'⟩ := h.station
    exact ⟨run' ▸ run, cap.trans h.cap, fun other => tec (h.counts.1 ▸ other), rises_trans h.rises rises,
      station.trans station', cause.trans cause'⟩

/-- What is quiet may come after. -/
theorem Follows.then (h : Follows R T s t) (k : Quiet R t u) : Follows R T s u where
  toLineLaws := h.toLineLaws.trans k.laws
  moves silent := by
    obtain ⟨run, cap, tec, rises, station, cause⟩ := h.moves silent
    obtain ⟨station', run', cause'⟩ := k.station
    exact ⟨run'.symm ▸ run, k.cap.trans cap, fun other => tec (k.counts.1 ▸ other), rises_trans rises k.rises,
      station'.trans station, cause'.trans cause⟩

/-! ### The end of an attempt (R55 to R57) -/

/-- At an attempt's end notices leave the queue and none joins; the rest of the line stands. -/
structure Shrinks (l m : Line) : Prop where
  stands : m.attempt = l.attempt ∧ m.suspendedAt = l.suspendedAt ∧ m.tec = l.tec ∧ m.recv = l.recv
  gap : l.gapPart = none → m.gapPart = none
  alarm : m.alarmPart.length ≤ l.alarmPart.length
  ack : m.ackPart.length ≤ l.ackPart.length

theorem Shrinks.empty {l m : Line} (h : Shrinks l m) (none : l.gapPart = none ∧ l.alarmPart = [] ∧ l.ackPart = []) :
    m.gapPart = .none ∧ m.alarmPart = [] ∧ m.ackPart = [] := by
  obtain ⟨gap, alarm, ack⟩ := none
  refine ⟨h.gap gap, List.eq_nil_of_length_eq_zero ?_, List.eq_nil_of_length_eq_zero ?_⟩
  · have := h.alarm
    rw [alarm] at this
    exact Nat.le_zero.1 this
  · have := h.ack
    rw [ack] at this
    exact Nat.le_zero.1 this

theorem Shrinks.bounded (h : Shrinks s.line t.line) (bounded : QueueBounded s) : QueueBounded t :=
  ⟨h.alarm.trans bounded.1, h.ack.trans bounded.2⟩

theorem shrinks_releaseFrame (what : Sending) (s : State) : Shrinks s.line (releaseFrame what s).line := by
  cases what with
  | gap =>
    refine ⟨⟨rfl, rfl, rfl, rfl⟩, fun none => ?_, le_rfl, le_rfl⟩
    simp [releaseFrame, gapAfterSuccess, none]
  | alarm => exact ⟨⟨rfl, rfl, rfl, rfl⟩, id, List.length_filterMap_le _ _, le_rfl⟩
  | ack =>
    have line : (releaseFrame .ack s).line = { s.line with ackPart := s.line.ackPart.filterMap afterSuccess } := by
      simp [releaseFrame, ackAfterSuccess]
    rw [line]
    exact ⟨⟨rfl, rfl, rfl, rfl⟩, id, le_rfl, List.length_filterMap_le _ _⟩
  | state _ => exact ⟨⟨rfl, rfl, rfl, rfl⟩, id, le_rfl, le_rfl⟩

theorem shrinks_returnFrame (what : Sending) (s : State) : Shrinks s.line (returnFrame what s).line := by
  cases what with
  | gap =>
    refine ⟨⟨rfl, rfl, rfl, rfl⟩, fun none => ?_, le_rfl, le_rfl⟩
    simp [returnFrame, gapAfterAbort, none]
  | alarm => exact ⟨⟨rfl, rfl, rfl, rfl⟩, id, List.length_filterMap_le _ _, le_rfl⟩
  | ack =>
    have line : (returnFrame .ack s).line = { s.line with ackPart := s.line.ackPart.filterMap afterAbort } := by
      simp [returnFrame, ackAfterAbort]
    rw [line]
    exact ⟨⟨rfl, rfl, rfl, rfl⟩, id, le_rfl, List.length_filterMap_le _ _⟩
  | state _ => exact ⟨⟨rfl, rfl, rfl, rfl⟩, id, le_rfl, le_rfl⟩

/-- A success makes no STATE wait, and counts the STATE frames sent up to 3 (R57, R58). -/
theorem releaseFrame_state (what : Sending) (s : State) :
    (releaseFrame what s).line.stateWaiting = s.line.stateWaiting
      ∧ (s.line.statesSent ≤ 3 → (releaseFrame what s).line.statesSent ≤ 3) := by
  cases what with
  | state _ => exact ⟨rfl, fun _ => min_le_left _ _⟩
  | gap => exact ⟨rfl, id⟩
  | alarm => exact ⟨rfl, id⟩
  | ack => simp [releaseFrame, ackAfterSuccess]

theorem returnFrame_sent (what : Sending) (s : State) : (returnFrame what s).line.statesSent = s.line.statesSent := by
  cases what <;> simp [returnFrame, gapAfterAbort, ackAfterAbort]

theorem returnFrame_history (what : Sending) (s : State) : (returnFrame what s).alarms.history = s.alarms.history := by
  cases what <;> simp [returnFrame, ackAfterAbort]

theorem releaseFrame_history (what : Sending) (s : State) : (releaseFrame what s).alarms.history = s.alarms.history := by
  cases what <;> simp [releaseFrame, ackAfterSuccess]

theorem follows_succeedAttempt : Follows R True s (succeedAttempt s) := by
  cases sending : s.line.attempt with
  | none => rw [succeedAttempt, sending]; exact Quiet.refl.follows
  | some a =>
    obtain ⟨x, hx⟩ : ∃ x, x = releaseFrame a.what (s.withLine (sentLine s)) := ⟨_, rfl⟩
    obtain ⟨⟨attempt, suspended, tec, rec⟩, -, -, -⟩ := shrinks_releaseFrame a.what (s.withLine (sentLine s))
    have shrinks := shrinks_releaseFrame a.what (s.withLine (sentLine s))
    obtain ⟨waiting, sent⟩ := releaseFrame_state a.what (s.withLine (sentLine s))
    have history := releaseFrame_history a.what (s.withLine (sentLine s))
    have kept : x.loader = s.loader ∧ x.port = s.port := by simp [hx]
    obtain ⟨loader, port⟩ := kept
    rw [← hx] at attempt suspended tec rec shrinks waiting sent history
    rw [succeedAttempt_eq sending, ← hx]
    refine Follows.then ⟨⟨fun ⟨tec', rec', sent'⟩ => ⟨?_, rec ▸ rec', sent sent'⟩, shrinks.bounded,
      historyBounded_of history, fun ⟨sends, waits, timer, empty⟩ => ?_⟩, fun _ => ?_⟩
      (quiet_endAlarmEvent _ x)
    · rw [tec]
      exact (Nat.sub_le _ _).trans tec'
    · have silenced : isSilenced x = isSilenced s := isSilenced_of_loader loader
      rw [SilentWhenNotRunning, loader, attempt, waiting, suspended, silenced]
      exact ⟨nofun, waits, timer, fun silent => shrinks.empty (empty silent)⟩
    · exact ⟨by rw [loader]; exact runStep_self _, by rw [port], fun _ => trivial,
        fun more => absurd (rec ▸ more) (lt_irrefl _), by rw [loader], by rw [loader]⟩

/-- An abort on the first bit gives REC back; on any other it leaves REC as it is (R55). -/
theorem receiverAfterAbort_keeps (bit : Nat) (a : Attempt) (l : Line) :
    let m := receiverAfterAbort bit a l
    m.attempt = none ∧ m.suspendedAt = l.suspendedAt ∧ m.recv ≤ l.recv ∧ m.statesSent = l.statesSent
      ∧ m.gapPart = l.gapPart ∧ m.alarmPart = l.alarmPart ∧ m.ackPart = l.ackPart := by
  unfold receiverAfterAbort
  split
  · exact ⟨rfl, rfl, min_le_left _ _, rfl, rfl, rfl, rfl⟩
  · exact ⟨rfl, rfl, le_rfl, rfl, rfl, rfl, rfl⟩

/-- The queue is emptied and the suspension timer set as the new run state has it (R66, R68). -/
theorem follows_silenced {r : RunState} {at' : Option StationTime} (loader : t.loader = { s.loader with run := r })
    (line : t.line = { emptiedLine u.line with suspendedAt := at' }) (timer : at'.isSome = true ↔ r = .txSuspended)
    (counts : (s.line.tec ≤ 32 → u.line.tec ≤ 32) ∧ u.line.recv ≤ s.line.recv ∧ u.line.statesSent = s.line.statesSent)
    (history : t.alarms.history = s.alarms.history) (cap : t.port.postedCap = s.port.postedCap)
    (step : SilentWhenNotRunning s → runStep s.loader.run r = true) (retries : u.line.tec ≠ s.line.tec → T) : Follows R T s t := by
  obtain ⟨tec, rec, sent⟩ := counts
  refine ⟨⟨fun ⟨tec', rec', sent'⟩ => ?_, fun _ => ?_, historyBounded_of history, fun _ => ?_⟩,
    fun silent => ?_⟩
  · rw [CountersBounded, line]
    exact ⟨tec tec', rec.trans rec', sent.trans_le sent'⟩
  · rw [QueueBounded, line]
    exact ⟨Nat.zero_le 4, Nat.zero_le 3⟩
  · rw [SilentWhenNotRunning, line, loader]
    exact ⟨nofun, nofun, timer, fun _ => ⟨rfl, rfl, rfl⟩⟩
  · refine ⟨?_, cap.le, ?_, ?_, ?_, ?_⟩
    · rw [loader]
      exact step silent
    · rw [line]
      exact retries
    · rw [line]
      exact fun more => absurd more (not_lt.2 rec)
    · rw [loader]
    · rw [loader]

/-- The station with the aborted frame back where it waited, before a suspension (R55). -/
def aborted (bit : Nat) (a : Attempt) (s : State) : State :=
  returnFrame a.what (s.withLine { receiverAfterAbort bit a s.line with tec := min 32 (s.line.tec + 1) })

theorem abortAttempt_aborted {bit : Nat} {a : Attempt} (sending : s.line.attempt = some a) (inside : bit + 1 < 10 * a.bytes.length) :
    abortAttempt bit s = endAlarmEvent s.alarms.table
      (if min 32 (s.line.tec + 1) = 32 then enterSuspended (aborted bit a s) else aborted bit a s) := by
  rw [abortAttempt, sending]
  exact if_pos inside

theorem aborted_keeps (bit : Nat) (a : Attempt) (s : State) :
    let u := aborted bit a s
    u.loader = s.loader ∧ u.port = s.port ∧ u.alarms.history = s.alarms.history ∧ u.line.suspendedAt = s.line.suspendedAt
      ∧ u.line.tec ≤ 32 ∧ u.line.recv ≤ s.line.recv ∧ u.line.statesSent = s.line.statesSent
      ∧ (QueueBounded s → QueueBounded u) := by
  obtain ⟨x, hx⟩ : ∃ x, x = s.withLine { receiverAfterAbort bit a s.line with tec := min 32 (s.line.tec + 1) } := ⟨_, rfl⟩
  obtain ⟨-, suspended', rec', sent', -, alarm', ack'⟩ := receiverAfterAbort_keeps bit a s.line
  have shrinks := shrinks_returnFrame a.what x
  obtain ⟨-, suspended, tec, rec⟩ := shrinks.stands
  dsimp only
  rw [aborted, ← hx]
  refine ⟨by simp [hx], by simp [hx], by rw [returnFrame_history, hx]; rfl, ?_, ?_, ?_, ?_, fun bounded => shrinks.bounded ?_⟩
  · rw [suspended, hx]
    exact suspended'
  · rw [tec, hx]
    exact min_le_left _ _
  · rw [rec, hx]
    exact rec'
  · rw [returnFrame_sent, hx]
    exact sent'
  · rw [QueueBounded, hx, State.withLine_line, alarm', ack']
    exact bounded

/-- An abort: the frame waits again, or at the 32nd error the station is suspended (R55, R66). -/
theorem follows_abortAttempt (bit : Nat) : Follows R True s (abortAttempt bit s) := by
  cases sending : s.line.attempt with
  | none => rw [abortAttempt, sending]; exact Quiet.refl.follows
  | some a =>
    by_cases inside : bit + 1 < 10 * a.bytes.length
    · obtain ⟨loader, port, history, suspended, tec32, low, sent, bounded⟩ := aborted_keeps bit a s
      have running : SilentWhenNotRunning s → s.loader.run = .running := fun silent => silent.1 (by rw [sending]; rfl)
      rw [abortAttempt_aborted sending inside]
      refine Follows.then ?_ (quiet_endAlarmEvent s.alarms.table _)
      split
      · obtain ⟨loader', line', -, -, port', -⟩ := enterSuspended_spec (aborted bit a s)
        refine follows_silenced (loader'.trans (by rw [loader])) line' (by simp) ⟨fun _ => tec32, low, sent⟩ ?_ ?_
          (fun silent => by rw [running silent]; rfl) fun _ => trivial
        · rw [← history]
          simp [enterSuspended, emptyQueue]
        · rw [port', port]
          simp
      · refine ⟨⟨fun ⟨_, rec255, sent3⟩ => ⟨tec32, low.trans rec255, sent.trans_le sent3⟩, bounded,
          historyBounded_of history, fun silent => ?_⟩, fun _ => ?_⟩
        · have run := running silent
          obtain ⟨-, -, timer, -⟩ := silent
          have silenced : isSilenced (aborted bit a s) = false := by rw [isSilenced, loader, run]; rfl
          rw [SilentWhenNotRunning, loader, silenced, suspended]
          exact ⟨fun _ => run, fun _ => run, timer, nofun⟩
        · exact ⟨by rw [loader]; exact runStep_self _, by rw [port], fun _ => trivial,
            fun more => absurd more (not_lt.2 low), by rw [loader], by rw [loader]⟩
    · rw [abortAttempt, sending]
      dsimp only
      rw [if_neg inside]
      exact Quiet.refl.follows

end

end Sys2Proof.Machine
end

section
/-!
The transmitter's other commands and the receiver keep the laws of the station line.
-/
namespace Sys2Proof.Machine

section
variable {R T : Prop} {s t u : State}

/-! ### The start of an attempt and the end of a suspension (R54, R67) -/

theorem idledLine_recv (idle : Nat) (l : Line) : l.recv ≤ 255 → (idledLine idle l).recv ≤ 255 := by
  intro low
  unfold idledLine
  split
  · exact low
  · split
    · exact min_le_left _ _
    · exact low

theorem quiet_idleLine (idle : Nat) (s : State) : Quiet True s (idleLine idle s) := by
  rw [idleLine_eq, idledLine_eq]
  exact .receiver (fun _ => trivial) (idledLine_recv idle s.line)

/-- What an attempt takes from the slot or the queue leaves the rest (R54). -/
theorem takeFirst_stands {what : Sending} {body : Body} {l : Line} (h : takeFirst s = some (what, body, l)) :
    l.suspendedAt = s.line.suspendedAt ∧ l.tec = s.line.tec ∧ l.recv = s.line.recv ∧ l.statesSent = s.line.statesSent
      ∧ l.alarmPart.length = s.line.alarmPart.length ∧ l.ackPart.length = s.line.ackPart.length := by
  have length : ∀ {α : Type} {n m : Notice α} {part : List (Notice α)}, part.head? = some n →
      (m :: part.tail).length = part.length := by
    intro α n m part head
    cases part with
    | nil => cases head
    | cons x xs => rfl
  unfold takeFirst at h
  split at h
  · cases h
  · obtain ⟨n, -, e⟩ := Option.map_eq_some_iff.1 h
    cases e
    exact ⟨rfl, rfl, rfl, rfl, rfl, rfl⟩
  · obtain ⟨n, head, e⟩ := Option.map_eq_some_iff.1 h
    cases e
    exact ⟨rfl, rfl, rfl, rfl, length head, rfl⟩
  · obtain ⟨n, head, e⟩ := Option.map_eq_some_iff.1 h
    cases e
    exact ⟨rfl, rfl, rfl, rfl, rfl, length head⟩
  · cases h
    exact ⟨rfl, rfl, rfl, rfl, rfl, rfl⟩

theorem truncateOpen_eq (l : Line) : truncateOpen l = { l with rx := .hunting, recv := (truncateOpen l).recv } := by
  unfold truncateOpen
  split
  · next rx => rw [← rx]
  · rfl

theorem truncateOpen_stops (l : Line) (low : l.recv ≤ 255) : (truncateOpen l).recv ≤ 255 := by
  unfold truncateOpen
  split
  · exact low
  · exact min_le_left _ _

theorem openAttempt_eq (what : Sending) (bytes : List Byte) (l : Line) :
    openAttempt what bytes l = { l with
      attempt := some ⟨what, bytes, l.rx, l.idle, l.recv⟩, sentAt := none, rx := .inFrame [], idle := 0
      recv := (truncateOpen l).recv } := by
  rw [openAttempt, truncateOpen_eq]

theorem follows_startAttempt (idle : Nat) : Follows True T s (startAttempt idle s) := by
  unfold startAttempt
  split
  · obtain ⟨t, ht⟩ : ∃ t, t = idleLine (s.line.idle + idle) s := ⟨_, rfl⟩
    have idled : Quiet True s t := ht ▸ quiet_idleLine _ s
    dsimp only
    rw [← ht]
    split
    · next w what body l _ taken =>
      split
      · next starts =>
        obtain ⟨run, -⟩ := starts
        obtain ⟨suspended, tec, rec, sent, alarms, acks⟩ := takeFirst_stands taken
        refine idled.then ?_
        rw [openAttempt_eq]
        refine ⟨⟨fun ⟨tec', rec', sent'⟩ => ⟨tec ▸ tec', truncateOpen_stops l (rec ▸ rec'), sent ▸ sent'⟩,
          fun ⟨alarms', acks'⟩ => ⟨alarms ▸ alarms', acks ▸ acks'⟩, id, fun ⟨_, _, timer, _⟩ => ?_⟩, fun _ => ?_⟩
        · refine ⟨fun _ => run, fun _ => run, suspended ▸ timer, fun silent => ?_⟩
          change isSilenced t = true at silent
          rw [isSilenced, run] at silent
          cases silent
        · exact ⟨runStep_self _, le_rfl, fun other => absurd tec other, fun _ => trivial, rfl, rfl⟩
      · exact idled.follows
    · exact idled.follows
  · exact Quiet.refl.follows

theorem follows_endSuspension : Follows R True s (endSuspension s) := by
  unfold endSuspension
  split
  · next h =>
    obtain ⟨x, hx⟩ : ∃ x, x = (s.withLine { s.line with tec := 16, suspendedAt := none, stateFirst := true }).withLoader
        { s.loader with run := .running } := ⟨_, rfl⟩
    refine Follows.then (t := x) ?_ (.of_same (by simp [hx]) (by simp [hx]) (by simp [hx]) (by simp [hx]))
    rw [hx]
    refine ⟨⟨fun ⟨_, rec, sent⟩ => ⟨(by decide : 16 ≤ 32), rec, sent⟩, id, id,
        fun _ => ⟨fun _ => rfl, fun _ => rfl, by simp, nofun⟩⟩,
      fun _ => ⟨?_, le_rfl, fun _ => trivial, fun more => absurd more (lt_irrefl _), rfl, rfl⟩⟩
    rw [h.1]
    rfl
  · exact Quiet.refl.follows

/-! ### Reception (R49 to R51, R80) -/

/-- CLASH can be declared wherever the station line is heard (Table 9-1). -/
theorem runStep_clash (live : isLive s = true) : runStep s.loader.run .clash = true := by
  revert live
  rw [isLive]
  cases s.loader.run <;> decide

theorem follows_declareClash (live : isLive s = true) : Follows R T s (declareClash s) := by
  by_cases clash : s.loader.run = .clash
  · rw [declareClash, if_pos clash]
    exact Quiet.refl.follows
  · obtain ⟨loader, line, -, -, port, -, history⟩ := clashed_spec s
    rw [declareClash_eq clash]
    refine Follows.then (follows_silenced loader line (by simp) ⟨id, le_rfl, rfl⟩ history ?_ (fun _ => ?_)
      fun other => absurd rfl other) (quiet_endAlarmEvent _ _)
    · rw [port]
      simp
    · exact runStep_clash live

theorem follows_handOn {f : Frame} (live : isLive s = true) : Follows R T s (handOn f s) := by
  unfold handOn
  split
  · exact follows_declareClash live
  · split
    · exact (quiet_stateHeard _ _ s).follows
    · exact (quiet_alarmHeard _ _ s).follows
    · exact (quiet_ackHeard _ s).follows
    · exact Quiet.follows (.of_same (by simp) (by simp) (by simp) (by simp))

theorem follows_settleReception (frame : List Byte) (r : Reception) (live : isLive s = true) :
    Follows True T s (settleReception frame r s) := by
  cases r with
  | incomplete => exact Quiet.follows (.receiver (fun _ => trivial) id)
  | fault _ => exact Quiet.follows (.receiver (fun _ => trivial) fun _ => min_le_left _ _)
  | good f =>
    exact Quiet.then (t := s.withLine { s.line with rx := .hunting }) (.receiver (fun _ => trivial) id)
      (follows_handOn (T := T) live)

theorem frameSoFar_line (idle : Nat) (l : Line) : (frameSoFar idle l).2 = l ∨ (frameSoFar idle l).2 = truncateOpen l := by
  unfold frameSoFar
  split
  · split <;> exact .inl rfl
  · split
    · exact .inl rfl
    · exact .inr rfl

theorem quiet_frameSoFar {idle : Nat} {before : Option (List Byte)} {l : Line} (h : frameSoFar idle s.line = (before, l)) :
    Quiet True s (s.withLine { l with idle := 0 }) := by
  have line := frameSoFar_line idle s.line
  rw [h] at line
  rcases line with line | line <;> dsimp only at line <;> rw [line]
  · exact .receiver (fun _ => trivial) id
  · rw [truncateOpen_eq]
    exact .receiver (fun _ => trivial) (truncateOpen_stops s.line)

theorem follows_receive (idle : Nat) (bytes : List Byte) (framing : Bool) : Follows True T s (receive idle bytes framing s) := by
  unfold receive
  split
  · next h =>
    dsimp only
    split
    · exact (quiet_idleLine _ s).follows
    · split
      · next opened => exact (quiet_frameSoFar opened).follows
      · next opened => exact (quiet_frameSoFar opened).then (follows_settleReception _ _ h.1)
  · exact Quiet.refl.follows

theorem quiet_receive_nothing (idle : Nat) (framing : Bool) (s : State) : Quiet True s (receive idle [] framing s) := by
  unfold receive
  split
  · exact quiet_idleLine _ s
  · exact .refl

end

end Sys2Proof.Machine
end

section
/-!
Period boundaries, the end of the read, resets and requests keep the laws of the station line.
-/
namespace Sys2Proof.Machine

section
variable {R T : Prop} {s t u : State}

/-! ### A period boundary (R57, R158) -/

/-- The run state stands at a boundary, or the listen phase ends. -/
theorem endListen_run (s : State) :
    (endListen s).loader.run = s.loader.run ∨ s.loader.run = .listen ∧ (endListen s).loader.run = .running := by
  rw [endListen_loader]
  by_cases ends : listenEnds s = true
  · exact .inr ⟨((listenEnds_iff s).1 ends).1, if_pos ends⟩
  · exact .inl (if_neg ends)

theorem follows_takeBoundary : Follows R T s (takeBoundary s) := by
  by_cases due : boundaryDue s = true
  · obtain ⟨loader, history, -, -, -, -, -, cap, -⟩ := takeBoundary_stands due
    have line := takeBoundary_line due
    have kept : (takeBoundary s).loader.station = s.loader.station ∧ (takeBoundary s).loader.cause = s.loader.cause := by
      rw [loader, endListen_loader]
      exact ⟨rfl, rfl⟩
    have run := endListen_run s
    rw [← loader] at line run
    obtain ⟨t, ht⟩ : ∃ t, t = takeBoundary s := ⟨_, rfl⟩
    rw [← ht] at history cap line kept run ⊢
    obtain ⟨station, cause⟩ := kept
    refine ⟨⟨fun bounded => by rw [CountersBounded, line]; exact bounded, fun bounded => by rw [QueueBounded, line]; exact bounded,
      historyBounded_of history, fun ⟨sends, waits, timer, empty⟩ => ?_⟩, fun _ => ?_⟩
    · rw [SilentWhenNotRunning, line]
      dsimp only
      rw [Bool.or_eq_true, beq_iff_eq]
      rcases run with same | ⟨listen, running⟩
      · have silenced : isSilenced t = isSilenced s := by rw [isSilenced, same, ← isSilenced]
        rw [same, silenced]
        exact ⟨sends, Or.rec waits id, timer, empty⟩
      · have silenced : isSilenced t = false := by rw [isSilenced, running]; rfl
        rw [listen] at timer
        rw [running, silenced]
        exact ⟨fun _ => rfl, fun _ => rfl, ⟨fun some => (by cases timer.1 some), nofun⟩, nofun⟩
    · refine ⟨?_, cap.le, ?_, ?_, station, cause⟩
      · rcases run with same | ⟨listen, running⟩
        · rw [same]
          exact runStep_self _
        · rw [listen, running]
          rfl
      · rw [line]
        exact fun other => absurd rfl other
      · rw [line]
        exact fun more => absurd more (lt_irrefl _)
  · rw [takeBoundary, if_neg due]
    exact Quiet.refl.follows

theorem follows_boundaryWhen (happens : State → Bool) : Follows R T s (boundaryWhen happens s) := by
  unfold boundaryWhen
  split
  · exact follows_takeBoundary
  · exact Quiet.refl.follows

/-! ### The end of the read (R154 to R157) -/

/-- The read ends in the listen phase or in CONFIG_FAULT, with the line as it was but for its idle time. -/
theorem follows_readEnds {idle : Nat} (before : s.loader.run = .configuring)
    (after : t.loader.run = .listen ∨ t.loader.run = .configFault)
    (loader : t.loader.station = s.loader.station ∧ t.loader.cause = s.loader.cause) (line : t.line = { s.line with idle := idle })
    (history : t.alarms.history = s.alarms.history) (cap : t.port.postedCap = s.port.postedCap) : Follows R T s t := by
  obtain ⟨station, cause⟩ := loader
  refine ⟨⟨fun bounded => by rw [CountersBounded, line]; exact bounded, fun bounded => by rw [QueueBounded, line]; exact bounded,
    historyBounded_of history, fun ⟨sends, waits, timer, _⟩ => ?_⟩, fun _ => ?_⟩
  · rw [before] at sends waits timer
    have silenced : isSilenced t = false := by
      rcases after with run | run <;> rw [isSilenced, run] <;> rfl
    have other : t.loader.run ≠ .txSuspended := by
      rcases after with run | run <;> rw [run] <;> decide
    rw [SilentWhenNotRunning, line, silenced]
    refine ⟨fun some => ?_, fun waiting => ?_, ⟨fun some => ?_, fun run => absurd run other⟩, nofun⟩
    · cases sends some
    · cases waits waiting
    · cases timer.1 some
  · refine ⟨?_, cap.le, ?_, ?_, station, cause⟩
    · rw [before]
      rcases after with run | run <;> rw [run] <;> rfl
    · rw [line]
      exact fun other => absurd rfl other
    · rw [line]
      exact fun more => absurd more (lt_irrefl _)

theorem listening_stands (r : Record) (s : State) :
    (listening r s).line = { s.line with idle := 0 } ∧ (listening r s).alarms.history = s.alarms.history
      ∧ (listening r s).port = s.port := by
  unfold listening
  dsimp only
  split <;> exact ⟨rfl, rfl, rfl⟩

theorem follows_enterListen (r : Record) (configuring : s.loader.run = .configuring) : Follows R T s (enterListen r s) := by
  obtain ⟨loader, -⟩ := listening_keeps r s
  obtain ⟨line, history, port⟩ := listening_stands r s
  rw [enterListen_eq]
  refine Follows.then ?_ (.of_same (s := listening r s) (by simp) (by simp) (by simp) (by simp))
  exact follows_readEnds configuring (.inl (by rw [loader])) (by rw [loader]; exact ⟨rfl, rfl⟩) line history (by rw [port])

theorem follows_enterConfigFault (f : ConfigFault) (configuring : s.loader.run = .configuring) :
    Follows R T s (enterConfigFault f s) := by
  have kept : (enterConfigFault f s).line = s.line := by simp [enterConfigFault]
  exact follows_readEnds (idle := s.line.idle) configuring (.inr (by simp [enterConfigFault])) (by simp [enterConfigFault]) kept
    (by simp [enterConfigFault]) (by simp [enterConfigFault])

theorem follows_completeRead (bytes : List Byte) : Follows R T s (completeRead bytes s) := by
  unfold completeRead
  split
  · next h =>
    refine Quiet.then (t := s.withLoader { s.loader with bus := readTransaction, received := bytes }) (.of_loader ⟨rfl, rfl, rfl⟩) ?_
    dsimp only
    split
    · exact follows_enterListen _ h.1
    · exact follows_enterConfigFault _ h.1
  · exact Quiet.refl.follows

theorem follows_reachReadDeadline (done : Nat) : Follows R T s (reachReadDeadline done s) := by
  unfold reachReadDeadline
  split
  · next h =>
    exact Quiet.then (t := s.withLoader { s.loader with
      bus := if s.loader.attempt = .inProgress then cutTransaction done else s.loader.bus }) (.of_loader ⟨rfl, rfl, rfl⟩)
      (follows_enterConfigFault _ h.1)
  · exact Quiet.refl.follows

theorem quiet_failAttempt (levels : BusLevels) (s : State) : Quiet R s (failAttempt levels s) := by
  unfold failAttempt
  split
  · exact .refl
  · split
    · exact .of_loader ⟨rfl, rfl, rfl⟩
    · exact .refl

theorem quiet_retryAttempt (s : State) : Quiet R s (retryAttempt s) := by
  unfold retryAttempt
  split
  · split
    · exact .of_loader ⟨rfl, rfl, rfl⟩
    · exact .refl
  · exact .refl
  · exact .refl

/-! ### Resets (R153) -/

/-- At the reset values of the line every law holds. -/
theorem laws_reset (run : t.loader.run = .configuring) (line : t.line = Line.afterReset)
    (history : HistoryBounded s → HistoryBounded t) : LineLaws s t := by
  refine ⟨fun _ => ?_, fun _ => ?_, history, fun _ => ?_⟩
  · rw [CountersBounded, line]
    decide
  · rw [QueueBounded, line]
    decide
  · rw [SilentWhenNotRunning, isSilenced, line, run]
    decide

/-- A power-on reset empties the history list. -/
theorem laws_powerOn (straps : BitVec 3) (cs : Bool) : LineLaws s (powerOn straps cs s) := laws_reset rfl rfl fun _ => Nat.zero_le 16

theorem laws_dropSupply : LineLaws s (dropSupply s) := laws_reset rfl rfl fun _ => Nat.zero_le 16

theorem laws_releasePin (straps : BitVec 3) (cs : Bool) : LineLaws s (releasePin straps cs s) := by
  unfold releasePin
  split
  · exact (Quiet.of_loader (R := True) (s := s) (l := { s.loader with pin := .released }) ⟨rfl, rfl, rfl⟩).laws
  · exact laws_reset rfl rfl id

theorem laws_assertPin : LineLaws s (assertPin s) := by
  unfold assertPin
  split
  · exact (Quiet.of_loader (R := True) (s := s) (l := { s.loader with pin := .absorbed }) ⟨rfl, rfl, rfl⟩).laws
  · exact laws_reset rfl rfl id

/-! ### Requests (R138 to R148) -/

theorem quiet_takeFrame (cut : Nat) (bytes : List Byte) (strayBits : Nat) {take : State → Answer} (h : Quiet R s (take s).1) :
    Quiet R s (takeFrame cut bytes strayBits take s) := by
  unfold takeFrame
  split
  · exact .withPort le_rfl
  · exact h.trans (.withPort le_rfl)

theorem quiet_whenRunning {take : State → Answer} (h : Quiet R s (take s).1) : Quiet R s (whenRunning take s).1 := by
  rw [whenRunning_fst]
  split
  · exact h
  · exact .refl

theorem quiet_takeDemand (a : BitVec 16) (s : State) : Quiet R s (takeDemand a s).1 := .of_same rfl rfl rfl rfl

theorem quiet_takeSource (a : BitVec 16) (s : State) : Quiet R s (takeSource a s).1 := by
  unfold takeSource
  split
  · exact .of_same rfl rfl rfl rfl
  · exact .refl

/-- A cap is posted where it lowers only (R144). -/
theorem quiet_takeCap (a : BitVec 16) (s : State) : Quiet R s (takeCap a s).1 := by
  unfold takeCap
  split
  · next lower => exact .withPort lower
  · exact .refl

theorem quiet_takeRelease (b : Byte) (s : State) : Quiet R s (takeRelease b s).1 := by
  unfold takeRelease
  split
  · split
    · exact .refl
    · split
      · exact quiet_releasePole _ s
      · exact .refl
  · exact .refl

theorem quiet_takeClearAttention (b : Byte) (s : State) : Quiet R s (takeClearAttention b s).1 := by
  unfold takeClearAttention
  split
  · exact .withPort le_rfl
  · exact .refl

theorem quiet_takeClearCounters (s : State) : Quiet R s (takeClearCounters s).1 :=
  .receiver (fun more => absurd more (Nat.not_lt_zero _)) fun _ => Nat.zero_le _

theorem quiet_takeUnknown (cut : Nat) (bytes : List Byte) (strayBits : Nat) (s : State) :
    Quiet R s (takeUnknown cut bytes strayBits s) := by
  unfold takeUnknown
  split
  · exact quiet_takeFrame _ _ _ .refl
  · exact .refl

theorem laws_takeModuleReset (cut : Nat) (straps : BitVec 3) : LineLaws s (takeModuleReset cut straps s) := by
  unfold takeModuleReset
  split
  · exact (quiet_takeFrame (R := True) _ _ _ .refl).laws
  · exact laws_reset rfl rfl id

end

end Sys2Proof.Machine
end

section
/-!
Every command keeps the laws of the station line and moves what is its own only.
-/
namespace Sys2Proof.Machine

section
variable {R T : Prop} {s t : State}

/-! ### Every command -/

/-- The commands that raise REC (R50). -/
def Receives (c : Instr) : Prop := c.isReception = true ∨ ∃ dt idle, c = .deferralReached dt idle

/-- The commands that move TEC (R55, R56, R67). -/
def Retries (c : Instr) : Prop :=
  (∃ dt bit, c = .collisionAbort dt bit) ∨ (∃ dt, c = .transmitSuccess dt) ∨ ∃ dt, c = .suspensionExpiry dt

/-- A command keeps the laws of the line, and one that begins or ends no reset moves what it may. -/
structure Obeys (c : Instr) (s t : State) : Prop where
  laws : LineLaws s t
  moves : c.isReset = false → SilentWhenNotRunning s → Moves (Receives c) (Retries c) s t

variable {c : Instr}

theorem Follows.obeys (h : Follows R T s t) (rises : R → Receives c) (retries : T → Retries c) : Obeys c s t where
  laws := h.toLineLaws
  moves _ silent := by
    obtain ⟨run, cap, tec, rec, station, cause⟩ := h.moves silent
    exact ⟨run, cap, retries ∘ tec, rises ∘ rec, station, cause⟩

/-- A command that moves neither TEC nor REC upwards. -/
theorem Follows.steady (h : Follows False False s t) : Obeys c s t := h.obeys False.elim False.elim

theorem Quiet.obeys (h : Quiet False s t) : Obeys c s t := h.follows.steady

theorem LineLaws.obeys (h : LineLaws s t) (reset : c.isReset = true) : Obeys c s t :=
  ⟨h, fun other => by rw [reset] at other; cases other⟩

theorem obeys_of_next {f : State} (h : Host.Outcome.next f = (.next t : Host.Outcome State Fault Refusal)) (k : Obeys c s f) :
    Obeys c s t := by
  cases h
  exact k

theorem obeys_of_perform {dt : Nat} {f : State → State} (h : perform dt f s = .next t)
    (k : Obeys c (advance dt s) (f (advance dt s))) : Obeys c s t := by
  unfold perform at h
  split at h
  · cases h
    exact Quiet.refl.obeys
  · cases h
    exact ⟨⟨k.laws.counters, k.laws.queue, k.laws.history, k.laws.silence⟩, fun other silent =>
      let m := k.moves other silent
      ⟨m.run, m.cap, m.tec, m.rises, m.station, m.cause⟩⟩

theorem obeys_of_frame {frame : PortFrame} {n : Nat} {f : State → State} (h : performFrame frame n f s = .next t)
    (k : Obeys c (advance frame.dt s) (f (advance frame.dt s))) : Obeys c s t := by
  unfold performFrame at h
  split at h
  · exact obeys_of_next h (Quiet.obeys (.withPort le_rfl))
  · exact obeys_of_perform h k

theorem obeys_of_request {frame : PortFrame} {r : Request} {take : State → Answer} (h : performRequest frame r take s = .next t)
    (k : ∀ u, Quiet False u (take u).1) : Obeys c s t :=
  obeys_of_frame h (quiet_takeFrame _ _ _ (k _)).obeys

/-- A command of the station line's receiver. -/
theorem obeys_reception {dt idle : Nat} {bytes : List Byte} {framing : Bool} (h : perform dt (receive idle bytes framing) s = .next t)
    (reception : c.isReception = true) : Obeys c s t :=
  obeys_of_perform h ((follows_receive (T := False) idle bytes framing).obeys (fun _ => .inl reception) False.elim)

theorem obeys_boundary {dt : Nat} {happens : State → Bool} (h : perform dt (boundaryWhen happens) s = .next t) : Obeys c s t :=
  obeys_of_perform h (follows_boundaryWhen happens).steady

theorem obeys_exec (h : exec c s = .next t) : Obeys c s t := by
  cases c with
  | powerOnReset straps cs => exact obeys_of_next h ((laws_powerOn straps cs).obeys rfl)
  | resetPin straps cs => exact obeys_of_next h ((laws_releasePin straps cs).obeys rfl)
  | resetPinAsserted => exact obeys_of_next h (laws_assertPin.obeys rfl)
  | supplyBelowOperatingLevel => exact obeys_of_next h (laws_dropSupply.obeys rfl)
  | configAttemptFailed failed => exact obeys_of_perform h (quiet_failAttempt _ _).obeys
  | configReadRetry dt => exact obeys_of_perform h (quiet_retryAttempt _).obeys
  | configReadComplete dt bytes => exact obeys_of_perform h (follows_completeRead bytes).steady
  | configReadDeadline deadline => exact obeys_of_perform h (follows_reachReadDeadline _).steady
  | postDemand frame a => exact obeys_of_request h fun u => quiet_whenRunning (quiet_takeDemand a u)
  | postSource frame a => exact obeys_of_request h fun u => quiet_whenRunning (quiet_takeSource a u)
  | capCeiling frame a => exact obeys_of_request h fun u => quiet_whenRunning (quiet_takeCap a u)
  | ackAlarm frame => exact obeys_of_request h fun u => quiet_whenRunning (quiet_acknowledge u)
  | releaseRetrieve frame pole => exact obeys_of_request h fun u => quiet_whenRunning (quiet_takeRelease pole u)
  | readStatus frame => exact obeys_of_request h fun _ => .refl
  | readPeer frame station => exact obeys_of_request h fun u => by rw [takeReadPeer_keeps]; exact .refl
  | readAlarms frame => exact obeys_of_request h fun _ => .refl
  | readHistory frame index => exact obeys_of_request h fun u => by rw [takeReadHistory_keeps]; exact .refl
  | clearAttention frame cause => exact obeys_of_request h (quiet_takeClearAttention cause)
  | clearCounters frame => exact obeys_of_request h quiet_takeClearCounters
  | moduleReset frame straps => exact obeys_of_frame h ((laws_takeModuleReset _ straps).obeys rfl)
  | unknownRequest frame bytes strayBits => exact obeys_of_frame h (quiet_takeUnknown _ bytes strayBits _).obeys
  | windowCompletion dt input => exact obeys_of_perform h (quiet_completeWindow input _).obeys
  | rewireConfirm dt input pole => exact obeys_of_perform h (quiet_confirmRewire input pole _).obeys
  | suspicionConfirm dt input pole => exact obeys_of_perform h (quiet_confirmSuspicion input pole _).obeys
  | retrieveTimeout dt input pole => exact obeys_of_perform h (quiet_timeOutRetrieve input pole _).obeys
  | headWindowCompletion dt pole edges => exact obeys_of_perform h (quiet_completeHead pole edges _).obeys
  | calibrationIntervalEnd dt => exact obeys_of_perform h (quiet_endCalibration _).obeys
  | gapLimitExpiry dt => exact obeys_of_perform h (quiet_reachGapLimit _).obeys
  | restoreDelayExpiry dt => exact obeys_of_perform h (quiet_endRestore _).obeys
  | periodBoundary dt => exact obeys_of_perform h follows_takeBoundary.steady
  | listenPhaseEnd dt => exact obeys_boundary h
  | peerStale dt station => exact obeys_boundary h
  | peerLost dt station => exact obeys_boundary h
  | demandTimeout dt => exact obeys_boundary h
  | sourceTimeout dt => exact obeys_boundary h
  | ackPendingLapse dt origin number => exact obeys_boundary h
  | stateFrame dt idle bytes => exact obeys_reception h rfl
  | alarmFrame dt idle bytes => exact obeys_reception h rfl
  | ackFrame dt idle bytes => exact obeys_reception h rfl
  | gapStartFrame dt idle bytes => exact obeys_reception h rfl
  | gapEndFrame dt idle bytes => exact obeys_reception h rfl
  | clashFrame dt idle bytes => exact obeys_reception h rfl
  | receiveFault dt idle bytes framing => exact obeys_reception h rfl
  | frameTruncation dt idle bytes gap =>
    exact obeys_of_perform (f := fun u => receive gap [] false (receive idle bytes false u)) h
      (((follows_receive (T := False) idle bytes false).then (quiet_receive_nothing gap false _)).obeys (fun _ => .inl rfl) False.elim)
  | deferralReached dt idle =>
    exact obeys_of_perform h ((follows_startAttempt (T := False) idle).obeys (fun _ => .inr ⟨dt, idle, rfl⟩) False.elim)
  | collisionAbort dt bit =>
    exact obeys_of_perform h ((follows_abortAttempt (R := False) bit).obeys False.elim fun _ => .inl ⟨dt, bit, rfl⟩)
  | transmitSuccess dt =>
    exact obeys_of_perform h (follows_succeedAttempt.obeys False.elim fun _ => .inr (.inl ⟨dt, rfl⟩))
  | suspensionExpiry dt =>
    exact obeys_of_perform h (follows_endSuspension.obeys False.elim fun _ => .inr (.inr ⟨dt, rfl⟩))
  | ackButtonPress dt stood => exact obeys_of_perform h (quiet_pressButton stood _).obeys
  | ackButtonRelease dt stood => exact obeys_of_perform h (quiet_releaseButton stood _).obeys
  | flashClockToggle dt => exact obeys_of_perform h (quiet_toggleLamp _).obeys
  | soundingTimerExpiry dt => exact obeys_of_perform h (quiet_endSounding _).obeys
  | reminderTimerExpiry dt => exact obeys_of_perform h (quiet_remind _).obeys
  | limitPeriodOpens dt => exact obeys_of_perform h (Quiet.of_same (by simp) (by simp) (by simp) (by simp)).obeys
  | limitDutyReached dt => exact obeys_of_perform h (Quiet.of_same (by simp) (by simp) (by simp) (by simp)).obeys

end

/-- Settles O54: every command keeps each law of the station line, and idling changes nothing. -/
theorem lineLawsKept : Obligations.LineLawsKept := by
  intro s t h
  unfold step at h
  split at h
  · cases h
    exact ⟨id, id, id, id⟩
  · obtain ⟨counters, queue, history, silence⟩ := (obeys_exec h).laws
    exact ⟨counters, queue, history, silence⟩

/-- Settles O60: of the commands that begin or end no reset each moves only what is its own. -/
theorem onlyTheseCommandsMove : Obligations.OnlyTheseCommandsMove := by
  intro c s t silent reset h
  obtain ⟨run, cap, tec, rises, station, cause⟩ := (obeys_exec h).moves reset silent
  exact ⟨run, cap, tec, rises, station, cause⟩

end Sys2Proof.Machine
end

section
/-!
STATE frames of another station (R72 to R75): the entry they create, replace or leave, and the alarms of a collector that has changed
its role (R135).
-/
namespace Sys2Proof.Machine

/-! ### Closing several alarms (R135) -/

/-- A list cut to `n` may be cut before more is put in front of it. -/
theorem take_append_take {α : Type} (n : Nat) (front back : List α) : (front ++ back.take n).take n = (front ++ back).take n := by
  rw [List.take_append, List.take_append, List.take_take, Nat.min_eq_left (Nat.sub_le _ _)]

/-- Entries closed one after the other leave the table, and their records head the history list, the last one closed first. -/
theorem closes_eq (r : CloseReason) (gone : List AlarmEntry) {s : State} (bounded : HistoryBounded s) :
    let t := gone.foldl (fun s e => closeEntry e r s) s
    t.alarms.table = s.alarms.table.filter (fun x => gone.all fun e => !isEntry e.origin e.number x)
      ∧ t.alarms.history = (gone.reverse.map (historyOf · r (now s)) ++ s.alarms.history).take 16 := by
  induction gone generalizing s with
  | nil =>
    refine ⟨?_, (List.take_of_length_le bounded).symm⟩
    simp
  | cons e rest ih =>
    have few : HistoryBounded (closeEntry e r s) := (List.length_take_le _ _)
    obtain ⟨table, history⟩ := ih few
    refine ⟨?_, ?_⟩
    · rw [List.foldl_cons, table, closeEntry, State.withAlarms_alarms, List.filter_filter]
      exact List.filter_congr fun x _ => Bool.and_comm _ _
    · have closed : (closeEntry e r s).alarms.history = (historyOf e r (now s) :: s.alarms.history).take 16 := rfl
      rw [List.foldl_cons, history, closed, take_append_take, now_of_clock (closeEntry_keeps e r s).1]
      simp

/-! ### The alarms of a station that has restarted in another role (R74, R135) -/

/-- With an empty summary every open alarm of the origin is closed, the newest of the table first in the history list. -/
theorem reconcile_nothing (o : Station) {s : State} (bounded : HistoryBounded s) :
    (reconcile o [] true s).alarms.table = s.alarms.table.filter (fun a => a.origin != o)
      ∧ (reconcile o [] true s).alarms.history =
          ((ofOrigin o s.alarms.table).reverse.map (historyOf · .originRestarted (now s)) ++ s.alarms.history).take 16 := by
  obtain ⟨table, history⟩ := closes_eq .originRestarted (ofOrigin o s.alarms.table) bounded
  have missing : closeMissing o [] .originRestarted s =
      (ofOrigin o s.alarms.table).foldl (fun s e => closeEntry e .originRestarted s) s := by
    simp [closeMissing]
  rw [← missing] at table history
  have others : (closeMissing o [] .originRestarted s).alarms.table = s.alarms.table.filter (fun a => a.origin != o) := by
    rw [table]
    refine List.filter_congr fun x mem => ?_
    by_cases mine : x.origin = o
    · have listed : x ∈ ofOrigin o s.alarms.table := List.mem_filter.2 ⟨mem, by simpa using mine⟩
      rw [mine, bne_self_eq_false, List.all_eq_false]
      exact ⟨x, listed, by simp [isEntry]⟩
    · have kept : (x.origin != o) = true := by simpa using mine
      rw [kept, List.all_eq_true]
      intro e listed
      have origin : e.origin = o := by simpa using (List.mem_filter.1 listed).2
      simp [isEntry, origin, mine]
  have untouched : ∀ f : AlarmEntry → AlarmEntry,
      (s.alarms.table.filter (fun a => a.origin != o)).map (fun e => if e.origin = o then f e else e)
        = s.alarms.table.filter (fun a => a.origin != o) := by
    intro f
    refine (List.map_congr_left fun e mem => ?_).trans (List.map_id _)
    exact if_neg (by simpa using (List.mem_filter.1 mem).2)
  refine ⟨?_, history⟩
  change ((closeMissing o [] .originRestarted s).alarms.table.map _).map _ = _
  rw [others, untouched, untouched]

/-- An alarm closed as ORIGIN_RESTARTED is recorded as acknowledged where it was ACTIVE_ACKED (R136). -/
theorem historyOf_restarted (a : AlarmEntry) (t : StationTime) :
    historyOf a .originRestarted t =
      ⟨a.origin, a.number, a.kind, a.poles, a.raiseTime, t, a.phase == .activeAcked, .originRestarted⟩ := by
  have acknowledged : wasAcknowledged a.phase .originRestarted = (a.phase == .activeAcked) := by cases a.phase <;> rfl
  rw [historyOf, acknowledged]

/-- The event in which the alarms of a station that has restarted in another role are closed. -/
theorem summaryHeard_nothing (o : Station) {s : State} (bounded : HistoryBounded s) :
    let t := summaryHeard o [] true s
    t.alarms.table = s.alarms.table.filter (fun a => a.origin != o)
      ∧ t.alarms.history =
          (((s.alarms.table.filter fun a => a.origin == o).reverse.map fun a =>
              (⟨a.origin, a.number, a.kind, a.poles, a.raiseTime, now t, a.phase == .activeAcked, .originRestarted⟩
                : HistoryRecord))
            ++ s.alarms.history).take 16 := by
  obtain ⟨table, history⟩ := reconcile_nothing o bounded
  have time : now (summaryHeard o [] true s) = now s := now_of_clock (by simp)
  simp only [historyOf_restarted] at history
  dsimp only
  rw [time, summaryHeard, alarmEvent]
  simp only [endAlarmEvent_fields]
  exact ⟨table, history⟩

/-! ### The acceptance of a STATE frame (R72, R73) -/

/-- The station with the frame's fields in the entry of its source, FRESH and of age 0. -/
def heardFrom (src : Station) (f : StateFields) (s : State) : State := s.withPeers (putPeer ⟨src, f, now s, 0, .fresh⟩ s.peers)

/-- In the frame's role a station other than a collector hands no summary. -/
theorem applyState_other {src : Station} {f : StateFields} {s : State} (rejoin wasCol : Bool) (other : f.role ≠ .col) :
    applyState src f rejoin wasCol s = if wasCol then summaryHeard src [] true (heardFrom src f s) else heardFrom src f s := by
  unfold applyState
  rw [if_neg other]
  rfl

/-- The boot flag or a sequence 1 to 127 ahead: the frame is accepted (R73). -/
def Accepted (f : StateFields) (last : Byte) : Prop :=
  f.boot = true ∨ (1 ≤ (f.seq - last).toNat ∧ (f.seq - last).toNat ≤ 127)

theorem inWindow_iff {new last : Byte} : inWindow new last = true ↔ 1 ≤ (new - last).toNat ∧ (new - last).toNat ≤ 127 := by
  simp [inWindow]

/-- A first STATE creates the entry and raises PEER_JOINED (R72). -/
theorem stateHeard_first {src : Station} {f : StateFields} {s : State} (unknown : peerOf s src = none) :
    stateHeard src f s = applyState src f false false (raise .peerJoined s) := by
  rw [stateHeard, unknown]

theorem stateHeard_accepted {src : Station} {f : StateFields} {e : Peer} {s : State} (found : peerOf s src = some e)
    (accepted : Accepted f e.fields.seq) :
    ∃ rejoin, stateHeard src f s = applyState src f rejoin (e.fields.role == .col) s := by
  rw [stateHeard, found]
  dsimp only
  by_cases boot : f.boot = true
  · exact ⟨true, if_pos boot⟩
  · have ahead : inWindow f.seq e.fields.seq = true := inWindow_iff.2 (accepted.resolve_left boot)
    exact ⟨false, by rw [if_neg boot, if_pos ahead]⟩

/-- Without the boot flag, the same sequence or one 128 or more ahead is an old frame (R73). -/
theorem stateHeard_old {src : Station} {f : StateFields} {e : Peer} {s : State} (found : peerOf s src = some e)
    (boot : f.boot = false) (old : f.seq = e.fields.seq ∨ 128 ≤ (f.seq - e.fields.seq).toNat) : stateHeard src f s = s := by
  have outside : ¬inWindow f.seq e.fields.seq = true := by
    rw [inWindow_iff]
    rcases old with same | far
    · rw [same, BitVec.sub_self]
      decide
    · omega
  rw [stateHeard, found]
  dsimp only
  rw [boot, if_neg Bool.false_ne_true, if_neg outside]

/-- A good STATE frame of another station is handed to the Peer Table (R51). -/
theorem receive_state {dt idle : Nat} {bytes : List Byte} {src : Station} {f : StateFields} {s : State} (hears : Hearing s idle)
    (good : examine bytes = .good ⟨src, .state f⟩) (other : src ≠ s.loader.station) :
    exec (.stateFrame dt idle bytes) s = .next (stateHeard src f (heardFrame dt s)) :=
  (receive_good hears good).trans (congrArg _ (if_neg other))

/-! ### The entries of the Peer Table -/

/-- The entry just placed is the one found. -/
theorem find_putPeer (e : Peer) (peers : List Peer) : (putPeer e peers).find? (fun x => x.station == e.station) = some e := by
  have below : (peers.filter fun x => decide (x.station < e.station)).find? (fun x => x.station == e.station) = none := by
    rw [List.find?_eq_none]
    intro x mem same
    have less : x.station < e.station := by simpa using (List.mem_filter.1 mem).2
    exact absurd (beq_iff_eq.1 same) less.ne
  rw [putPeer, List.find?_append, below, Option.none_or]
  exact List.find?_cons_of_pos (beq_self_eq_true e.station)

theorem peerOf_heardFrom (src : Station) (f : StateFields) (s : State) :
    peerOf (heardFrom src f s) src = some ⟨src, f, now s, 0, .fresh⟩ :=
  find_putPeer ⟨src, f, now s, 0, .fresh⟩ s.peers

/-- The end of an alarm event leaves the other stations' entries. -/
theorem peerOf_endAlarmEvent (before : List AlarmEntry) {s : State} {n : Station} (other : n ≠ s.loader.station) :
    peerOf (endAlarmEvent before s) n = peerOf s n := by
  rw [peerOf_eq, peerOf_eq, endAlarmEvent_others before s n other]

/-- Settles O23: the frame is handed on, accepted or discarded, and a collector in another role hands an empty summary. -/
theorem stateFrameUpdatesPeer : Obligations.StateFrameUpdatesPeer := by
  intro dt idle bytes src f s hears good other
  rw [receive_state hears good other]
  refine ⟨fun unknown role => ?_, fun e found => ⟨fun was role accepted => ?_, fun was role bounded accepted => ?_,
    fun boot old => ?_⟩⟩
  · rw [stateHeard_first (s := heardFrame dt s) unknown, applyState_other _ _ role]
    rfl
  · obtain ⟨rejoin, taken⟩ := stateHeard_accepted (s := heardFrame dt s) found accepted
    rw [taken, applyState_other _ _ role, beq_eq_false_iff_ne.2 was]
    rfl
  · obtain ⟨rejoin, taken⟩ := stateHeard_accepted (s := heardFrame dt s) found accepted
    obtain ⟨u, hu⟩ : ∃ u, u = heardFrom src f (heardFrame dt s) := ⟨_, rfl⟩
    have kept : u.loader = s.loader ∧ u.line = afterFrame s.line ∧ u.alarms = s.alarms := by rw [hu]; exact ⟨rfl, rfl, rfl⟩
    obtain ⟨loader, line, alarms⟩ := kept
    have entry : peerOf u src = some ⟨src, f, now u, 0, .fresh⟩ := by rw [hu]; exact peerOf_heardFrom src f _
    obtain ⟨table, history⟩ := summaryHeard_nothing src (s := u) (by rw [HistoryBounded, alarms]; exact bounded)
    have time : now (summaryHeard src [] true u) = now u := now_of_clock (by simp)
    rw [alarms] at table history
    rw [taken, applyState_other _ _ role, if_pos (beq_iff_eq.2 was), ← hu]
    refine ⟨_, rfl, table, history, ?_, ?_, ?_⟩
    · rw [time, ← entry, summaryHeard, alarmEvent, peerOf_endAlarmEvent _ (by simpa [loader] using other)]
      rw [peerOf, (reconcile_keeps src [] true u).2.2.2.2.2.1, peerOf]
    · simpa using loader
    · simpa using line
  · rw [stateHeard_old (s := heardFrame dt s) found boot old]
    rfl

end Sys2Proof.Machine
end

section
/-!
The four reads of the local port (R84, R146, R147): the exchange of a request that changes nothing, and the bytes of the payloads
(Tables 10-8 and 10-9).
-/
namespace Sys2Proof.Machine

/-! ### The exchange of a read (R138, R139) -/

/-- A request that changes nothing is answered, and the port's exchange is all that it leaves. -/
theorem performRequest_snapshot {frame : PortFrame} {r : Request} {take : State → Answer} {s : State} (ready : PortReady s)
    {st : Status} {payload : List Byte} (h : take (advance frame.dt s) = answer st payload (advance frame.dt s)) :
    performRequest frame r take s = .next { advance frame.dt s with port := answered r st payload s.port } := by
  obtain ⟨reset, whole⟩ := ready
  have opened : ¬(advance frame.dt s).port.abandoned = true := by simpa using whole
  have taken : takeFrame frame.cut (requestBytes r) 0 take (advance frame.dt s) =
      { advance frame.dt s with port := answered r st payload s.port } := by
    rw [takeFrame, if_neg opened, h]
    rfl
  rw [performRequest, performFrame, if_neg (by simp [reset]), perform_working _ _ reset, taken]

theorem takeReadPeer_found {b : Byte} {s : State} {e : Peer} (found : s.peers.find? (fun e => e.station.val == b.toNat) = some e) :
    takeReadPeer b s = answer .ok (peerPayload e) s := by
  rw [takeReadPeer, found]

theorem takeReadPeer_missing {b : Byte} {s : State} (missing : ∀ e ∈ s.peers, e.station.val ≠ b.toNat) :
    takeReadPeer b s = answer .noTarget [] s := by
  have none : s.peers.find? (fun e => e.station.val == b.toNat) = none := by
    rw [List.find?_eq_none]
    exact fun e mem same => missing e mem (beq_iff_eq.1 same)
  rw [takeReadPeer, none]

theorem takeReadHistory_found {b : Byte} {s : State} {h : HistoryRecord} (found : s.alarms.history[b.toNat]? = some h) :
    takeReadHistory b s = answer .ok (historyPayload h) s := by
  rw [takeReadHistory, found]

theorem takeReadHistory_missing {b : Byte} {s : State} (short : s.alarms.history.length ≤ b.toNat) :
    takeReadHistory b s = answer .noTarget [] s := by
  rw [takeReadHistory, List.getElem?_eq_none short]

/-! ### Bits of a byte -/

/-- Bit `i` of a byte is read off the number that the byte was made of. -/
theorem byteOf_bit {n i : Nat} {b : Bool} (small : n < 256) (bit : n / 2 ^ i % 2 = b.toNat) : (byteOf n).getLsbD i = b := by
  rw [BitVec.getLsbD, byteOf_toNat small, Nat.testBit_eq_decide_div_mod_eq, bit]
  cases b <;> rfl

/-- The ack-pending bits stand below bit 5: the phase of the wait at bits 4 and 3, the count at bits 1 and 0 (Table 10-8). -/
theorem ackBits_spec (a : AckPending) :
    ackBits a < 32 ∧ ackBits a / 8 = (match a with | .absent => 0 | .queued => 1 | .sent _ => 2)
      ∧ ∀ c, a = .sent c → c < 4 → ackBits a % 4 = c := by
  cases a with
  | absent => exact ⟨by decide, rfl, nofun⟩
  | queued => exact ⟨by decide, rfl, nofun⟩
  | sent count =>
    rw [ackBits]
    refine ⟨by omega, by dsimp only; omega, fun c same few => ?_⟩
    cases same
    omega

/-- The first byte of an alarm entry: origin, raise time known, orphaned, and the ack pending (Table 10-8). -/
theorem alarmFlags_spec {origin : Nat} (raised orphaned : Bool) (a : AckPending) (low : origin ≤ 1) :
    let b := byteOf (128 * (origin % 2) + 64 * raised.toNat + 32 * orphaned.toNat + ackBits a)
    b.toNat / 128 = origin ∧ b.getLsbD 6 = raised ∧ b.getLsbD 5 = orphaned
      ∧ b.toNat / 8 % 4 = (match a with | .absent => 0 | .queued => 1 | .sent _ => 2)
      ∧ ∀ c, a = .sent c → c < 4 → b.toNat % 4 = c := by
  obtain ⟨few, phase, count⟩ := ackBits_spec a
  have r := Bool.toNat_lt raised
  have o := Bool.toNat_lt orphaned
  have small : 128 * (origin % 2) + 64 * raised.toNat + 32 * orphaned.toNat + ackBits a < 256 := by omega
  dsimp only
  rw [byteOf_toNat small, ← phase]
  refine ⟨by omega, byteOf_bit small (by omega), byteOf_bit small (by omega), by omega, fun c sent low => ?_⟩
  have := count c sent low
  omega

/-- The third byte of an alarm entry: kind, phase and poles (Table 10-8). -/
theorem alarmKind_toNat (k : AlarmKind) (p : Phase) (ps : PoleSet) :
    (byteOf (kindCode k * 16 + phaseCode p * 4 + polesCode ps)).toNat = kindCode k * 16 + phaseCode p * 4 + polesCode ps := by
  have kind : kindCode k ≤ 3 := by cases k <;> decide
  have phase : phaseCode p ≤ 3 := by cases p <;> decide
  have poles : polesCode ps ≤ 3 := by cases ps <;> decide
  exact byteOf_toNat (by omega)

/-- The flags of a history record: raise time known, acknowledged, and the reason (Table 10-9). -/
theorem historyFlags_spec (raised acknowledged : Bool) (r : CloseReason) :
    let b := byteOf (128 * raised.toNat + 64 * acknowledged.toNat + reasonCode r)
    b.getLsbD 7 = raised ∧ b.getLsbD 6 = acknowledged
      ∧ b.toNat % 4 = (match r with | .normal => 0 | .forced => 1 | .originRestarted => 2) := by
  have code : reasonCode r = (match r with | .normal => 0 | .forced => 1 | .originRestarted => 2) := by cases r <;> rfl
  have few : reasonCode r < 4 := by cases r <;> decide
  have a := Bool.toNat_lt raised
  have b := Bool.toNat_lt acknowledged
  have small : 128 * raised.toNat + 64 * acknowledged.toNat + reasonCode r < 256 := by omega
  dsimp only
  rw [byteOf_toNat small, ← code]
  exact ⟨byteOf_bit small (by omega), byteOf_bit small (by omega), by omega⟩

/-! ### The payloads (Tables 10-8 and 10-9) -/

/-- The pole byte of READ_STATUS: both states at a collector, NOT_EVALUATED of both elsewhere (R22). -/
theorem poleByte_eq (s : State) :
    (isCol s = true → poleNibble s s.poles.p * 16 + poleNibble s s.poles.n = poleCode s.poles.p.state * 16 + poleCode s.poles.n.state)
      ∧ (isCol s = false → poleNibble s s.poles.p * 16 + poleNibble s s.poles.n = 0) := by
  refine ⟨fun col => ?_, fun col => ?_⟩ <;> rw [poleNibble, poleNibble, col] <;> rfl

/-- Parts of one length stand one after the other. -/
theorem flatMap_part {α β : Type} {f : α → List β} {n : Nat} (long : ∀ a, (f a).length = n) {l : List α} {k : Nat} {a : α}
    (h : l[k]? = some a) : ((l.flatMap f).drop (n * k)).take n = f a := by
  induction l generalizing k with
  | nil => cases h
  | cons x rest ih =>
    cases k with
    | zero =>
      cases h
      rw [List.flatMap_cons, Nat.mul_zero, List.drop_zero, ← long a, List.take_left]
    | succ k =>
      rw [List.getElem?_cons_succ] at h
      rw [List.flatMap_cons, Nat.mul_succ, Nat.add_comm, ← List.drop_drop]
      conv_lhs => rw [← long x, List.drop_left, long x]
      exact ih h

theorem alarmEntryBytes_length (e : AlarmEntry) : (alarmEntryBytes e).length = 7 := rfl

theorem alarmsPayload_length (table : List AlarmEntry) : (alarmsPayload table).length = 1 + 7 * table.length := by
  rw [alarmsPayload, List.length_cons, List.length_flatMap]
  simp only [alarmEntryBytes_length, List.map_const', List.sum_replicate, smul_eq_mul]
  omega

/-- Each entry of READ_ALARMS stands in its seven bytes. -/
theorem alarmsPayload_part {table : List AlarmEntry} {k : Nat} {e : AlarmEntry} (h : table[k]? = some e) :
    ((alarmsPayload table).drop (1 + 7 * k)).take 7 = alarmEntryBytes e := by
  rw [alarmsPayload, Nat.add_comm, List.drop_succ_cons]
  exact flatMap_part alarmEntryBytes_length h

/-- Settles O16: each read is a snapshot, and its payload is read off the tables byte by byte. -/
theorem readsAreSnapshots : Obligations.ReadsAreSnapshots := by
  refine ⟨fun frame x s ready => ⟨?_, ?_, fun e found => ?_, fun missing => ?_, fun h found => ?_, fun short => ?_⟩,
    fun s => ?_, fun e => ?_, fun table => ⟨alarmsPayload_length table, rfl, fun k e h low => ?_⟩, fun h => ?_⟩
  · exact performRequest_snapshot ready rfl
  · exact performRequest_snapshot ready rfl
  · exact performRequest_snapshot ready (takeReadPeer_found found)
  · exact performRequest_snapshot ready (takeReadPeer_missing missing)
  · exact performRequest_snapshot ready (takeReadHistory_found found)
  · exact performRequest_snapshot ready (takeReadHistory_missing short)
  · obtain ⟨watched, unwatched⟩ := poleByte_eq s
    refine ⟨rfl, rfl, fun col => ?_, fun col => ?_, rfl, rfl, rfl, rfl, rfl, rfl, rfl, rfl⟩
    · exact congrArg (fun n => [byteOf n]) (watched col)
    · exact congrArg (fun n => [byteOf n]) (unwatched col)
  · refine ⟨rfl, rfl, fun fresh => ?_, fun c stale => ?_, rfl⟩
    · rw [peerPayload, fresh]
      rfl
    · rw [peerPayload, stale]
      rfl
  · obtain ⟨origin, raised, orphaned, phase, count⟩ := alarmFlags_spec e.raiseTime.isSome e.orphaned e.ack low
    exact ⟨_, _, _, alarmsPayload_part h, origin, raised, orphaned, phase, count, rfl, alarmKind_toNat _ _ _⟩
  · exact ⟨_, rfl, historyFlags_spec _ _ _⟩

end Sys2Proof.Machine
end

section
/-!
What moves the own entry together with the station (R79): the operations of Supply Watch, of the Alarm Table and of the grant change the
entry's fields in its place, just as they change the station's.
-/
namespace Sys2Proof.Machine

/-! ### Tracking -/

/-- The fields follow the station's grant, floor, ceiling, demand and view (R79). -/
def Shows (s : State) (x : StateFields) : Prop :=
  x.grant = s.share.grant ∧ x.floor = s.share.floor ∧ x.ceiling = s.share.ceiling ∧ x.demand = s.share.demand
    ∧ x.view = s.supply.view

/-- The table changes in the fields of the own entry only, and what followed the station follows it still; no live station dies, and
none comes to need an own entry. -/
structure Tracks (s t : State) : Prop where
  station : t.loader.station = s.loader.station
  live : isLive s = true → isLive t = true
  owns : hasOwn t = true → hasOwn s = true
  entry : ∃ f, t.peers = mapPeer s.loader.station f s.peers ∧ ∀ x, Shows s x → Shows t (f x)

/-- Both laws of the Peer Table pass on from `s` to `t`, the second where the first holds. -/
def PeerLaws (s t : State) : Prop := PeerTableOk s → PeerTableOk t ∧ (OwnEntryFollows s → OwnEntryFollows t)

theorem hasOwn_of_loader {s t : State} (h : t.loader = s.loader) : hasOwn t = hasOwn s := by
  rw [hasOwn, hasOwn, isSilenced, isSilenced, h]

theorem mapPeer_id (n : Station) (peers : List Peer) : mapPeer n id peers = peers := by simp [mapPeer]

section
variable {s t u : State}

namespace Tracks

/-- The table stands. -/
theorem of_peers (station : t.loader.station = s.loader.station) (live : isLive s = true → isLive t = true)
    (owns : hasOwn t = true → hasOwn s = true) (peers : t.peers = s.peers) (shows : ∀ x, Shows s x → Shows t x) : Tracks s t :=
  ⟨station, live, owns, id, by rw [peers, mapPeer_id], shows⟩

/-- The own entry's fields change, at a station whose Loader stands. -/
theorem of_map (loader : t.loader = s.loader) {f : StateFields → StateFields} (peers : t.peers = mapPeer s.loader.station f s.peers)
    (shows : ∀ x, Shows s x → Shows t (f x)) : Tracks s t :=
  ⟨by rw [loader], by rw [isLive_of_loader loader]; exact id, by rw [hasOwn_of_loader loader]; exact id, f, peers, shows⟩

/-- The run state may move between those of a station with an own entry, or before listen entry. -/
theorem of_run {l : Loader} (station : l.station = s.loader.station) (live : isLive s = true → isLive (s.withLoader l) = true)
    (owns : hasOwn (s.withLoader l) = true → hasOwn s = true) : Tracks s (s.withLoader l) :=
  of_peers station live owns rfl fun _ => id

/-- Nothing that the laws look at. -/
theorem of_blocks (loader : t.loader = s.loader) (view : t.supply.view = s.supply.view) (peers : t.peers = s.peers)
    (share : t.share = s.share) : Tracks s t :=
  of_peers (by rw [loader]) (by rw [isLive_of_loader loader]; exact id) (by rw [hasOwn_of_loader loader]; exact id) peers
    fun x h => by rw [Shows, share, view]; exact h

theorem refl : Tracks s s := of_blocks rfl rfl rfl rfl

theorem trans (h : Tracks s t) (k : Tracks t u) : Tracks s u := by
  obtain ⟨f, peers, shows⟩ := h.entry
  obtain ⟨g, peers', shows'⟩ := k.entry
  refine ⟨k.station.trans h.station, k.live ∘ h.live, h.owns ∘ k.owns, g ∘ f, ?_, fun x => shows' (f x) ∘ shows x⟩
  rw [peers', h.station, peers, mapPeer_mapPeer]

theorem ordered (h : Tracks s t) (ordered : Ordered s.peers) : Ordered t.peers := by
  obtain ⟨f, peers, -⟩ := h.entry
  rw [peers]
  exact ordered.mapPeer _ f

/-- The own entry is found with its fields changed. -/
theorem ownEntry (h : Tracks s t) :
    ∃ f : StateFields → StateFields, (∀ x, Shows s x → Shows t (f x))
      ∧ ∀ e, Machine.ownEntry s = some e → Machine.ownEntry t = some { e with fields := f e.fields } := by
  obtain ⟨f, peers, shows⟩ := h.entry
  refine ⟨f, shows, fun e found => ?_⟩
  have mine : e.station = s.loader.station := by simpa using List.find?_some found
  rw [Machine.ownEntry, peerOf] at found ⊢
  rw [h.station, peers, find_mapPeer, found, Option.map_some, if_pos mine]

/-- What moves with the station keeps the laws of the table. -/
theorem laws (h : Tracks s t) : PeerLaws s t := by
  intro ⟨ordered, dead, own⟩
  obtain ⟨f, shows, found⟩ := h.ownEntry
  refine ⟨⟨h.ordered ordered, fun deadT => ?_, fun has => ?_⟩, fun follows has => ?_⟩
  · obtain ⟨g, peers, -⟩ := h.entry
    have deadS : isLive s = false := Bool.eq_false_iff.2 fun live => Bool.eq_false_iff.1 deadT (h.live live)
    rw [peers, dead deadS, mapPeer_nil]
  · obtain ⟨e, entry, fresh, age⟩ := own (h.owns has)
    exact ⟨_, found e entry, fresh, age⟩
  · obtain ⟨e, entry, shown⟩ := follows (h.owns has)
    exact ⟨_, found e entry, shows e.fields shown⟩

end Tracks

theorem PeerLaws.trans (h : PeerLaws s t) (k : PeerLaws t u) : PeerLaws s u := by
  intro ok
  obtain ⟨okT, followsT⟩ := h ok
  obtain ⟨okU, followsU⟩ := k okT
  exact ⟨okU, followsU ∘ followsT⟩

/-! ### The grant, the view and the end of an event -/

theorem tracks_floorHold : Tracks s (floorHold s) :=
  .of_map (by simp) (floorHold_peers s) fun _ ⟨_, floor, ceiling, demand, view⟩ => ⟨rfl, floor, ceiling, demand, view⟩

theorem tracks_setView (v : View) : Tracks s (setView v s) :=
  .of_map (by simp) (setView_peers v s) fun _ ⟨grant, floor, ceiling, demand, _⟩ => ⟨grant, floor, ceiling, demand, rfl⟩

theorem tracks_enterGap : Tracks s (enterGap s) := by
  obtain ⟨-, -, -, -, -, peers⟩ := enterGap_spec s
  exact .of_map (by simp) peers fun _ ⟨_, floor, ceiling, demand, _⟩ => ⟨rfl, floor, ceiling, demand, rfl⟩

theorem tracks_enterOffLine : Tracks s (enterOffLine s) := by
  obtain ⟨-, -, -, -, -, -, -, -, peers⟩ := enterOffLine_spec s
  exact .of_map (by simp) peers fun _ ⟨_, _, _, demand, _⟩ => ⟨rfl, rfl, rfl, demand, rfl⟩

theorem tracks_enterRestoring : Tracks s (enterRestoring s) := by
  have share : (enterRestoring s).share = s.share := by simp
  obtain ⟨⟨-, supply, -, peers⟩ | ⟨-, supply, -, peers⟩, -⟩ := enterRestoring_spec s
  all_goals
    refine .of_map (by simp) peers fun x ⟨grant, floor, ceiling, demand, _⟩ => ?_
    rw [Shows, share, supply]
    exact ⟨grant, floor, ceiling, demand, rfl⟩

theorem tracks_examineExit : Tracks s (examineExit s) := by
  rcases examineExit_cases s with h | ⟨-, -, -, -, h⟩ <;> rw [h]
  · exact .refl
  · exact tracks_enterRestoring

theorem tracks_releaseRecords (p : GapRecord → Bool) : Tracks s (releaseRecords p s) := by
  rcases releaseRecords_cases p s with ⟨-, h⟩ | ⟨t, rfl, h⟩
  · rw [h]
    exact .refl
  · have released : Tracks s (s.withSupply { s.supply with records := s.supply.records.filter fun x => !p x }) :=
      .of_blocks rfl rfl rfl rfl
    rcases h with h | h <;> rw [h]
    · exact released
    · exact released.trans tracks_examineExit

/-- An event of the Alarm Table ends as the table says: the view may move, and the own entry with it (R17, R18). -/
theorem Tracks.event (h : Tracks s t) (before : List AlarmEntry) : Tracks s (endAlarmEvent before t) := by
  have done : Tracks s (settled before t) := h.trans (.of_blocks (by simp) (by simp) (by simp) (by simp))
  rcases endAlarmEvent_cases before t with ⟨-, e⟩ | ⟨e, -⟩ | ⟨e, -⟩ | ⟨e, -⟩ <;> rw [e]
  · exact h
  · exact done
  · exact done.trans tracks_enterOffLine
  · exact done.trans tracks_enterRestoring

/-- An event whose changes leave all that the laws look at. -/
theorem tracks_alarmEvent {f : State → State} (loader : (f s).loader = s.loader) (supply : (f s).supply = s.supply)
    (peers : (f s).peers = s.peers) (share : (f s).share = s.share) : Tracks s (alarmEvent f s) :=
  (Tracks.of_blocks loader (by rw [supply]) peers share).event s.alarms.table

/-! ### Supply Watch -/

theorem tracks_measure (edges : Nat) : Tracks s (measure edges s) :=
  .of_blocks (by simp) (by rw [measure_supply]) (by simp) (by simp)

theorem tracks_viewAfterWindow (loss became : Bool) : Tracks s (viewAfterWindow loss became s) := by
  rcases viewAfterWindow_cases loss became s with ⟨-, -, h⟩ | ⟨-, -, h⟩ | ⟨-, -, h⟩ <;> rw [h]
  · exact tracks_enterGap
  · exact tracks_examineExit
  · exact .refl

theorem tracks_evaluate (i : WindowInput) (loss became : Bool) (prior : View) : Tracks s (evaluate i loss became prior s) := by
  have changes : Tracks s (evaluated i s) := .of_blocks (by simp) (by simp) (by simp) (by simp)
  rw [evaluate_eq]
  exact (changes.event s.alarms.table).trans (.of_blocks (by simp) (by simp) (by simp) (by simp))

theorem tracks_completeWindow (i : WindowInput) : Tracks s (completeWindow i s) := by
  by_cases due : windowDue s = true
  · cases col : isCol s with
    | false =>
      rw [completeWindow_other due col]
      exact (tracks_measure i.edges).trans (tracks_viewAfterWindow _ _)
    | true =>
      rw [completeWindow_col due col]
      exact ((tracks_measure i.edges).trans (tracks_evaluate i _ _ _)).trans (tracks_viewAfterWindow _ _)
  · rw [completeWindow, if_neg due]
    exact .refl

theorem tracks_gapStartHeard (src : Station) (serial : Byte) (e : Peer) : Tracks s (gapStartHeard src serial e s) := by
  have recorded : Tracks s (if e.freshness = .fresh then
      s.withSupply { s.supply with records := putRecord ⟨src, serial⟩ s.supply.records } else s) := by
    split
    · exact .of_blocks rfl rfl rfl rfl
    · exact .refl
  have entered : ∀ u : State, Tracks u (if u.supply.view = .onLine ∨ u.supply.view = .restoring then enterGap u else u) := by
    intro u
    split
    · exact tracks_enterGap
    · exact .refl
  exact recorded.trans (entered _)

theorem tracks_gapHeard (src : Station) (g : GapContent) : Tracks s (gapHeard src g s) := by
  unfold gapHeard
  split
  · exact .refl
  · split
    · split
      · exact tracks_gapStartHeard _ _ _
      · exact tracks_releaseRecords _
    · exact .refl

theorem tracks_endRestore : Tracks s (endRestore s) := by
  unfold endRestore
  split
  · exact Tracks.trans (t := stopRestore s) (.of_blocks rfl rfl rfl rfl) (tracks_setView .onLine)
  · exact .refl

theorem tracks_reachGapLimit : Tracks s (reachGapLimit s) := by
  unfold reachGapLimit
  split
  · have entered : Tracks s (alarmEvent lineDeadRaise (enterOffLine s)) :=
      tracks_enterOffLine.trans (tracks_alarmEvent (by simp) (by simp) (by simp) (by simp))
    dsimp only
    split
    · exact entered
    · exact entered.trans tracks_examineExit
  · exact .refl

/-! ### Pole Watch -/

theorem tracks_withPoles (w : PoleWatch) : Tracks s (s.withPoles w) := .of_blocks rfl rfl rfl rfl

theorem tracks_confirmRewire (i : WindowInput) (id : PoleId) : Tracks s (confirmRewire i id s) := by
  unfold confirmRewire
  dsimp only
  split
  · exact tracks_completeWindow i
  · exact .refl

theorem tracks_confirmSuspicion (i : WindowInput) (id : PoleId) : Tracks s (confirmSuspicion i id s) := by
  unfold confirmSuspicion
  dsimp only
  split
  · exact tracks_completeWindow i
  · exact .refl

theorem tracks_timeOutRetrieve (i : WindowInput) (id : PoleId) : Tracks s (timeOutRetrieve i id s) := by
  unfold timeOutRetrieve
  dsimp only
  split
  · exact tracks_completeWindow i
  · exact .refl

theorem tracks_completeHead (id : PoleId) (edges : Nat) : Tracks s (completeHead id edges s) :=
  .of_blocks (by simp) (by simp) (by simp) (by simp)

theorem tracks_endCalibration : Tracks s (endCalibration s) := .of_blocks (by simp) (by simp) (by simp) (by simp)

theorem tracks_releasePole (id : PoleId) : Tracks s (releasePole id s) := by
  unfold releasePole
  exact (tracks_withPoles _).trans (tracks_alarmEvent (by simp) (by simp) (by simp) (by simp))

/-! ### The Alarm Table at a listener, acknowledgement, lamp and buzzer -/

theorem tracks_alarmHeard (src : Station) (c : AlarmContent) : Tracks s (alarmHeard src c s) := by
  unfold alarmHeard
  split
  · exact tracks_alarmEvent (by simp) (by simp) (by simp) (by simp)
  · exact .refl

theorem tracks_summaryHeard (o : Station) (summary : List SummaryItem) (rejoin : Bool) : Tracks s (summaryHeard o summary rejoin s) :=
  tracks_alarmEvent (by simp) (by simp) (by simp) (by simp)

theorem tracks_ackHeard (c : AckContent) : Tracks s (ackHeard c s) := by
  unfold ackHeard
  split
  · exact tracks_alarmEvent (by simp) (by simp) (by simp) (by simp)
  · exact .refl

theorem tracks_acknowledge : Tracks s (acknowledge s).1 := by
  unfold acknowledge
  split
  · exact .refl
  · next e _ =>
    split
    · exact tracks_alarmEvent (by simp) (by simp) (by simp) (by simp)
    · split
      · have joined : Tracks s (joinAck ⟨e.origin, e.number⟩ s) := .of_blocks rfl rfl rfl rfl
        exact joined.trans (tracks_alarmEvent (by simp) (by simp) (by simp) (by simp))
      · exact .refl

theorem tracks_withAlarms (a : Alarms) : Tracks s (s.withAlarms a) := .of_blocks rfl rfl rfl rfl

theorem tracks_pressButton (stood : Nat) : Tracks s (pressButton stood s) := by
  unfold pressButton
  split
  · exact (tracks_withAlarms _).trans tracks_acknowledge
  · exact .refl

end

end Sys2Proof.Machine
end

section
/-!
The Peer Table over the operations of the station line, of a period boundary, of the start-up and of the requests, and so over every
command (R70, R76 to R79).
-/
namespace Sys2Proof.Machine

section
variable {s t u : State}

/-! ### Entries placed in the table (R70, R78, R79) -/

/-- Placing the own entry makes both laws true, whatever the table held of the station. -/
theorem writeOwn_laws (live : isLive s = true) (ordered : Ordered s.peers) :
    PeerTableOk (writeOwn s) ∧ OwnEntryFollows (writeOwn s) := by
  have own : ownEntry (writeOwn s) = some ⟨s.loader.station, ownFields s, now s, 0, .fresh⟩ :=
    find_putPeer ⟨s.loader.station, ownFields s, now s, 0, .fresh⟩ s.peers
  refine ⟨⟨ordered.putPeer _, fun dead => ?_, fun _ => ⟨_, own, rfl, rfl⟩⟩, fun _ => ⟨_, own, rfl, rfl, rfl, rfl, rfl⟩⟩
  have working : isLive (writeOwn s) = true := live
  rw [working] at dead
  cases dead

/-- The entry of another station leaves the own entry as it is. -/
theorem peerLaws_putOther {e : Peer} (other : e.station ≠ s.loader.station) (live : isLive s = true) :
    PeerLaws s (s.withPeers (putPeer e s.peers)) := by
  intro ⟨ordered, _, own⟩
  have same : ownEntry (s.withPeers (putPeer e s.peers)) = ownEntry s := by
    rw [ownEntry, ownEntry, peerOf_eq, peerOf_eq]
    exact congrArg List.head? (OthersStand.putPeer (own := e.station) rfl s.peers _ other.symm)
  refine ⟨⟨Ordered.putPeer ordered e, fun dead => ?_, fun has => ?_⟩, fun follows has => ?_⟩
  · have working : isLive (s.withPeers (putPeer e s.peers)) = true := live
    rw [working] at dead
    cases dead
  · rw [same]
    exact own has
  · rw [same]
    exact follows has

/-! ### The transmitter -/

/-- A station with an own entry moves to another run state with one. -/
theorem tracks_moveRun {r : RunState} (own : hasOwn s = true) (works : isLive (s.withLoader { s.loader with run := r }) = true) :
    Tracks s (s.withLoader { s.loader with run := r }) :=
  .of_run rfl (fun _ => works) fun _ => own

/-- The queue is emptied and the suspension timer set (R66, R68). -/
theorem tracks_emptied (timer : Option StationTime) :
    Tracks s ((emptyQueue s).withLine { (emptyQueue s).line with suspendedAt := timer }) :=
  .of_blocks (by simp) (by simp) (by simp) (by simp)

theorem tracks_enterSuspended (run : s.loader.run = .running) : Tracks s (enterSuspended s) := by
  obtain ⟨t, ht⟩ : ∃ t, t = (emptyQueue s).withLine { (emptyQueue s).line with suspendedAt := some (now (emptyQueue s)) } :=
    ⟨_, rfl⟩
  have emptied : Tracks s t := ht ▸ tracks_emptied _
  have own : hasOwn t = true := by
    have loader : t.loader = s.loader := by simp [ht]
    rw [hasOwn, loader, run]
    rfl
  have raised : Tracks t (raise .txSuspended (t.withLoader { t.loader with run := .txSuspended })) :=
    (tracks_moveRun own rfl).trans (.of_blocks rfl rfl rfl rfl)
  rw [enterSuspended]
  dsimp only
  rw [← ht]
  exact (emptied.trans raised).trans tracks_floorHold

theorem tracks_abortAttempt (bit : Nat) (silent : SilentWhenNotRunning s) : Tracks s (abortAttempt bit s) := by
  cases sending : s.line.attempt with
  | none =>
    rw [abortAttempt, sending]
    exact .refl
  | some a =>
    by_cases inside : bit + 1 < 10 * a.bytes.length
    · have loader : (aborted bit a s).loader = s.loader := by simp [aborted]
      have returned : Tracks s (aborted bit a s) := .of_blocks loader (by simp [aborted]) (by simp [aborted]) (by simp [aborted])
      have run : s.loader.run = .running := silent.1 (by rw [sending]; rfl)
      rw [abortAttempt_aborted sending inside]
      refine Tracks.event ?_ _
      split
      · exact returned.trans (tracks_enterSuspended (by rw [loader, run]))
      · exact returned
    · rw [abortAttempt, sending]
      dsimp only
      rw [if_neg inside]
      exact .refl

theorem tracks_succeedAttempt : Tracks s (succeedAttempt s) := by
  cases sending : s.line.attempt with
  | none =>
    rw [succeedAttempt, sending]
    exact .refl
  | some a =>
    rw [succeedAttempt_eq sending]
    exact (Tracks.of_blocks (by simp) (by simp) (by simp) (by simp)).event _

theorem tracks_startAttempt (idle : Nat) : Tracks s (startAttempt idle s) := .of_blocks (by simp) (by simp) (by simp) (by simp)

theorem tracks_endSuspension : Tracks s (endSuspension s) := by
  unfold endSuspension
  split
  · next h =>
    obtain ⟨run, -⟩ := h
    obtain ⟨t, ht⟩ : ∃ t, t = s.withLine { s.line with tec := 16, suspendedAt := none, stateFirst := true } := ⟨_, rfl⟩
    have lined : Tracks s t := by rw [ht]; exact .of_blocks rfl rfl rfl rfl
    have own : hasOwn t = true := by rw [hasOwn, isSilenced, ht, State.withLine_loader, run]; rfl
    rw [← ht]
    exact (lined.trans (tracks_moveRun own rfl)).trans (.of_blocks rfl rfl rfl rfl)
  · exact .refl

/-! ### CLASH (R68, R80) -/

/-- A listening station gets its own entry; any other keeps the one it has. -/
theorem peerLaws_toClash (live : isLive s = true) : PeerLaws s (toClash s) := by
  unfold toClash
  dsimp only
  split
  · intro ⟨ordered, _⟩
    obtain ⟨ok, follows⟩ := writeOwn_laws (s := s.withLoader { s.loader with run := .clash }) rfl ordered
    exact ⟨ok, fun _ => follows⟩
  · next listens => exact (tracks_moveRun ((hasOwn_of_live live).2 listens) rfl).laws

theorem peerLaws_declareClash (live : isLive s = true) : PeerLaws s (declareClash s) := by
  by_cases run : s.loader.run = .clash
  · rw [declareClash, if_pos run]
    exact Tracks.refl.laws
  · have changed : Tracks (toClash s) (clashed s) :=
      ((tracks_emptied none).trans tracks_floorHold).trans (.of_blocks rfl rfl rfl rfl)
    rw [declareClash_eq run]
    exact (peerLaws_toClash live).trans (changed.event _).laws

/-! ### The receiver -/

theorem peerLaws_applyState {src : Station} (f : StateFields) (rejoin wasCol : Bool) (other : src ≠ s.loader.station)
    (live : isLive s = true) : PeerLaws s (applyState src f rejoin wasCol s) := by
  have put := peerLaws_putOther (s := s) (e := ⟨src, f, now s, 0, .fresh⟩) other live
  unfold applyState
  dsimp only
  split
  · exact put.trans (tracks_summaryHeard _ _ _).laws
  · split
    · exact put.trans (tracks_summaryHeard _ _ _).laws
    · exact put

theorem peerLaws_stateHeard {src : Station} (f : StateFields) (other : src ≠ s.loader.station) (live : isLive s = true) :
    PeerLaws s (stateHeard src f s) := by
  unfold stateHeard
  split
  · have joined : Tracks s (raise .peerJoined s) := .of_blocks rfl rfl rfl rfl
    exact joined.laws.trans (peerLaws_applyState f _ _ other live)
  · split
    · exact peerLaws_applyState f _ _ other live
    · split
      · exact peerLaws_applyState f _ _ other live
      · exact Tracks.refl.laws

theorem peerLaws_handOn (f : Frame) (live : isLive s = true) : PeerLaws s (handOn f s) := by
  unfold handOn
  split
  · exact peerLaws_declareClash live
  · next other =>
    split
    · exact peerLaws_stateHeard _ other live
    · exact (tracks_alarmHeard _ _).laws
    · exact (tracks_ackHeard _).laws
    · exact (tracks_gapHeard _ _).laws

theorem tracks_withLine (l : Line) : Tracks s (s.withLine l) := .of_blocks rfl rfl rfl rfl

theorem peerLaws_settleReception (frame : List Byte) (r : Reception) (live : isLive s = true) :
    PeerLaws s (settleReception frame r s) := by
  cases r with
  | incomplete => exact (tracks_withLine _).laws
  | fault _ => exact (tracks_withLine _).laws
  | good f => exact (tracks_withLine { s.line with rx := .hunting }).laws.trans (peerLaws_handOn f live)

theorem peerLaws_receive (idle : Nat) (bytes : List Byte) (framing : Bool) : PeerLaws s (receive idle bytes framing s) := by
  unfold receive
  split
  · next h =>
    obtain ⟨live, -⟩ := h
    dsimp only
    split
    · exact (Tracks.of_blocks (by simp) (by simp) (by simp) (by simp)).laws
    · split
      · exact (tracks_withLine _).laws
      · next l _ => exact (tracks_withLine { l with idle := 0 }).laws.trans (peerLaws_settleReception _ _ live)
  · exact Tracks.refl.laws

/-! ### A period boundary (R70, R76 to R79) -/

/-- The table is in order when stage 3 begins. -/
theorem ordered_settledStages (ordered : Ordered s.peers) : Ordered (settledStages s).peers := by
  have ended : Ordered (endListen s).peers := by
    unfold endListen
    split
    · exact ordered.putPeer _
    · exact ordered
  have taken : Ordered (takePending (countBoundary (endListen s))).peers := by
    rcases takePending_peers (countBoundary (endListen s)) with h | ⟨g, h⟩ <;> rw [h]
    · exact ended
    · exact ended.mapPeer _ _
  obtain ⟨f, h⟩ := stageTwo_peers (takePending (countBoundary (endListen s)))
  rw [settledStages, h]
  exact taken.mapPeer _ _

theorem ordered_agePeers (ordered : Ordered s.peers) : Ordered (agePeers s).peers := by
  obtain ⟨-, -, -, -, -, peers⟩ := agedTable_keeps s
  have event : Tracks (agedTable s) (agePeers s) := tracks_alarmEvent (by simp) (by simp) (by simp) (by simp)
  refine event.ordered ?_
  rw [peers]
  exact ordered.age _ _

/-- Stage 3 rewrites the own entry where there is one, whatever the stages before it did to it (R79). -/
theorem peerLaws_ripened (live : isLive s = true) : PeerLaws s (ripened s) := by
  intro ⟨ordered, _⟩
  have aged : Ordered (agePeers (settledStages s)).peers := ordered_agePeers (ordered_settledStages ordered)
  have working : isLive (agePeers (settledStages s)) = true := by
    rw [isLive_of_loader (s := endListen s) (by simp [settledStages_loader]), endListen_live live]
  unfold ripened rewriteOwn
  split
  · obtain ⟨ok, follows⟩ := writeOwn_laws working aged
    exact ⟨ok, fun _ => follows⟩
  · next none =>
    exact ⟨⟨aged, fun dead => absurd working (Bool.eq_false_iff.1 dead), fun has => absurd has none⟩, fun _ has => absurd has none⟩

theorem tracks_formPending : Tracks s (formPending s) := by
  have loader : (formPending s).loader = s.loader := by simp
  have supply : (formPending s).supply = s.supply := by simp
  have peers : (formPending s).peers = mapPeer s.loader.station id s.peers := by simp [mapPeer_id]
  refine .of_map loader peers fun x h => ?_
  rw [Shows, formPending_share, supply]
  exact h

theorem tracks_stageFour : Tracks s (stageFour s) := .of_blocks (by simp) (by simp) (by simp) (by simp)

theorem peerLaws_takeBoundary : PeerLaws s (takeBoundary s) := by
  by_cases due : boundaryDue s = true
  · have live : isLive s = true := by
      rw [boundaryDue, Bool.and_eq_true] at due
      exact due.1
    have formed : Tracks (ripened s) (stageFour (formPending (ripened s))) := tracks_formPending.trans tracks_stageFour
    have counts : Tracks (stageFour (formPending (ripened s))) (counted s) :=
      tracks_alarmEvent (by simp) (by simp) (by simp) (by simp)
    rw [takeBoundary_releases due]
    exact (peerLaws_ripened live).trans ((formed.trans counts).trans (tracks_releaseRecords _)).laws
  · rw [takeBoundary, if_neg due]
    exact Tracks.refl.laws

theorem peerLaws_boundaryWhen (happens : State → Bool) : PeerLaws s (boundaryWhen happens s) := by
  unfold boundaryWhen
  split
  · exact peerLaws_takeBoundary
  · exact Tracks.refl.laws

/-! ### Resets and start-up (R153 to R157) -/

/-- At the reset values the table is empty, and no own entry is asked for. -/
theorem peerLaws_reset (run : t.loader.run = .configuring) (peers : t.peers = []) : PeerLaws s t := by
  have none : hasOwn t ≠ true := by rw [hasOwn, isSilenced, run]; decide
  refine fun _ => ⟨⟨?_, fun _ => peers, fun has => absurd has none⟩, fun _ has => absurd has none⟩
  rw [peers]
  exact List.Pairwise.nil

theorem peerLaws_releasePin (straps : BitVec 3) (cs : Bool) : PeerLaws s (releasePin straps cs s) := by
  unfold releasePin
  split
  · exact (Tracks.of_run rfl id id).laws
  · exact peerLaws_reset rfl rfl

theorem peerLaws_assertPin : PeerLaws s (assertPin s) := by
  unfold assertPin
  split
  · exact (Tracks.of_run rfl id id).laws
  · exact peerLaws_reset rfl rfl

theorem tracks_failAttempt (levels : BusLevels) : Tracks s (failAttempt levels s) := by
  unfold failAttempt
  split
  · exact .refl
  · split
    · exact .of_run rfl id id
    · exact .refl

theorem tracks_retryAttempt : Tracks s (retryAttempt s) := by
  unfold retryAttempt
  split
  · split
    · exact .of_run rfl id id
    · exact .refl
  · exact .refl
  · exact .refl

theorem dead_of_configuring (run : s.loader.run = .configuring) : isLive s ≠ true := by rw [isLive, run]; exact Bool.false_ne_true

theorem tracks_enterConfigFault (f : ConfigFault) (run : s.loader.run = .configuring) : Tracks s (enterConfigFault f s) := by
  have faulty : Tracks s (s.withLoader { s.loader with run := .configFault, fault := f, attempt := .idle }) :=
    .of_run rfl (fun live => absurd live (dead_of_configuring run)) fun has => nomatch has
  exact faulty.trans (.of_blocks (by simp [enterConfigFault]) (by simp) (by simp) (by simp))

theorem tracks_enterListen (r : Record) (run : s.loader.run = .configuring) : Tracks s (enterListen r s) := by
  obtain ⟨loader, supply, -, -⟩ := listening_keeps r s
  have peers : (listening r s).peers = s.peers ∧ ∀ x, Shows s x → Shows (listening r s) x := by
    unfold listening
    dsimp only
    split <;> exact ⟨rfl, fun _ h => h⟩
  have listens : Tracks s (listening r s) := by
    refine .of_peers (by rw [loader]) (fun live => absurd live (dead_of_configuring run)) (fun has => ?_) peers.1 peers.2
    rw [hasOwn, isSilenced, loader] at has
    cases has
  rw [enterListen_eq]
  exact listens.trans tracks_examineExit

theorem tracks_completeRead (bytes : List Byte) : Tracks s (completeRead bytes s) := by
  unfold completeRead
  split
  · next h =>
    obtain ⟨run, -⟩ := h
    have read : Tracks s (s.withLoader { s.loader with bus := readTransaction, received := bytes }) := .of_run rfl id id
    dsimp only
    split
    · exact read.trans (tracks_enterListen _ run)
    · exact read.trans (tracks_enterConfigFault _ run)
  · exact .refl

theorem tracks_reachReadDeadline (done : Nat) : Tracks s (reachReadDeadline done s) := by
  unfold reachReadDeadline
  split
  · next h =>
    obtain ⟨run, -⟩ := h
    refine Tracks.trans (t := s.withLoader { s.loader with
      bus := if s.loader.attempt = .inProgress then cutTransaction done else s.loader.bus }) (.of_run rfl id id) ?_
    exact tracks_enterConfigFault _ run
  · exact .refl

/-! ### Requests (R138 to R148) and the limit output -/

theorem tracks_withPort (p : Port) : Tracks s (s.withPort p) := .of_blocks rfl rfl rfl rfl

theorem tracks_takeFrame (cut : Nat) (bytes : List Byte) (strayBits : Nat) {take : State → Answer} (h : Tracks s (take s).1) :
    Tracks s (takeFrame cut bytes strayBits take s) := by
  unfold takeFrame
  split
  · exact tracks_withPort _
  · exact h.trans (tracks_withPort _)

theorem tracks_whenRunning {take : State → Answer} (h : Tracks s (take s).1) : Tracks s (whenRunning take s).1 := by
  rw [whenRunning_fst]
  split
  · exact h
  · exact .refl

theorem tracks_takeDemand (a : BitVec 16) : Tracks s (takeDemand a s).1 := .of_blocks rfl rfl rfl rfl

theorem tracks_takeSource (a : BitVec 16) : Tracks s (takeSource a s).1 := by
  unfold takeSource
  split
  · exact .of_blocks rfl rfl rfl rfl
  · exact .refl

theorem tracks_takeCap (a : BitVec 16) : Tracks s (takeCap a s).1 := by
  unfold takeCap
  split
  · exact tracks_withPort _
  · exact .refl

theorem tracks_takeRelease (b : Byte) : Tracks s (takeRelease b s).1 := by
  unfold takeRelease
  split
  · split
    · exact .refl
    · split
      · exact tracks_releasePole _
      · exact .refl
  · exact .refl

theorem tracks_takeClearAttention (b : Byte) : Tracks s (takeClearAttention b s).1 := by
  unfold takeClearAttention
  split
  · exact tracks_withPort _
  · exact .refl

theorem tracks_takeUnknown (cut : Nat) (bytes : List Byte) (strayBits : Nat) : Tracks s (takeUnknown cut bytes strayBits s) := by
  unfold takeUnknown
  split
  · exact tracks_takeFrame _ _ _ .refl
  · exact .refl

theorem peerLaws_takeModuleReset (cut : Nat) (straps : BitVec 3) : PeerLaws s (takeModuleReset cut straps s) := by
  unfold takeModuleReset
  split
  · exact (tracks_takeFrame _ _ _ .refl).laws
  · exact peerLaws_reset rfl rfl

theorem tracks_openLimitPeriod : Tracks s (openLimitPeriod s) := by
  unfold openLimitPeriod
  dsimp only
  split
  · exact .of_peers rfl id id rfl fun _ h => h
  · split
    · exact .of_peers rfl id id rfl fun _ h => h
    · exact .refl

theorem tracks_reachLimitDuty : Tracks s (reachLimitDuty s) := .of_peers rfl id id rfl fun _ h => h

/-! ### Every command -/

theorem tracks_advance (dt : Nat) (s : State) : Tracks s (advance dt s) := .of_peers rfl id id rfl fun _ h => h

theorem peerLaws_of_next {f : State} (h : Host.Outcome.next f = (.next t : Host.Outcome State Fault Refusal)) (k : PeerLaws s f) :
    PeerLaws s t := by
  cases h
  exact k

theorem peerLaws_of_perform {dt : Nat} {f : State → State} (h : perform dt f s = .next t)
    (k : PeerLaws (advance dt s) (f (advance dt s))) : PeerLaws s t := by
  unfold perform at h
  split at h
  · cases h
    exact Tracks.refl.laws
  · cases h
    exact (tracks_advance dt s).laws.trans k

theorem peerLaws_of_tracks {dt : Nat} {f : State → State} (h : perform dt f s = .next t)
    (k : Tracks (advance dt s) (f (advance dt s))) : PeerLaws s t := peerLaws_of_perform h k.laws

theorem peerLaws_of_frame {frame : PortFrame} {n : Nat} {f : State → State} (h : performFrame frame n f s = .next t)
    (k : PeerLaws (advance frame.dt s) (f (advance frame.dt s))) : PeerLaws s t := by
  unfold performFrame at h
  split at h
  · exact peerLaws_of_next h (tracks_withPort _).laws
  · exact peerLaws_of_perform h k

theorem peerLaws_of_request {frame : PortFrame} {r : Request} {take : State → Answer} (h : performRequest frame r take s = .next t)
    (k : Tracks (advance frame.dt s) (take (advance frame.dt s)).1) : PeerLaws s t :=
  peerLaws_of_frame h (tracks_takeFrame _ _ _ k).laws

theorem peerLaws_exec {c : Instr} (silent : SilentWhenNotRunning s) (h : exec c s = .next t) : PeerLaws s t := by
  cases c with
  | powerOnReset straps cs => exact peerLaws_of_next h (peerLaws_reset rfl rfl)
  | resetPin straps cs => exact peerLaws_of_next h (peerLaws_releasePin straps cs)
  | resetPinAsserted => exact peerLaws_of_next h peerLaws_assertPin
  | supplyBelowOperatingLevel => exact peerLaws_of_next h (peerLaws_reset rfl rfl)
  | configAttemptFailed failed => exact peerLaws_of_tracks h (tracks_failAttempt _)
  | configReadRetry dt => exact peerLaws_of_tracks h tracks_retryAttempt
  | configReadComplete dt bytes => exact peerLaws_of_tracks h (tracks_completeRead bytes)
  | configReadDeadline deadline => exact peerLaws_of_tracks h (tracks_reachReadDeadline _)
  | postDemand frame a => exact peerLaws_of_request h (tracks_whenRunning (tracks_takeDemand a))
  | postSource frame a => exact peerLaws_of_request h (tracks_whenRunning (tracks_takeSource a))
  | capCeiling frame a => exact peerLaws_of_request h (tracks_whenRunning (tracks_takeCap a))
  | ackAlarm frame => exact peerLaws_of_request h (tracks_whenRunning tracks_acknowledge)
  | releaseRetrieve frame pole => exact peerLaws_of_request h (tracks_whenRunning (tracks_takeRelease pole))
  | readStatus frame => exact peerLaws_of_request h .refl
  | readPeer frame station => exact peerLaws_of_request h (by rw [takeReadPeer_keeps]; exact .refl)
  | readAlarms frame => exact peerLaws_of_request h .refl
  | readHistory frame index => exact peerLaws_of_request h (by rw [takeReadHistory_keeps]; exact .refl)
  | clearAttention frame cause => exact peerLaws_of_request h (tracks_takeClearAttention cause)
  | clearCounters frame => exact peerLaws_of_request h (tracks_withLine _)
  | moduleReset frame straps => exact peerLaws_of_frame h (peerLaws_takeModuleReset _ straps)
  | unknownRequest frame bytes strayBits => exact peerLaws_of_frame h (tracks_takeUnknown _ bytes strayBits).laws
  | windowCompletion dt input => exact peerLaws_of_tracks h (tracks_completeWindow input)
  | rewireConfirm dt input pole => exact peerLaws_of_tracks h (tracks_confirmRewire input pole)
  | suspicionConfirm dt input pole => exact peerLaws_of_tracks h (tracks_confirmSuspicion input pole)
  | retrieveTimeout dt input pole => exact peerLaws_of_tracks h (tracks_timeOutRetrieve input pole)
  | headWindowCompletion dt pole edges => exact peerLaws_of_tracks h (tracks_completeHead pole edges)
  | calibrationIntervalEnd dt => exact peerLaws_of_tracks h tracks_endCalibration
  | gapLimitExpiry dt => exact peerLaws_of_tracks h tracks_reachGapLimit
  | restoreDelayExpiry dt => exact peerLaws_of_tracks h tracks_endRestore
  | periodBoundary dt => exact peerLaws_of_perform h peerLaws_takeBoundary
  | listenPhaseEnd dt => exact peerLaws_of_perform h (peerLaws_boundaryWhen _)
  | peerStale dt station => exact peerLaws_of_perform h (peerLaws_boundaryWhen _)
  | peerLost dt station => exact peerLaws_of_perform h (peerLaws_boundaryWhen _)
  | demandTimeout dt => exact peerLaws_of_perform h (peerLaws_boundaryWhen _)
  | sourceTimeout dt => exact peerLaws_of_perform h (peerLaws_boundaryWhen _)
  | ackPendingLapse dt origin number => exact peerLaws_of_perform h (peerLaws_boundaryWhen _)
  | stateFrame dt idle bytes => exact peerLaws_of_perform h (peerLaws_receive idle bytes false)
  | alarmFrame dt idle bytes => exact peerLaws_of_perform h (peerLaws_receive idle bytes false)
  | ackFrame dt idle bytes => exact peerLaws_of_perform h (peerLaws_receive idle bytes false)
  | gapStartFrame dt idle bytes => exact peerLaws_of_perform h (peerLaws_receive idle bytes false)
  | gapEndFrame dt idle bytes => exact peerLaws_of_perform h (peerLaws_receive idle bytes false)
  | clashFrame dt idle bytes => exact peerLaws_of_perform h (peerLaws_receive idle bytes false)
  | receiveFault dt idle bytes framing => exact peerLaws_of_perform h (peerLaws_receive idle bytes framing)
  | frameTruncation dt idle bytes gap =>
    exact peerLaws_of_perform (f := fun u => receive gap [] false (receive idle bytes false u)) h
      ((peerLaws_receive idle bytes false).trans (peerLaws_receive gap [] false))
  | deferralReached dt idle => exact peerLaws_of_tracks h (tracks_startAttempt idle)
  | collisionAbort dt bit => exact peerLaws_of_tracks h (tracks_abortAttempt bit silent)
  | transmitSuccess dt => exact peerLaws_of_tracks h tracks_succeedAttempt
  | suspensionExpiry dt => exact peerLaws_of_tracks h tracks_endSuspension
  | ackButtonPress dt stood => exact peerLaws_of_tracks h (tracks_pressButton stood)
  | ackButtonRelease dt stood => exact peerLaws_of_tracks h (.of_blocks (by simp) (by simp) (by simp) (by simp))
  | flashClockToggle dt => exact peerLaws_of_tracks h (.of_blocks (by simp) (by simp) (by simp) (by simp))
  | soundingTimerExpiry dt => exact peerLaws_of_tracks h (.of_blocks (by simp) (by simp) (by simp) (by simp))
  | reminderTimerExpiry dt => exact peerLaws_of_tracks h (.of_blocks (by simp) (by simp) (by simp) (by simp))
  | limitPeriodOpens dt => exact peerLaws_of_tracks h tracks_openLimitPeriod
  | limitDutyReached dt => exact peerLaws_of_tracks h tracks_reachLimitDuty

theorem peerLaws_step (silent : SilentWhenNotRunning s) (h : step s = .next t) : PeerLaws s t := by
  unfold step at h
  split at h
  · exact peerLaws_of_next h Tracks.refl.laws
  · next c rest _ =>
    have taken : Tracks s { s with pending := rest } := .of_blocks rfl rfl rfl rfl
    exact taken.laws.trans (peerLaws_exec silent h)

end

/-- Settles O56: the own entry is changed in its place just as the station is, or written anew from it; the entries of the others join
and age in their order. -/
theorem peerLawsKept : Obligations.PeerLawsKept := fun _ _ silent ok h => peerLaws_step silent h ok

end Sys2Proof.Machine
end

section
/-!
The allocation (R90 to R98): what the floors pass and the excess pass do to an entry, and what they take from Rem.
-/
namespace Sys2Proof.Machine

/-! ### Sums over the entries -/

/-- Grants raised in the entries that satisfy `p` raise the sum of the grants by as much. -/
theorem sum_grants_raised {p : Claimant → Bool} {amount more : Claimant → Nat} (es : List Claimant)
    (raised : ∀ e ∈ es, p e = true → amount e = e.g + more e) :
    ((es.map fun e => if p e = true then { e with g := amount e } else e).map (·.g)).sum =
      (es.map (·.g)).sum + ((es.filter p).map more).sum := by
  induction es with
  | nil => rfl
  | cons e es ih =>
    have ih := ih fun e mem => raised e (List.mem_cons_of_mem _ mem)
    have first := raised e List.mem_cons_self
    cases h : p e <;> simp [h] at ih first ⊢ <;> omega

/-- The parts of `r` in proportion to weights of sum `w`, each rounded down, sum to `r` at most. -/
theorem sum_parts_le (weight : Claimant → Nat) (r : Nat) (es : List Claimant) :
    (es.map fun e => r * weight e / (es.map weight).sum).sum ≤ r := by
  have parts : ∀ w, (es.map fun e => r * weight e / w).sum ≤ r * (es.map weight).sum / w := by
    intro w
    induction es with
    | nil => exact Nat.zero_le _
    | cons e es ih =>
      simp only [List.map_cons, List.sum_cons, Nat.mul_add]
      exact (Nat.add_le_add_left ih _).trans Nat.div_add_div_le_add_div
  refine (parts _).trans (Nat.div_le_of_le_mul ?_)
  rw [Nat.mul_comm]

/-- The grants of a class in which they were set. -/
theorem grantSum_set (c : Nat) (amount : Claimant → Nat) (es : List Claimant) :
    grantSum c (es.map fun e => if e.cls = c then { e with g := amount e } else e) =
      ((es.filter fun e => e.cls == c).map amount).sum := by
  unfold grantSum
  induction es with
  | nil => rfl
  | cons e es ih => by_cases h : e.cls = c <;> simp [h, ih]

/-- Grants set in a class move the sum of the grants by what the class held and what it holds now. -/
theorem sum_grants_set (c : Nat) (amount : Claimant → Nat) (es : List Claimant) :
    ((es.map fun e => if e.cls = c then { e with g := amount e } else e).map (·.g)).sum + grantSum c es =
      (es.map (·.g)).sum + grantSum c (es.map fun e => if e.cls = c then { e with g := amount e } else e) := by
  rw [grantSum_set]
  unfold grantSum
  induction es with
  | nil => rfl
  | cons e es ih => by_cases h : e.cls = c <;> simp [h] at ih ⊢ <;> omega

/-! ### One class of the floors pass (R94, R95) -/

theorem floorsClass_stopped {x : Division} (c : Nat) (h : x.stopped = true) : floorsClass x c = x := by rw [floorsClass, if_pos h]

theorem floorsClass_whole {x : Division} {c : Nat} (h : x.stopped = false) (fits : floorSum c x.entries ≤ x.rem) :
    floorsClass x c =
      ⟨x.entries.map fun e => if e.cls = c then { e with g := e.f } else e, x.rem - floorSum c x.entries, false⟩ := by
  rw [floorsClass, if_neg (by simp [h])]
  exact if_pos fits

/-- The entries of a class in shortfall: each has its part of Rem. -/
def shortened (c rem : Nat) (es : List Claimant) : List Claimant :=
  es.map fun e => if e.cls = c then { e with g := e.f * rem / floorSum c es } else e

theorem floorsClass_short {x : Division} {c : Nat} (h : x.stopped = false) (short : x.rem < floorSum c x.entries) :
    floorsClass x c = ⟨shortened c x.rem x.entries, x.rem - grantSum c (shortened c x.rem x.entries), true⟩ := by
  rw [floorsClass, if_neg (by simp [h])]
  exact if_neg (Nat.not_le.2 short)

/-- What a class in shortfall is given is within Rem. -/
theorem grantSum_shortened_le (c rem : Nat) (es : List Claimant) : grantSum c (shortened c rem es) ≤ rem := by
  rw [shortened, grantSum_set]
  simp only [Nat.mul_comm _ rem]
  exact sum_parts_le (·.f) rem (es.filter fun e => e.cls == c)

theorem grantSum_whole (c : Nat) (es : List Claimant) :
    grantSum c (es.map fun e => if e.cls = c then { e with g := e.f } else e) = floorSum c es :=
  grantSum_set c (·.f) es

/-- One class of the pass: it stood still, it has whole floor parts, or it is in shortfall. -/
theorem floorsClass_cases (x : Division) (c : Nat) :
    x.stopped = true ∧ floorsClass x c = x
      ∨ floorSum c x.entries ≤ x.rem ∧ floorsClass x c =
          ⟨x.entries.map fun e => if e.cls = c then { e with g := e.f } else e, x.rem - floorSum c x.entries, false⟩
      ∨ x.rem < floorSum c x.entries ∧ floorsClass x c =
          ⟨shortened c x.rem x.entries, x.rem - grantSum c (shortened c x.rem x.entries), true⟩ := by
  cases h : x.stopped with
  | true => exact .inl ⟨rfl, floorsClass_stopped c h⟩
  | false =>
    rcases Nat.lt_or_ge x.rem (floorSum c x.entries) with short | fits
    · exact .inr (.inr ⟨short, floorsClass_short h short⟩)
    · exact .inr (.inl ⟨fits, floorsClass_whole h fits⟩)

/-- A pass that goes on after a class went on before it. -/
theorem floorsClass_on {x : Division} {c : Nat} (on : (floorsClass x c).stopped = false) : x.stopped = false := by
  by_contra stopped
  rw [Bool.not_eq_false] at stopped
  rw [floorsClass_stopped c stopped, stopped] at on
  cases on

/-- A class that is reached has its grants set. -/
theorem floorsClass_sets {x : Division} (on : x.stopped = false) (c : Nat) :
    ∃ amount : Claimant → Nat,
      (floorsClass x c).entries = x.entries.map fun e => if e.cls = c then { e with g := amount e } else e := by
  rcases floorsClass_cases x c with ⟨stopped, -⟩ | ⟨-, h⟩ | ⟨-, h⟩
  · rw [on] at stopped
    cases stopped
  · exact ⟨(·.f), by rw [h]⟩
  · exact ⟨fun e => e.f * x.rem / floorSum c x.entries, by rw [h]; rfl⟩

/-- Rem falls by exactly what the class is given. -/
theorem floorsClass_rem {x : Division} {c : Nat} (h : x.stopped = false) :
    (floorsClass x c).rem + grantSum c (floorsClass x c).entries = x.rem := by
  rcases floorsClass_cases x c with ⟨stopped, -⟩ | ⟨fits, e⟩ | ⟨-, e⟩
  · rw [h] at stopped
    cases stopped
  · rw [e, grantSum_whole]
    exact Nat.sub_add_cancel fits
  · rw [e]
    exact Nat.sub_add_cancel (grantSum_shortened_le c x.rem x.entries)

/-- An entry after one class of the pass: as it was, or given at most its floor part, and the whole of it unless the pass stops. -/
theorem floorsClass_entry {x : Division} {c : Nat} {e : Claimant} (mem : e ∈ (floorsClass x c).entries) :
    (e ∈ x.entries ∧ (x.stopped = false → e.cls ≠ c))
      ∨ e.cls = c ∧ ∃ o ∈ x.entries, ∃ g, e = { o with g := g } ∧ g ≤ o.f ∧ ((floorsClass x c).stopped = false → g = o.f) := by
  rcases floorsClass_cases x c with ⟨stopped, h⟩ | ⟨-, h⟩ | ⟨short, h⟩ <;> rw [h] at mem ⊢
  · exact .inl ⟨mem, fun on => by rw [stopped] at on; cases on⟩
  · obtain ⟨o, old, rfl⟩ := List.mem_map.1 mem
    split
    · next cls => exact .inr ⟨cls, o, old, o.f, rfl, le_rfl, fun _ => rfl⟩
    · next cls => exact .inl ⟨old, fun _ => cls⟩
  · obtain ⟨o, old, rfl⟩ := List.mem_map.1 mem
    split
    · next cls =>
      refine .inr ⟨cls, o, old, _, rfl, Nat.div_le_of_le_mul ?_, nofun⟩
      rw [Nat.mul_comm]
      exact Nat.mul_le_mul_right _ short.le
    · next cls => exact .inl ⟨old, fun _ => cls⟩

/-! ### The floors pass -/

/-- What the entries hold, with Rem. -/
def Division.worth (x : Division) : Nat := (x.entries.map (·.g)).sum + x.rem

/-- Nothing is given that Rem does not lose. -/
theorem floorsClass_worth_le (x : Division) (c : Nat) : (floorsClass x c).worth ≤ x.worth := by
  cases on : x.stopped with
  | true => rw [floorsClass_stopped c on]
  | false =>
    obtain ⟨amount, set⟩ := floorsClass_sets on c
    have moved := sum_grants_set c amount x.entries
    have given := floorsClass_rem (c := c) on
    rw [← set] at moved
    unfold Division.worth
    omega

/-- The entries of the classes below `n` hold their whole floor parts. -/
def WholeBelow (n : Nat) (x : Division) : Prop := ∀ e ∈ x.entries, e.cls < n → e.g = e.f

/-- A class leaves those before it whole. -/
theorem WholeBelow.later {n c : Nat} {x : Division} (h : WholeBelow n x) (le : n ≤ c) : WholeBelow n (floorsClass x c) := by
  intro e mem low
  rcases floorsClass_entry mem with ⟨old, -⟩ | ⟨cls, -⟩
  · exact h e old low
  · omega

/-- A class that is not in shortfall is whole itself. -/
theorem WholeBelow.next {n : Nat} {x : Division} (h : WholeBelow n x) (on : (floorsClass x n).stopped = false) :
    WholeBelow (n + 1) (floorsClass x n) := by
  intro e mem low
  rcases floorsClass_entry mem with ⟨old, other⟩ | ⟨-, o, -, g, rfl, -, whole⟩
  · have other := other (floorsClass_on on)
    exact h e old (by omega)
  · exact whole on

/-- With no shortfall in the classes below `n` their entries are whole, and stay so. -/
theorem wholeBelow_floors {x : Division} {n m : Nat} (le : n ≤ m) (on : ((List.range n).foldl floorsClass x).stopped = false) :
    WholeBelow n ((List.range m).foldl floorsClass x) := by
  induction m, le using Nat.le_induction with
  | base =>
    induction n with
    | zero => exact fun _ _ low => absurd low (Nat.not_lt_zero _)
    | succ n ih =>
      rw [List.range_succ, List.foldl_append] at on ⊢
      exact (ih (floorsClass_on on)).next on
  | succ m le ih =>
    rw [List.range_succ, List.foldl_append]
    exact ih.later le

/-- Every entry of the division is one of `es` with a grant of at most its floor part. -/
def WithinFloors (es : List Claimant) (x : Division) : Prop := ∀ e ∈ x.entries, ∃ o ∈ es, e = { o with g := e.g } ∧ e.g ≤ o.f

theorem WithinFloors.next {es : List Claimant} {x : Division} (h : WithinFloors es x) (c : Nat) :
    WithinFloors es (floorsClass x c) := by
  intro e mem
  rcases floorsClass_entry mem with ⟨old, -⟩ | ⟨-, o, old, g, rfl, le, -⟩
  · exact h e old
  · obtain ⟨o', mem', eq, -⟩ := h o old
    rw [eq] at le ⊢
    exact ⟨o', mem', rfl, le⟩

/-- The floors pass over the classes 0, 1 and 2 in turn (R94). -/
theorem floorsPass_eq (budget : Nat) (es : List Claimant) :
    floorsPass budget es = floorsClass (floorsClass (floorsClass ⟨es, budget, false⟩ 0) 1) 2 := rfl

theorem floorsPass_worth_le (budget : Nat) (es : List Claimant) : (floorsPass budget es).worth ≤ (es.map (·.g)).sum + budget :=
  (floorsClass_worth_le _ 2).trans ((floorsClass_worth_le _ 1).trans (floorsClass_worth_le ⟨es, budget, false⟩ 0))

theorem floorsPass_withinFloors {es : List Claimant} (start : ∀ e ∈ es, e.g = 0) (budget : Nat) :
    WithinFloors es (floorsPass budget es) := by
  have begin : WithinFloors es ⟨es, budget, false⟩ := fun e mem => ⟨e, mem, rfl, by rw [start e mem]; exact Nat.zero_le _⟩
  exact ((begin.next 0).next 1).next 2

/-- With no shortfall in the classes below `n`, these hold their whole floor parts after the pass. -/
theorem floorsPass_wholeBelow {budget n : Nat} {es : List Claimant} (le : n ≤ 3)
    (on : ((List.range n).foldl floorsClass ⟨es, budget, false⟩).stopped = false) : WholeBelow n (floorsPass budget es) :=
  wholeBelow_floors le on

/-! ### Rounds of water-filling (R97, R98) -/

/-- The entries that a round satisfies. -/
def satisfiedIn (c rem : Nat) (es : List Claimant) : List Claimant := es.filter (isSatisfied c rem (weightSum c es))

/-- A round that satisfies none gives each entry of A its share, and is the last. -/
theorem waterFill_last {c fuel rem : Nat} {es : List Claimant} (none : satisfiedIn c rem es = []) :
    waterFill c (fuel + 1) rem es =
      (es.map fun e => if wantsExcess c e then { e with g := e.g + shareOf rem (weightSum c es) e } else e,
        rem - ((es.filter (wantsExcess c)).map (shareOf rem (weightSum c es))).sum) := by
  rw [waterFill]
  exact if_pos (List.isEmpty_iff.2 none)

/-- A round that satisfies some gives them what they want, and the next round follows. -/
theorem waterFill_next {c fuel rem : Nat} {es : List Claimant} (some : satisfiedIn c rem es ≠ []) :
    waterFill c (fuel + 1) rem es =
      waterFill c fuel (rem - ((satisfiedIn c rem es).map wanted).sum)
        (es.map fun e => if isSatisfied c rem (weightSum c es) e then { e with g := e.d } else e) := by
  rw [waterFill]
  exact if_neg fun empty => some (List.isEmpty_iff.1 empty)

theorem wantsExcess_iff {c : Nat} {e : Claimant} :
    wantsExcess c e = true ↔ e.cls = c ∧ e.takesExcess = true ∧ e.g < e.d := by
  simp [wantsExcess, and_assoc]

theorem isSatisfied_iff {c rem weights : Nat} {e : Claimant} :
    isSatisfied c rem weights e = true ↔ wantsExcess c e = true ∧ wanted e ≤ shareOf rem weights e := by
  simp [isSatisfied]

theorem wanted_add {c : Nat} {e : Claimant} (h : wantsExcess c e = true) : e.g + wanted e = e.d := by
  obtain ⟨-, -, low⟩ := wantsExcess_iff.1 h
  unfold wanted
  omega

/-- The shares of a round are within Rem. -/
theorem sum_shares_le (c rem : Nat) (es : List Claimant) :
    ((es.filter (wantsExcess c)).map (shareOf rem (weightSum c es))).sum ≤ rem :=
  sum_parts_le (·.weight) rem (es.filter (wantsExcess c))

/-- What the satisfied entries take is within the shares, and so within Rem. -/
theorem sum_satisfied_le (c rem : Nat) (es : List Claimant) : ((satisfiedIn c rem es).map wanted).sum ≤ rem := by
  have shares : ∀ (w : Nat) (l : List Claimant), ((l.filter (isSatisfied c rem w)).map wanted).sum
      ≤ ((l.filter (wantsExcess c)).map (shareOf rem w)).sum := by
    intro w l
    induction l with
    | nil => exact le_rfl
    | cons e l ih =>
      cases satisfied : isSatisfied c rem w e with
      | true =>
        obtain ⟨wants, covered⟩ := isSatisfied_iff.1 satisfied
        simp [satisfied, wants]
        omega
      | false => cases wants : wantsExcess c e <;> simp [satisfied, wants] <;> omega
  exact (shares _ es).trans (sum_shares_le c rem es)

/-- A water-filling gives no more than Rem. -/
theorem waterFill_worth_le (c fuel rem : Nat) (es : List Claimant) :
    ((waterFill c fuel rem es).1.map (·.g)).sum + (waterFill c fuel rem es).2 ≤ (es.map (·.g)).sum + rem := by
  induction fuel generalizing rem es with
  | zero => exact le_rfl
  | succ fuel ih =>
    by_cases none : satisfiedIn c rem es = []
    · have within := sum_shares_le c rem es
      rw [waterFill_last none]
      dsimp only
      rw [sum_grants_raised es fun e _ _ => rfl]
      omega
    · have within := sum_satisfied_le c rem es
      rw [waterFill_next none]
      refine (ih _ _).trans ?_
      rw [sum_grants_raised es fun e _ h => (wanted_add (isSatisfied_iff.1 h).1).symm]
      change _ + ((satisfiedIn c rem es).map wanted).sum + _ ≤ _
      omega

/-- An entry after a part of the excess pass: its grant may have risen, within its demand, if it takes excess. -/
def Raised (o e : Claimant) : Prop :=
  ∃ g, e = { o with g := g } ∧ o.g ≤ g ∧ (o.g ≤ o.d → g ≤ o.d) ∧ (o.takesExcess = false → g = o.g)

theorem Raised.refl (e : Claimant) : Raised e e := ⟨e.g, rfl, le_rfl, id, fun _ => rfl⟩

theorem Raised.trans {a b c : Claimant} (h : Raised a b) (k : Raised b c) : Raised a c := by
  obtain ⟨g, rfl, up, within, still⟩ := h
  obtain ⟨g', rfl, up', within', still'⟩ := k
  exact ⟨g', rfl, up.trans up', within' ∘ within, fun stale => (still' stale).trans (still stale)⟩

theorem raised_to {c g : Nat} {e : Claimant} (wants : wantsExcess c e = true) (up : e.g ≤ g) (within : g ≤ e.d) :
    Raised e { e with g := g } := by
  obtain ⟨-, takes, -⟩ := wantsExcess_iff.1 wants
  exact ⟨g, rfl, up, fun _ => within, fun stale => by rw [takes] at stale; cases stale⟩

theorem raised_demand {c : Nat} {e : Claimant} (wants : wantsExcess c e = true) : Raised e { e with g := e.d } := by
  obtain ⟨-, -, low⟩ := wantsExcess_iff.1 wants
  exact raised_to wants low.le le_rfl

theorem raised_waterFill {c fuel rem : Nat} {es : List Claimant} {e : Claimant} (mem : e ∈ (waterFill c fuel rem es).1) :
    ∃ o ∈ es, Raised o e := by
  induction fuel generalizing rem es with
  | zero => exact ⟨e, mem, .refl e⟩
  | succ fuel ih =>
    by_cases none : satisfiedIn c rem es = []
    · rw [waterFill_last none] at mem
      obtain ⟨o, old, rfl⟩ := List.mem_map.1 mem
      refine ⟨o, old, ?_⟩
      split
      · next wants =>
        have more : ¬ wanted o ≤ shareOf rem (weightSum c es) o := fun covered =>
          List.filter_eq_nil_iff.1 none o old (isSatisfied_iff.2 ⟨wants, covered⟩)
        have all := wanted_add wants
        exact raised_to wants (Nat.le_add_right _ _) (by omega)
      · exact .refl o
    · rw [waterFill_next none] at mem
      obtain ⟨m, mem', raised⟩ := ih mem
      obtain ⟨o, old, rfl⟩ := List.mem_map.1 mem'
      refine ⟨o, old, Raised.trans ?_ raised⟩
      split
      · next satisfied => exact raised_demand (isSatisfied_iff.1 satisfied).1
      · exact .refl o

/-- The entries that want excess are those that a round leaves with those that it satisfies. -/
theorem length_wanting_next (c rem w : Nat) (es : List Claimant) :
    ((es.map fun e => if isSatisfied c rem w e then { e with g := e.d } else e).filter (wantsExcess c)).length
        + (es.filter (isSatisfied c rem w)).length = (es.filter (wantsExcess c)).length := by
  induction es with
  | nil => rfl
  | cons e es ih =>
    have full : wantsExcess c { e with g := e.d } = false := by simp [wantsExcess]
    cases satisfied : isSatisfied c rem w e with
    | true =>
      have wants := (isSatisfied_iff.1 satisfied).1
      simp [satisfied, full, wants] at ih ⊢
      omega
    | false => cases wants : wantsExcess c e <;> simp [satisfied, wants] at ih ⊢ <;> omega

/-- With none left that want excess nothing changes. -/
theorem waterFill_done {c rem : Nat} {es : List Claimant} (done : es.filter (wantsExcess c) = []) (fuel : Nat) :
    waterFill c fuel rem es = (es, rem) := by
  cases fuel with
  | zero => rfl
  | succ fuel =>
    have rest : ∀ e ∈ es, ¬ wantsExcess c e = true := List.filter_eq_nil_iff.1 done
    have none : satisfiedIn c rem es = [] := List.filter_eq_nil_iff.2 fun e mem h => rest e mem (isSatisfied_iff.1 h).1
    rw [waterFill_last none, done]
    exact Prod.ext ((List.map_congr_left fun e mem => if_neg (rest e mem)).trans (List.map_id es)) rfl

/-- As many rounds as entries want excess are enough (R98): each but the last satisfies one at least. -/
theorem waterFill_enough {c fuel rem : Nat} {es : List Claimant} (few : (es.filter (wantsExcess c)).length ≤ fuel) (more : Nat) :
    waterFill c (fuel + more) rem es = waterFill c fuel rem es := by
  induction fuel generalizing rem es with
  | zero =>
    have done : es.filter (wantsExcess c) = [] := List.length_eq_zero_iff.1 (Nat.le_zero.1 few)
    rw [waterFill_done done, waterFill_done done]
  | succ fuel ih =>
    rw [Nat.succ_add]
    by_cases none : satisfiedIn c rem es = []
    · rw [waterFill_last none, waterFill_last none]
    · rw [waterFill_next none, waterFill_next none]
      refine ih ?_
      have left := length_wanting_next c rem (weightSum c es) es
      have some : 0 < (satisfiedIn c rem es).length := List.length_pos_iff.2 none
      change _ + (satisfiedIn c rem es).length = _ at left
      omega

/-! ### The excess pass (R96) -/

theorem excessClass_stopped {x : Division} (c : Nat) (h : x.stopped = true) : excessClass x c = x := by
  rw [excessClass, if_pos h]

theorem excessClass_fits {x : Division} {c : Nat} (h : x.stopped = false) (fits : wantedSum c x.entries ≤ x.rem) :
    excessClass x c =
      ⟨x.entries.map fun e => if wantsExcess c e then { e with g := e.d } else e, x.rem - wantedSum c x.entries, false⟩ := by
  rw [excessClass, if_neg (by simp [h])]
  exact if_pos fits

theorem excessClass_filled {x : Division} {c : Nat} (h : x.stopped = false) (short : x.rem < wantedSum c x.entries) :
    excessClass x c = ⟨(waterFill c 8 x.rem x.entries).1, (waterFill c 8 x.rem x.entries).2, true⟩ := by
  rw [excessClass, if_neg (by simp [h])]
  exact if_neg (Nat.not_le.2 short)

/-- One class of the pass: it stood still, all that it wants fits, or it is water-filled and the pass ends. -/
theorem excessClass_cases (x : Division) (c : Nat) :
    x.stopped = true ∧ excessClass x c = x
      ∨ wantedSum c x.entries ≤ x.rem ∧ excessClass x c =
          ⟨x.entries.map fun e => if wantsExcess c e then { e with g := e.d } else e, x.rem - wantedSum c x.entries, false⟩
      ∨ x.rem < wantedSum c x.entries ∧ excessClass x c =
          ⟨(waterFill c 8 x.rem x.entries).1, (waterFill c 8 x.rem x.entries).2, true⟩ := by
  cases h : x.stopped with
  | true => exact .inl ⟨rfl, excessClass_stopped c h⟩
  | false =>
    rcases Nat.lt_or_ge x.rem (wantedSum c x.entries) with short | fits
    · exact .inr (.inr ⟨short, excessClass_filled h short⟩)
    · exact .inr (.inl ⟨fits, excessClass_fits h fits⟩)

theorem excessClass_worth_le (x : Division) (c : Nat) : (excessClass x c).worth ≤ x.worth := by
  rcases excessClass_cases x c with ⟨-, h⟩ | ⟨fits, h⟩ | ⟨-, h⟩ <;> rw [h]
  · unfold Division.worth
    dsimp only
    rw [sum_grants_raised x.entries fun e _ h => (wanted_add h).symm]
    change _ + wantedSum c x.entries + _ ≤ _
    omega
  · exact waterFill_worth_le c 8 x.rem x.entries

theorem raised_excessClass {x : Division} {c : Nat} {e : Claimant} (mem : e ∈ (excessClass x c).entries) :
    ∃ o ∈ x.entries, Raised o e := by
  rcases excessClass_cases x c with ⟨-, h⟩ | ⟨-, h⟩ | ⟨-, h⟩ <;> rw [h] at mem
  · exact ⟨e, mem, .refl e⟩
  · obtain ⟨o, old, rfl⟩ := List.mem_map.1 mem
    refine ⟨o, old, ?_⟩
    split
    · next wants => exact raised_demand wants
    · exact .refl o
  · exact raised_waterFill mem

theorem excessPass_eq (x : Division) : excessPass x = excessClass (excessClass (excessClass x 0) 1) 2 := rfl

theorem excessPass_worth_le (x : Division) : (excessPass x).worth ≤ x.worth :=
  (excessClass_worth_le _ 2).trans ((excessClass_worth_le _ 1).trans (excessClass_worth_le x 0))

theorem raised_excessPass {x : Division} {e : Claimant} (mem : e ∈ (excessPass x).entries) : ∃ o ∈ x.entries, Raised o e := by
  obtain ⟨b, mem, up⟩ := raised_excessClass mem
  obtain ⟨a, mem, up'⟩ := raised_excessClass mem
  obtain ⟨o, mem, up''⟩ := raised_excessClass mem
  exact ⟨o, mem, (up''.trans up').trans up⟩

/-! ### The allocation of a table (R90, R91, R93) -/

theorem claimant_g (p : Peer) : (claimant p).g = 0 := by
  unfold claimant
  split <;> rfl

theorem claimant_station (p : Peer) : (claimant p).station = p.station := by
  unfold claimant
  split <;> rfl

/-- The floor part of an entry is within its effective demand (R90, R91). -/
theorem claimant_f_le_d (p : Peer) : (claimant p).f ≤ (claimant p).d := by
  unfold claimant
  split
  · exact min_le_left _ _
  · exact le_rfl

/-- The effective demand of a FRESH entry is within its ceiling (R90). -/
theorem claimant_d_le {p : Peer} (fresh : p.freshness = .fresh) : (claimant p).d ≤ p.fields.ceiling := by
  unfold claimant
  rw [fresh]
  exact min_le_right _ _

theorem claimants_start (peers : List Peer) : ∀ e ∈ peers.map claimant, e.g = 0 := by
  intro e mem
  obtain ⟨p, -, rfl⟩ := List.mem_map.1 mem
  exact claimant_g p

theorem floorsPass_claimants (budget : Nat) (peers : List Peer) :
    WithinFloors (peers.map claimant) (floorsPass budget (peers.map claimant)) :=
  floorsPass_withinFloors (claimants_start peers) budget

/-- The allocation: the floors pass alone where it stopped, else the excess pass after it. -/
theorem allocate_cases (budget : Nat) (es : List Claimant) :
    (floorsPass budget es).stopped = true ∧ allocate budget es = ((floorsPass budget es).entries, true)
      ∨ (floorsPass budget es).stopped = false ∧ allocate budget es = ((excessPass (floorsPass budget es)).entries, false) := by
  unfold allocate
  cases on : (floorsPass budget es).stopped with
  | true => exact .inl ⟨rfl, if_pos on⟩
  | false => exact .inr ⟨rfl, if_neg (by simp [on])⟩

/-- An entry of the allocation is one of the floors pass, raised by the excess pass. -/
theorem allocate_entry {budget : Nat} {es : List Claimant} {e : Claimant} (mem : e ∈ (allocate budget es).1) :
    ∃ m ∈ (floorsPass budget es).entries, Raised m e := by
  rcases allocate_cases budget es with ⟨-, h⟩ | ⟨-, h⟩ <;> rw [h] at mem
  · exact ⟨e, mem, .refl e⟩
  · exact raised_excessPass mem

/-- What an entry of the allocation has: its grant alone is set, within its effective demand, and within its floor part where it
takes no excess. -/
theorem allocate_claimant {budget : Nat} {peers : List Peer} {e : Claimant} (mem : e ∈ (allocate budget (peers.map claimant)).1) :
    ∃ p ∈ peers, e = { claimant p with g := e.g } ∧ e.g ≤ (claimant p).d
      ∧ ((claimant p).takesExcess = false → e.g ≤ (claimant p).f) := by
  obtain ⟨m, floors, g, rfl, -, within, still⟩ := allocate_entry mem
  obtain ⟨o, start, eq, le⟩ := floorsPass_claimants budget peers m floors
  obtain ⟨p, listed, rfl⟩ := List.mem_map.1 start
  rw [eq] at within still ⊢
  exact ⟨p, listed, rfl, within (le.trans (claimant_f_le_d p)), fun stale => (still stale).le.trans le⟩

/-! ### The statements -/

/-- Settles O46: no class of either pass gives more than it takes from Rem. -/
theorem allocationWithinBudget : Obligations.AllocationWithinBudget := by
  intro budget peers
  obtain ⟨es, hes⟩ : ∃ es, es = peers.map claimant := ⟨_, rfl⟩
  have start : (es.map (·.g)).sum = 0 := by
    rw [hes]
    exact List.sum_eq_zero fun g mem => by
      obtain ⟨e, listed, rfl⟩ := List.mem_map.1 mem
      exact claimants_start peers e (hes ▸ listed)
  have floors : (floorsPass budget es).worth ≤ budget := by
    have within := floorsPass_worth_le budget es
    omega
  have excess := (excessPass_worth_le (floorsPass budget es)).trans floors
  unfold Division.worth at floors excess
  rw [← hes]
  rcases allocate_cases budget es with ⟨-, h⟩ | ⟨-, h⟩ <;> rw [h] <;> dsimp only <;> omega

/-- Settles O47: the floors pass gives at most the floor part, the excess pass raises within the demand. -/
theorem grantsBetweenFloorAndDemand : Obligations.GrantsBetweenFloorAndDemand := by
  intro budget peers e mem
  have whole : (allocate budget (peers.map claimant)).2 = false → e.cls ≤ 2 → e.f ≤ e.g := by
    obtain ⟨m, floors, g, rfl, up, -⟩ := allocate_entry mem
    intro enough low
    rcases allocate_cases budget (peers.map claimant) with ⟨-, h⟩ | ⟨on, -⟩
    · rw [h] at enough
      cases enough
    · exact (floorsPass_wholeBelow le_rfl on m floors (Nat.lt_succ_of_le low)).ge.trans up
  obtain ⟨p, -, eq, within, still⟩ := allocate_claimant mem
  refine ⟨?_, ?_, whole⟩ <;> rw [eq]
  · exact within
  · exact still

/-- The test of the statement for an entry that wants excess. -/
theorem wantsExcess_eq (c : Nat) : wantsExcess c = fun e => decide (e.cls = c ∧ e.takesExcess = true ∧ e.g < e.d) := by
  funext e
  rw [Bool.eq_iff_iff, wantsExcess_iff, decide_eq_true_iff]

/-- Settles O48: a round satisfies one entry at least or is the last; the rest is the definition of the pass. -/
theorem waterFillingEndsInEightRounds : Obligations.WaterFillingEndsInEightRounds := by
  refine ⟨fun c rem more es few _ => ?_, fun c fuel rem es => ?_, fun c x => ?_, excessPass_eq, fun budget peers => rfl⟩
  · exact waterFill_enough ((List.length_filter_le _ _).trans few) more
  · rw [← wantsExcess_eq]
    exact ⟨waterFill_last, waterFill_next⟩
  · rw [← wantsExcess_eq]
    exact ⟨excessClass_stopped c, excessClass_fits, excessClass_filled⟩

/-- Settles O49: each class of the floors pass sets the grants of its own entries, within their floor parts. -/
theorem floorsClassRule : Obligations.FloorsClassRule := by
  refine ⟨fun c x on => ⟨floorsClass_whole on, fun short => ?_, floorsClass_rem on, fun e mem cls => ?_⟩,
    fun budget peers => ⟨floorsPass_eq budget _, fun e mem => ?_, fun n le on e mem low => ?_⟩⟩
  · rw [floorsClass_short on short]
    exact ⟨rfl, rfl⟩
  · rcases floorsClass_entry mem with ⟨-, other⟩ | ⟨-, o, -, g, rfl, le, -⟩
    · exact absurd cls (other on)
    · exact le
  · obtain ⟨o, -, eq, within⟩ := floorsPass_claimants budget peers e mem
    rw [eq]
    exact within
  · obtain ⟨o, mem', eq, -⟩ := floorsPass_claimants budget peers e mem
    obtain ⟨p, -, rfl⟩ := List.mem_map.1 mem'
    refine ⟨floorsPass_wholeBelow le on e mem low, ?_⟩
    rw [eq]
    exact claimant_f_le_d p

end Sys2Proof.Machine
end

section
/-!
The limit output (R101): what the duty says at a time in the PWM period.
-/
namespace Sys2Proof.Machine

/-- In a period of 1000 µs the output is high while the time in it is short of the duty. -/
theorem dutyNotReached_within {sh : Share} {us : Nat} (elapsed : sh.limitElapsed = some us) (within : us < 1000) :
    dutyNotReached sh = decide (us < limitDuty sh) := by
  rw [dutyNotReached, elapsed]
  by_cases full : 1000 ≤ limitDuty sh
  · have short : us < limitDuty sh := by omega
    simp [full, short]
  · simp [full]

/-- A period that has run its 1000 µs gives way to the next. -/
theorem openLimitPeriod_due {s : State} (elapsed : s.share.limitElapsed = some 1000) :
    openLimitPeriod s = s.withShare { s.share with limitElapsed := some 0, limitHigh := decide (0 < limitDuty s.share) } := by
  have opens := dutyNotReached_within (sh := { s.share with limitElapsed := some 0 }) rfl (by decide)
  rw [openLimitPeriod]
  dsimp only
  rw [elapsed]
  exact congrArg (fun high => s.withShare { s.share with limitElapsed := some 0, limitHigh := high }) opens

/-- Within a period the output stays high up to the duty only. -/
theorem reachLimitDuty_within {s : State} {us : Nat} (elapsed : s.share.limitElapsed = some us) (within : us < 1000) :
    reachLimitDuty s = s.withShare { s.share with limitHigh := s.share.limitHigh && decide (us < limitDuty s.share) } := by
  rw [reachLimitDuty, settleLimit, dutyNotReached_within elapsed within]

/-- Settles O52: the time that passes brings the period to its end, or to a time within it. -/
theorem limitOutputFollowsDuty : Obligations.LimitOutputFollowsDuty := by
  intro dt us s working runs
  have elapsed : (advance dt s).share.limitElapsed = some (us + dt) := by rw [advance_share, runs]; rfl
  refine ⟨fun ends => ?_, fun within => ?_⟩
  · rw [ends] at elapsed
    refine (perform_working dt openLimitPeriod working).trans ?_
    rw [openLimitPeriod_due elapsed]
    rfl
  · refine (perform_working dt reachLimitDuty working).trans ?_
    rw [reachLimitDuty_within elapsed within, advance_share, runs]
    rfl

end Sys2Proof.Machine
end

section
/-!
The law of the grant (R87, R89, R99, R105 to R108, R112): what each operation does to the floor, the ceiling, the grant in force and the
pending grant.
-/
namespace Sys2Proof.Machine

/-! ### Keeping the law -/

/-- From the law of the grant the law follows, with a grant in force that is no higher. -/
def Confined (s t : State) : Prop := GrantLaw s → GrantLaw t ∧ t.share.grant ≤ s.share.grant

/-- The floor, the ceiling, the grant in force and the pending grant are the same. -/
def SameFigures (s t : State) : Prop :=
  t.share.grant = s.share.grant ∧ t.share.pendingGrant = s.share.pendingGrant ∧ t.share.ceiling = s.share.ceiling
    ∧ t.share.floor = s.share.floor

section
variable {s t u : State}

theorem SameFigures.of_share (h : t.share = s.share) : SameFigures s t := by rw [SameFigures, h]; exact ⟨rfl, rfl, rfl, rfl⟩

theorem Confined.refl : Confined s s := fun law => ⟨law, le_rfl⟩

theorem Confined.trans (h : Confined s t) (k : Confined t u) : Confined s u := by
  intro law
  obtain ⟨lawT, leT⟩ := h law
  obtain ⟨lawU, leU⟩ := k lawT
  exact ⟨lawU, leU.trans leT⟩

theorem grantHeld_zero (s : State) : grantHeld s 0 :=
  ⟨Nat.zero_le _, fun _ => Nat.zero_le _, fun _ => Nat.zero_le _, fun _ => rfl, fun _ => rfl⟩

/-- What may be held may be held lower. -/
theorem grantHeld.lower {g g' : Nat} (h : grantHeld s g) (le : g' ≤ g) : grantHeld s g' := by
  obtain ⟨ceiling, gap, silenced, dead, listen⟩ := h
  exact ⟨le.trans ceiling, fun view => le.trans (gap view), fun run => le.trans (silenced run),
    fun no => Nat.le_zero.1 (le.trans (dead no).le), fun run => Nat.le_zero.1 (le.trans (listen run).le)⟩

/-- The figures stand, and the view and the run state ask for no more than before. -/
theorem Confined.of_eased (figures : SameFigures s t) (same : record t = record s) (view : t.supply.view = .gap → s.supply.view = .gap)
    (run : t.loader.run = s.loader.run ∨ t.loader.run = .running) : Confined s t := by
  obtain ⟨grant, pending, ceiling, floor⟩ := figures
  have held : ∀ g, grantHeld s g → grantHeld t g := by
    intro g ⟨top, gap, silenced, dead, listen⟩
    unfold grantHeld isSilenced isLive at *
    rw [ceiling, floor, same]
    rcases run with run | run <;> rw [run]
    · exact ⟨top, gap ∘ view, silenced, dead, listen⟩
    · exact ⟨top, gap ∘ view, nofun, nofun, nofun⟩
  intro ⟨order, now, waits⟩
  refine ⟨⟨by rw [floor, ceiling]; exact order, by rw [grant]; exact held _ now, fun p some => ?_⟩, grant.le⟩
  obtain ⟨may, step⟩ := waits p (pending ▸ some)
  rw [grant, same]
  exact ⟨held p may, step⟩

/-- Nothing that the law looks at. -/
theorem Confined.of_blocks (loader : t.loader = s.loader) (view : t.supply.view = s.supply.view) (share : t.share = s.share) :
    Confined s t :=
  .of_eased (.of_share share) (record_of_loader loader) (by rw [view]; exact id) (.inl (by rw [loader]))

/-- The figures stand at a station whose blocks did not work: all that it holds is 0. -/
theorem Confined.of_dead (figures : SameFigures s t) (dead : isLive s = false) : Confined s t := by
  obtain ⟨grant, pending, ceiling, floor⟩ := figures
  intro ⟨order, ⟨_, _, _, zero, _⟩, waits⟩
  refine ⟨⟨by rw [floor, ceiling]; exact order, by rw [grant, zero dead]; exact grantHeld_zero t, fun p some => ?_⟩, grant.le⟩
  obtain ⟨⟨_, _, _, none, _⟩, _⟩ := waits p (pending ▸ some)
  rw [none dead]
  exact ⟨grantHeld_zero t, Nat.zero_le _⟩

/-- The grant in force is lowered to what the station may hold, and none is pending. -/
theorem Confined.of_lowered (order : GrantLaw s → t.share.floor ≤ t.share.ceiling) (held : GrantLaw s → grantHeld t t.share.grant)
    (le : t.share.grant ≤ s.share.grant) (none : t.share.pendingGrant = none) : Confined s t :=
  fun law => ⟨⟨order law, held law, fun p some => by rw [none] at some; cases some⟩, le⟩

/-- At the reset values of the Share Engine nothing is granted. -/
theorem Confined.of_reset (share : t.share = Share.afterReset) : Confined s t := by
  have zero : t.share.grant = 0 := by rw [share]; rfl
  refine .of_lowered (fun _ => ?_) (fun _ => ?_) (zero.le.trans (Nat.zero_le _)) (by rw [share]; rfl)
  · rw [share]
    exact le_rfl
  · rw [zero]
    exact grantHeld_zero t

/-! ### The view (R14, R17, R105, R106, R111) -/

theorem confined_enterGap (s : State) : Confined s (enterGap s) := by
  have ceiling : (enterGap s).share.ceiling = s.share.ceiling ∧ (enterGap s).share.floor = s.share.floor := ⟨rfl, rfl⟩
  have loader : (enterGap s).loader = s.loader := by simp
  obtain ⟨-, -, -, grant, pending, -⟩ := enterGap_spec s
  have le : gapGrant s ≤ s.share.grant := min_le_left _ _
  refine .of_lowered (fun ⟨order, _⟩ => ?_) (fun ⟨_, held, _⟩ => ?_) (grant.le.trans le) pending
  · rw [ceiling.1, ceiling.2]
    exact order
  · obtain ⟨top, -, silenced, dead, listen⟩ := held.lower le
    rw [grant, grantHeld, ceiling.1, ceiling.2, isSilenced_of_loader loader, isLive_of_loader loader, record_of_loader loader, loader]
    exact ⟨top, fun _ => min_le_right _ _, silenced, dead, listen⟩

theorem confined_enterOffLine (s : State) : Confined s (enterOffLine s) := by
  have loader : (enterOffLine s).loader = s.loader := by simp
  obtain ⟨supply, -, -, -, grant, pending, ceiling, floor, -⟩ := enterOffLine_spec s
  have order : (offWire s).2 ≤ (offWire s).1 := min_le_right _ _
  have le : min s.share.grant (offWire s).2 ≤ s.share.grant := min_le_left _ _
  have low : min s.share.grant (offWire s).2 ≤ (offWire s).2 := min_le_right _ _
  refine .of_lowered (fun _ => ?_) (fun ⟨_, held, _⟩ => ?_) (grant.le.trans le) pending
  · rw [ceiling, floor]
    exact order
  · obtain ⟨-, -, -, dead, listen⟩ := held.lower le
    rw [grant, grantHeld, ceiling, floor, isSilenced_of_loader loader, isLive_of_loader loader, loader, supply]
    exact ⟨low.trans order, nofun, fun _ => low, dead, listen⟩

theorem confined_enterRestoring (s : State) : Confined s (enterRestoring s) := by
  have loader : (enterRestoring s).loader = s.loader := by simp
  refine .of_eased (.of_share (by simp)) (record_of_loader loader) (fun gap => ?_) (.inl (by rw [loader]))
  obtain ⟨⟨-, supply, -⟩ | ⟨-, supply, -⟩, -⟩ := enterRestoring_spec s <;> rw [supply] at gap <;> cases gap

theorem confined_examineExit (s : State) : Confined s (examineExit s) := by
  rcases examineExit_cases s with h | ⟨-, -, -, -, h⟩ <;> rw [h]
  · exact .refl
  · exact confined_enterRestoring s

theorem confined_releaseRecords (p : GapRecord → Bool) (s : State) : Confined s (releaseRecords p s) := by
  rcases releaseRecords_cases p s with ⟨-, h⟩ | ⟨t, rfl, h⟩
  · rw [h]
    exact .refl
  · have released : Confined s (s.withSupply { s.supply with records := s.supply.records.filter fun x => !p x }) :=
      .of_blocks rfl rfl rfl
    rcases h with h | h <;> rw [h]
    · exact released
    · exact released.trans (confined_examineExit _)

/-- An event of the Alarm Table ends as the table says: OFF_LINE may be entered or left (R17, R18). -/
theorem Confined.event (h : Confined s t) (before : List AlarmEntry) : Confined s (endAlarmEvent before t) := by
  have done : Confined s (settled before t) := h.trans (.of_blocks (by simp) (by simp) (by simp))
  rcases endAlarmEvent_cases before t with ⟨-, e⟩ | ⟨e, -⟩ | ⟨e, -⟩ | ⟨e, -⟩ <;> rw [e]
  · exact h
  · exact done
  · exact done.trans (confined_enterOffLine _)
  · exact done.trans (confined_enterRestoring _)

/-- An event whose changes leave all that the law looks at. -/
theorem confined_alarmEvent {f : State → State} (loader : (f s).loader = s.loader) (view : (f s).supply.view = s.supply.view)
    (share : (f s).share = s.share) : Confined s (alarmEvent f s) :=
  (Confined.of_blocks loader view share).event s.alarms.table

/-! ### The hold to the floor (R112) -/

/-- The grant in force is lowered to the floor and the pending grant falls away, where the station holds to its floor from then on. -/
theorem Confined.of_floored (grant : t.share.grant = min s.share.grant s.share.floor) (pending : t.share.pendingGrant = none)
    (same : t.share.ceiling = s.share.ceiling ∧ t.share.floor = s.share.floor) (record : record t = record s)
    (view : t.supply.view = s.supply.view) (run : isSilenced t = true) : Confined s t := by
  obtain ⟨ceiling, floor⟩ := same
  have le : min s.share.grant s.share.floor ≤ s.share.grant := min_le_left _ _
  refine .of_lowered (fun ⟨order, _⟩ => by rw [ceiling, floor]; exact order) (fun ⟨_, held, _⟩ => ?_) (grant.le.trans le) pending
  obtain ⟨top, gap, -⟩ := held.lower le
  rw [grant, grantHeld, ceiling, floor, record, view]
  rw [isSilenced, Bool.or_eq_true, beq_iff_eq, beq_iff_eq] at run
  refine ⟨top, gap, fun _ => min_le_right _ _, ?_, ?_⟩ <;> rcases run with run | run <;> simp [isLive, run]

theorem confined_enterSuspended (s : State) : Confined s (enterSuspended s) := by
  obtain ⟨loader, -, grant, pending, -⟩ := enterSuspended_spec s
  refine .of_floored grant pending ⟨by simp [enterSuspended], by simp [enterSuspended]⟩ ?_ (by simp) ?_
  · rw [record, loader, record]
  · rw [isSilenced, loader]
    rfl

theorem confined_clashed (s : State) : Confined s (clashed s) := by
  obtain ⟨loader, -, grant, pending, -⟩ := clashed_spec s
  refine .of_floored grant pending ⟨by simp [clashed], by simp [clashed]⟩ ?_ (by simp [clashed]) ?_
  · rw [record, loader, record]
  · rw [isSilenced, loader]
    rfl

end

end Sys2Proof.Machine
end

section
/-!
The law of the grant over the operations of Supply Watch, Pole Watch, the Alarm Table and the station line: each keeps it, and none
raises the grant in force.
-/
namespace Sys2Proof.Machine

section
variable {s t : State}

/-! ### Supply Watch and Pole Watch -/

theorem confined_viewAfterWindow (loss became : Bool) (s : State) : Confined s (viewAfterWindow loss became s) := by
  rcases viewAfterWindow_cases loss became s with ⟨-, -, h⟩ | ⟨-, -, h⟩ | ⟨-, -, h⟩ <;> rw [h]
  · exact confined_enterGap s
  · exact confined_examineExit s
  · exact .refl

theorem confined_evaluate (i : WindowInput) (loss became : Bool) (prior : View) (s : State) :
    Confined s (evaluate i loss became prior s) := by
  have changes : Confined s (evaluated i s) := .of_blocks (by simp) (by simp) (by simp)
  rw [evaluate_eq]
  exact (changes.event s.alarms.table).trans (.of_blocks (by simp) (by simp) (by simp))

theorem confined_completeWindow (i : WindowInput) (s : State) : Confined s (completeWindow i s) := by
  have measured : Confined s (measure i.edges s) := .of_blocks (by simp) (by rw [measure_supply]) (by simp)
  by_cases due : windowDue s = true
  · cases col : isCol s with
    | false =>
      rw [completeWindow_other due col]
      exact measured.trans (confined_viewAfterWindow _ _ _)
    | true =>
      rw [completeWindow_col due col]
      exact (measured.trans (confined_evaluate i _ _ _ _)).trans (confined_viewAfterWindow _ _ _)
  · rw [completeWindow, if_neg due]
    exact .refl

/-- A row that names a part of a window completion is the whole of it, or nothing. -/
theorem Confined.of_window {i : WindowInput} (h : t = completeWindow i s ∨ t = s) : Confined s t := by
  rcases h with rfl | rfl
  · exact confined_completeWindow i s
  · exact .refl

theorem confined_confirmRewire (i : WindowInput) (id : PoleId) (s : State) : Confined s (confirmRewire i id s) :=
  .of_window (ite_eq_or_eq _ _ _)

theorem confined_confirmSuspicion (i : WindowInput) (id : PoleId) (s : State) : Confined s (confirmSuspicion i id s) :=
  .of_window (ite_eq_or_eq _ _ _)

theorem confined_timeOutRetrieve (i : WindowInput) (id : PoleId) (s : State) : Confined s (timeOutRetrieve i id s) :=
  .of_window (ite_eq_or_eq _ _ _)

theorem confined_gapStartHeard (src : Station) (serial : Byte) (e : Peer) (s : State) :
    Confined s (gapStartHeard src serial e s) := by
  have recorded : Confined s (if e.freshness = .fresh then
      s.withSupply { s.supply with records := putRecord ⟨src, serial⟩ s.supply.records } else s) := by
    split
    · exact .of_blocks rfl rfl rfl
    · exact .refl
  have entered : ∀ u : State, Confined u (if u.supply.view = .onLine ∨ u.supply.view = .restoring then enterGap u else u) := by
    intro u
    split
    · exact confined_enterGap u
    · exact .refl
  exact recorded.trans (entered _)

theorem confined_gapHeard (src : Station) (g : GapContent) (s : State) : Confined s (gapHeard src g s) := by
  unfold gapHeard
  split
  · exact .refl
  · split
    · split
      · exact confined_gapStartHeard _ _ _ s
      · exact confined_releaseRecords _ s
    · exact .refl

/-- At the expiry of the restore delay the view alone moves, with the grant as it stands (R19, R111). -/
theorem confined_endRestore (s : State) : Confined s (endRestore s) := by
  unfold endRestore
  split
  · exact .of_eased (.of_share (by simp)) (record_of_loader (by simp)) nofun (.inl (by simp))
  · exact .refl

theorem confined_reachGapLimit (s : State) : Confined s (reachGapLimit s) := by
  unfold reachGapLimit
  split
  · have entered : Confined s (alarmEvent lineDeadRaise (enterOffLine s)) :=
      (confined_enterOffLine s).trans (confined_alarmEvent (by simp) (by simp) (by simp))
    dsimp only
    split
    · exact entered
    · exact entered.trans (confined_examineExit _)
  · exact .refl

theorem confined_releasePole (id : PoleId) (s : State) : Confined s (releasePole id s) := by
  have released : ∀ w : PoleWatch, Confined s (s.withPoles w) := fun _ => .of_blocks rfl rfl rfl
  exact (released _).trans (confined_alarmEvent (by simp) (by simp) (by simp))

/-! ### The Alarm Table -/

theorem confined_alarmHeard (src : Station) (c : AlarmContent) (s : State) : Confined s (alarmHeard src c s) := by
  unfold alarmHeard
  split
  · exact confined_alarmEvent (by simp) (by simp) (by simp)
  · exact .refl

theorem confined_summaryHeard (o : Station) (summary : List SummaryItem) (rejoin : Bool) (s : State) :
    Confined s (summaryHeard o summary rejoin s) :=
  confined_alarmEvent (by simp) (by simp) (by simp)

theorem confined_ackHeard (c : AckContent) (s : State) : Confined s (ackHeard c s) := by
  unfold ackHeard
  split
  · exact confined_alarmEvent (by simp) (by simp) (by simp)
  · exact .refl

theorem confined_acknowledge (s : State) : Confined s (acknowledge s).1 := by
  unfold acknowledge
  split
  · exact .refl
  · next e _ =>
    split
    · exact confined_alarmEvent (by simp) (by simp) (by simp)
    · split
      · have joined : Confined s (joinAck ⟨e.origin, e.number⟩ s) := .of_blocks rfl rfl rfl
        exact joined.trans (confined_alarmEvent (by simp) (by simp) (by simp))
      · exact .refl

theorem confined_pressButton (stood : Nat) (s : State) : Confined s (pressButton stood s) := by
  have latched : ∀ a : Alarms, Confined s (s.withAlarms a) := fun _ => .of_blocks rfl rfl rfl
  unfold pressButton
  split
  · exact (latched _).trans (confined_acknowledge _)
  · exact .refl

/-! ### The station line -/

theorem confined_abortAttempt (bit : Nat) (s : State) : Confined s (abortAttempt bit s) := by
  cases sending : s.line.attempt with
  | none =>
    rw [abortAttempt, sending]
    exact .refl
  | some a =>
    by_cases inside : bit + 1 < 10 * a.bytes.length
    · have returned : Confined s (aborted bit a s) := .of_blocks (by simp [aborted]) (by simp [aborted]) (by simp [aborted])
      rw [abortAttempt_aborted sending inside]
      refine Confined.event ?_ _
      split
      · exact returned.trans (confined_enterSuspended _)
      · exact returned
    · rw [abortAttempt, sending]
      dsimp only
      rw [if_neg inside]
      exact .refl

theorem confined_succeedAttempt (s : State) : Confined s (succeedAttempt s) := by
  cases sending : s.line.attempt with
  | none =>
    rw [succeedAttempt, sending]
    exact .refl
  | some a =>
    rw [succeedAttempt_eq sending]
    exact (Confined.of_blocks (by simp) (by simp) (by simp)).event _

/-- The end of a suspension ends the hold, and moves no figure (R67). -/
theorem confined_endSuspension (s : State) : Confined s (endSuspension s) := by
  unfold endSuspension
  split
  · exact .of_eased (.of_share rfl) rfl id (.inr rfl)
  · exact .refl

theorem confined_declareClash (s : State) : Confined s (declareClash s) := by
  by_cases run : s.loader.run = .clash
  · rw [declareClash, if_pos run]
    exact .refl
  · rw [declareClash_eq run]
    exact (confined_clashed s).event _

theorem confined_applyState (src : Station) (f : StateFields) (rejoin wasCol : Bool) (s : State) :
    Confined s (applyState src f rejoin wasCol s) := by
  have put : ∀ peers : List Peer, Confined s (s.withPeers peers) := fun _ => .of_blocks rfl rfl rfl
  unfold applyState
  dsimp only
  split
  · exact (put _).trans (confined_summaryHeard _ _ _ _)
  · split
    · exact (put _).trans (confined_summaryHeard _ _ _ _)
    · exact put _

theorem confined_stateHeard (src : Station) (f : StateFields) (s : State) : Confined s (stateHeard src f s) := by
  have joined : Confined s (raise .peerJoined s) := .of_blocks rfl rfl rfl
  unfold stateHeard
  split
  · exact joined.trans (confined_applyState _ _ _ _ _)
  · split
    · exact confined_applyState _ _ _ _ s
    · split
      · exact confined_applyState _ _ _ _ s
      · exact .refl

theorem confined_handOn (f : Frame) (s : State) : Confined s (handOn f s) := by
  unfold handOn
  split
  · exact confined_declareClash s
  · split
    · exact confined_stateHeard _ _ s
    · exact confined_alarmHeard _ _ s
    · exact confined_ackHeard _ s
    · exact confined_gapHeard _ _ s

theorem confined_withLine (l : Line) (s : State) : Confined s (s.withLine l) := .of_blocks rfl rfl rfl

theorem confined_settleReception (frame : List Byte) (r : Reception) (s : State) : Confined s (settleReception frame r s) := by
  cases r with
  | incomplete => exact confined_withLine _ s
  | fault _ => exact confined_withLine _ s
  | good f => exact (confined_withLine { s.line with rx := .hunting } s).trans (confined_handOn f _)

theorem confined_receive (idle : Nat) (bytes : List Byte) (framing : Bool) (s : State) :
    Confined s (receive idle bytes framing s) := by
  unfold receive
  split
  · dsimp only
    split
    · exact .of_blocks (by simp) (by simp) (by simp)
    · split
      · exact confined_withLine _ s
      · next l _ => exact (confined_withLine { l with idle := 0 } s).trans (confined_settleReception _ _ _)
  · exact .refl

end

end Sys2Proof.Machine
end

section
/-!
A period boundary: the pending grant is taken, the ceiling and the floor settle, and the next pending grant is formed within them
(R87, R89, R99, R107, R108, R112).
-/
namespace Sys2Proof.Machine

section
variable {s t u : State}

/-! ### The stages -/

/-- From the law of the grant the law follows, with a grant in force that is a ramp step higher at most. -/
def Ramps (s t : State) : Prop := GrantLaw s → GrantLaw t ∧ t.share.grant ≤ s.share.grant + (record s).rampStep

theorem Confined.ramps (h : Confined s t) : Ramps s t := by
  intro law
  obtain ⟨lawT, le⟩ := h law
  exact ⟨lawT, le.trans (Nat.le_add_right _ _)⟩

/-- Of the parts of a boundary one ramps; those around it raise nothing. -/
theorem Ramps.after (k : Ramps t u) (h : Confined s t) (same : record t = record s) : Ramps s u := by
  intro law
  obtain ⟨lawT, le⟩ := h law
  obtain ⟨lawU, le'⟩ := k lawT
  rw [same] at le'
  exact ⟨lawU, le'.trans (Nat.add_le_add_right le _)⟩

theorem Ramps.trans (h : Ramps s t) (k : Confined t u) : Ramps s u := by
  intro law
  obtain ⟨lawT, le⟩ := h law
  obtain ⟨lawU, le'⟩ := k lawT
  exact ⟨lawU, le'.trans le⟩

/-- The listen phase ends with nothing granted (R158). -/
theorem confined_endListen (s : State) : Confined s (endListen s) := by
  unfold endListen
  split
  · exact .of_eased (.of_share rfl) rfl id (.inr rfl)
  · exact .refl

theorem confined_countBoundary (s : State) : Confined s (countBoundary s) := .of_eased ⟨rfl, rfl, rfl, rfl⟩ rfl id (.inl rfl)

/-- Stage 1 takes a pending grant that the station may hold, one ramp step up at most (R87, R99). -/
theorem ramps_takePending (s : State) : Ramps s (takePending s) := by
  cases pending : s.share.pendingGrant with
  | none =>
    have stands : takePending s = s := by rw [takePending, pending]
    rw [stands]
    exact Confined.refl.ramps
  | some p =>
    have taken : takePending s = setGrant (min p s.share.ceiling) (s.withShare { s.share with pendingGrant := none }) := by
      rw [takePending, pending]
    intro ⟨order, _, waits⟩
    obtain ⟨held, step⟩ := waits p pending
    have le : min p s.share.ceiling ≤ p := min_le_left _ _
    rw [taken]
    exact ⟨⟨order, held.lower le, nofun⟩, le.trans step⟩

theorem takePending_pendingGrant (s : State) : (takePending s).share.pendingGrant = none := by
  unfold takePending
  split
  · assumption
  · rfl

/-- Stage 2 lowers the grant to the new ceiling, or to the new floor where the station is held to it (R89). -/
theorem confined_stageTwo (none : s.share.pendingGrant = none) : Confined s (stageTwo s) := by
  obtain ⟨-, -, -, -, -, -, floor, grant⟩ := stageTwo_share s
  have loader : (stageTwo s).loader = s.loader := by simp
  have supply : (stageTwo s).supply = s.supply := by simp
  have pending : (stageTwo s).share.pendingGrant = s.share.pendingGrant := by
    have kept : (countSource (countDemand s)).share = s.share := by simp
    rw [← kept]
    rfl
  have order : (stageTwo s).share.floor ≤ (stageTwo s).share.ceiling := floor.le.trans (min_le_right _ _)
  have le : (stageTwo s).share.grant ≤ s.share.grant := grant.le.trans (min_le_left _ _)
  have top : (stageTwo s).share.grant ≤ (stageTwo s).share.ceiling := by
    refine grant.le.trans ((min_le_right _ _).trans ?_)
    split
    · exact order
    · exact le_rfl
  have low : heldToFloor s = true → (stageTwo s).share.grant ≤ (stageTwo s).share.floor := by
    intro held
    rw [grant, if_pos held]
    exact min_le_right _ _
  refine .of_lowered (fun _ => order) (fun ⟨_, held, _⟩ => ?_) le (pending.trans none)
  obtain ⟨-, gap, -, dead, listen⟩ := held.lower le
  rw [grantHeld, isSilenced_of_loader loader, isLive_of_loader loader, record_of_loader loader, loader, supply]
  refine ⟨top, fun view => ?_, fun silenced => low ((heldToFloor_iff s).2 (.inr silenced)), dead, listen⟩
  have before := gap view
  split at before
  · next cls =>
    rw [if_pos cls]
    exact low ((heldToFloor_iff s).2 (.inl ⟨cls, view⟩))
  · next cls =>
    rw [if_neg cls]
    exact before

theorem ramps_settledStages (s : State) : Ramps s (settledStages s) := by
  have before : Confined s (countBoundary (endListen s)) := (confined_endListen s).trans (confined_countBoundary _)
  have same : record (countBoundary (endListen s)) = record s := by
    have loader : (countBoundary (endListen s)).loader = (endListen s).loader := by simp
    rw [record_of_loader loader, record, endListen_loader, record]
  exact ((ramps_takePending _).after before same).trans (confined_stageTwo (takePending_pendingGrant _))

/-! ### The target (R90, R92) -/

theorem mem_putPeer_station {e x : Peer} {peers : List Peer} (mem : x ∈ putPeer e peers) (same : x.station = e.station) : x = e := by
  rw [putPeer, List.mem_append, List.mem_cons] at mem
  rcases mem with below | rfl | above
  · have less : x.station < e.station := by simpa using (List.mem_filter.1 below).2
    exact absurd same less.ne
  · rfl
  · have less : e.station < x.station := by simpa using (List.mem_filter.1 above).2
    exact absurd same less.ne'

/-- An allocation grants a station that stands in the table once, FRESH, no more than its ceiling. -/
theorem grantOf_allocate_le {budget ceiling : Nat} {station : Station} {peers : List Peer}
    (once : ∀ p ∈ peers, p.station = station → p.freshness = .fresh ∧ p.fields.ceiling = ceiling) :
    grantOf station (allocate budget (peers.map claimant)).1 ≤ ceiling := by
  unfold grantOf
  split
  · next e found =>
    obtain ⟨p, listed, eq, within, -⟩ := allocate_claimant (List.mem_of_find?_eq_some found)
    have station : e.station = station := by simpa using List.find?_some found
    rw [eq] at station
    obtain ⟨fresh, ceiling⟩ := once p listed ((claimant_station p).symm.trans station)
    rw [← ceiling]
    exact within.trans (claimant_d_le fresh)
  · exact Nat.zero_le _

/-- The target of an allocation is within the ceiling, which the rewritten own entry carries (R79, R90). -/
theorem formedTarget_le (s : State) (runs : allocates (rewriteOwn s) = true) :
    formedTarget (rewriteOwn s) ≤ (rewriteOwn s).share.ceiling := by
  have own : hasOwn s = true := by
    rw [allocates, Bool.and_eq_true, hasOwn_of_loader (s := s) (by simp)] at runs
    exact runs.1
  rw [formedTarget, if_pos runs]
  refine grantOf_allocate_le fun p mem same => ?_
  rw [rewriteOwn, if_pos own] at mem same ⊢
  rw [mem_putPeer_station (e := ⟨s.loader.station, ownFields s, now s, 0, .fresh⟩) mem same]
  exact ⟨rfl, rfl⟩

/-! ### The pending grant (R99, R107, R108, R112) -/

theorem rampedGrant_le (target grant ramp : Nat) :
    rampedGrant target grant ramp ≤ target ∧ rampedGrant target grant ramp ≤ grant + ramp := by
  unfold rampedGrant
  split <;> omega

theorem holdValue_le (s : State) :
    holdValue s ≤ s.share.grant ∧ holdValue s ≤ if (record s).cls = 0 then s.share.floor else 0 := by
  unfold holdValue
  split <;> omega

theorem viewPending_le (target : Nat) (s : State) :
    viewPending target s ≤ max target s.share.grant ∧ viewPending target s ≤ s.share.grant + (record s).rampStep := by
  unfold viewPending
  split
  · have hold := (holdValue_le s).1
    omega
  · have ramp := rampedGrant_le target s.share.grant (record s).rampStep
    omega

/-- The hold value stands wherever an allocation does not run (R107). -/
theorem viewPending_gap {target : Nat} (gap : s.supply.view = .gap) : viewPending target s = holdValue s := if_pos (.inl gap)

/-- The pending grant formed is one that the station may hold, where a target of an allocation is within its ceiling. -/
theorem formedPending_held {target : Nat} (law : GrantLaw s) (live : isLive s = true)
    (within : allocates s = true → target ≤ s.share.ceiling) :
    grantHeld s (formedPending target s) ∧ formedPending target s ≤ s.share.grant + (record s).rampStep := by
  obtain ⟨-, ⟨high, -⟩, -⟩ := law
  have lively : ∀ {g}, isLive s = false → g = 0 := fun dead => by rw [live] at dead; cases dead
  unfold formedPending
  split
  · exact ⟨grantHeld_zero s, Nat.zero_le _⟩
  · next listens =>
    obtain ⟨most, step⟩ := viewPending_le target s
    have top : viewPending target s ≤ s.share.ceiling := by
      by_cases gap : s.supply.view = .gap
      · rw [viewPending_gap gap]
        exact (holdValue_le s).1.trans high
      · exact most.trans (max_le (within ((allocates_iff live).2 ⟨listens, gap⟩)) high)
    have waits : s.supply.view = .gap → viewPending target s ≤ if (record s).cls = 0 then s.share.floor else 0 := by
      intro gap
      rw [viewPending_gap gap]
      exact (holdValue_le s).2
    split
    · have le : min (viewPending target s) s.share.floor ≤ viewPending target s := min_le_left _ _
      exact ⟨⟨le.trans top, fun gap => le.trans (waits gap), fun _ => min_le_right _ _, lively, fun run => absurd run listens⟩,
        le.trans step⟩
    · next silenced => exact ⟨⟨top, waits, fun run => absurd run silenced, lively, fun run => absurd run listens⟩, step⟩

theorem confined_formPending (live : isLive s = true) (within : allocates s = true → formedTarget s ≤ s.share.ceiling) :
    Confined s (formPending s) := by
  have loader : (formPending s).loader = s.loader := by simp
  have supply : (formPending s).supply = s.supply := by simp
  intro law
  obtain ⟨held, step⟩ := formedPending_held law live within
  obtain ⟨order, now, -⟩ := law
  have same : ∀ g, grantHeld s g → grantHeld (formPending s) g := by
    intro g h
    rw [grantHeld, isSilenced_of_loader loader, isLive_of_loader loader, record_of_loader loader, loader, supply, formPending_share]
    exact h
  rw [GrantLaw, record_of_loader loader, formPending_share]
  refine ⟨⟨order, same _ now, fun p formed => ?_⟩, le_rfl⟩
  cases formed
  exact ⟨same _ held, step⟩

/-! ### The boundary -/

theorem ramps_takeBoundary (s : State) : Ramps s (takeBoundary s) := by
  by_cases due : boundaryDue s = true
  · have live : isLive (ripened s) = true := by
      rw [isLive_of_loader (ripened_loader s)]
      rw [boundaryDue, Bool.and_eq_true] at due
      exact endListen_live due.1
    have aged : Confined (settledStages s) (agePeers (settledStages s)) := by
      obtain ⟨loader, supply, share, -⟩ := agedTable_keeps (settledStages s)
      exact (Confined.of_blocks loader (by rw [supply]) share).trans (confined_alarmEvent (by simp) (by simp) (by simp))
    have rewritten : Confined (agePeers (settledStages s)) (ripened s) :=
      .of_blocks (by simp [ripened]) (by simp [ripened]) (by simp [ripened])
    have formed : Confined (ripened s) (formPending (ripened s)) := confined_formPending live (formedTarget_le _)
    have sent : Confined (formPending (ripened s)) (stageFour (formPending (ripened s))) := .of_blocks (by simp) (by simp) (by simp)
    have counts : Confined (stageFour (formPending (ripened s))) (counted s) := confined_alarmEvent (by simp) (by simp) (by simp)
    rw [takeBoundary_releases due]
    exact (ramps_settledStages s).trans
      (((((aged.trans rewritten).trans formed).trans sent).trans counts).trans (confined_releaseRecords _ _))
  · rw [takeBoundary, if_neg due]
    exact Confined.refl.ramps

theorem ramps_boundaryWhen (happens : State → Bool) (s : State) : Ramps s (boundaryWhen happens s) := by
  unfold boundaryWhen
  split
  · exact ramps_takeBoundary s
  · exact Confined.refl.ramps

end

end Sys2Proof.Machine
end

section
/-!
The law of the grant over resets, start-up, requests and the limit output, and so over every command.
-/
namespace Sys2Proof.Machine

section
variable {s t : State}

/-! ### Resets and start-up (R153 to R157) -/

/-- The Loader changes, but for the run state and the record. -/
theorem confined_withLoader {l : Loader} (run : l.run = s.loader.run) (locked : l.locked = s.loader.locked) :
    Confined s (s.withLoader l) :=
  .of_eased (.of_share rfl) (by rw [record, record, State.withLoader_loader, locked]) id (.inl run)

theorem confined_releasePin (straps : BitVec 3) (cs : Bool) (s : State) : Confined s (releasePin straps cs s) := by
  unfold releasePin
  split
  · exact confined_withLoader rfl rfl
  · exact .of_reset rfl

theorem confined_assertPin (s : State) : Confined s (assertPin s) := by
  unfold assertPin
  split
  · exact confined_withLoader rfl rfl
  · exact .of_reset rfl

theorem confined_failAttempt (levels : BusLevels) (s : State) : Confined s (failAttempt levels s) := by
  unfold failAttempt
  split
  · exact .refl
  · split
    · exact confined_withLoader rfl rfl
    · exact .refl

theorem confined_retryAttempt (s : State) : Confined s (retryAttempt s) := by
  unfold retryAttempt
  split
  · split
    · exact confined_withLoader rfl rfl
    · exact .refl
  · exact .refl
  · exact .refl

theorem confined_enterConfigFault (f : ConfigFault) (run : s.loader.run = .configuring) : Confined s (enterConfigFault f s) :=
  .of_dead (.of_share (by simp)) (Bool.eq_false_iff.2 (dead_of_configuring run))

theorem listening_figures (r : Record) (s : State) : SameFigures s (listening r s) := by
  unfold listening
  dsimp only
  split <;> exact ⟨rfl, rfl, rfl, rfl⟩

theorem confined_enterListen (r : Record) (run : s.loader.run = .configuring) : Confined s (enterListen r s) := by
  have listens : Confined s (listening r s) := .of_dead (listening_figures r s) (Bool.eq_false_iff.2 (dead_of_configuring run))
  rw [enterListen_eq]
  exact listens.trans (confined_examineExit _)

theorem confined_completeRead (bytes : List Byte) (s : State) : Confined s (completeRead bytes s) := by
  unfold completeRead
  split
  · next h =>
    obtain ⟨run, -⟩ := h
    have read : Confined s (s.withLoader { s.loader with bus := readTransaction, received := bytes }) := confined_withLoader rfl rfl
    dsimp only
    split
    · exact read.trans (confined_enterListen _ run)
    · exact read.trans (confined_enterConfigFault _ run)
  · exact .refl

theorem confined_reachReadDeadline (done : Nat) (s : State) : Confined s (reachReadDeadline done s) := by
  unfold reachReadDeadline
  split
  · next h =>
    obtain ⟨run, -⟩ := h
    refine Confined.trans (t := s.withLoader { s.loader with
      bus := if s.loader.attempt = .inProgress then cutTransaction done else s.loader.bus }) (confined_withLoader rfl rfl) ?_
    exact confined_enterConfigFault _ run
  · exact .refl

/-! ### Requests (R138 to R148) -/

theorem confined_withPort (p : Port) (s : State) : Confined s (s.withPort p) := .of_blocks rfl rfl rfl

theorem confined_takeFrame (cut : Nat) (bytes : List Byte) (strayBits : Nat) {take : State → Answer} (h : Confined s (take s).1) :
    Confined s (takeFrame cut bytes strayBits take s) := by
  unfold takeFrame
  split
  · exact confined_withPort _ s
  · exact h.trans (confined_withPort _ _)

theorem confined_whenRunning {take : State → Answer} (h : Confined s (take s).1) : Confined s (whenRunning take s).1 := by
  rw [whenRunning_fst]
  split
  · exact h
  · exact .refl

theorem confined_takeRelease (b : Byte) (s : State) : Confined s (takeRelease b s).1 := by
  unfold takeRelease
  split
  · split
    · exact .refl
    · split
      · exact confined_releasePole _ s
      · exact .refl
  · exact .refl

theorem confined_takeModuleReset (cut : Nat) (straps : BitVec 3) (s : State) : Confined s (takeModuleReset cut straps s) := by
  unfold takeModuleReset
  split
  · exact confined_takeFrame _ _ _ .refl
  · exact .of_reset rfl

/-! ### The limit output (R101) -/

theorem confined_openLimitPeriod (s : State) : Confined s (openLimitPeriod s) := by
  have opened : ∀ sh : Share, SameFigures s (s.withShare sh) → Confined s (s.withShare sh) := fun _ figures =>
    .of_eased figures rfl id (.inl rfl)
  unfold openLimitPeriod
  dsimp only
  split
  · exact opened _ ⟨rfl, rfl, rfl, rfl⟩
  · split
    · exact opened _ ⟨rfl, rfl, rfl, rfl⟩
    · exact .refl

theorem confined_reachLimitDuty (s : State) : Confined s (reachLimitDuty s) := .of_eased ⟨rfl, rfl, rfl, rfl⟩ rfl id (.inl rfl)

/-! ### Every command -/

theorem confined_advance (dt : Nat) (s : State) : Confined s (advance dt s) := .of_eased ⟨rfl, rfl, rfl, rfl⟩ rfl id (.inl rfl)

/-- A command keeps the law: a period boundary ramps, and any other raises nothing. -/
def Grants (c : Instr) (s t : State) : Prop := Confined s t ∨ c.asBoundary ≠ none ∧ Ramps s t

variable {c : Instr}

theorem grants_of_next {f : State} (h : Host.Outcome.next f = (.next t : Host.Outcome State Fault Refusal)) (k : Confined s f) :
    Grants c s t := by
  cases h
  exact .inl k

theorem grants_of_perform {dt : Nat} {f : State → State} (h : perform dt f s = .next t) (k : ∀ u, Confined u (f u)) :
    Grants c s t := by
  unfold perform at h
  split at h
  · exact grants_of_next h .refl
  · exact grants_of_next h ((confined_advance dt s).trans (k _))

theorem grants_of_frame {frame : PortFrame} {n : Nat} {f : State → State} (h : performFrame frame n f s = .next t)
    (k : ∀ u, Confined u (f u)) : Grants c s t := by
  unfold performFrame at h
  split at h
  · exact grants_of_next h (confined_withPort _ s)
  · exact grants_of_perform h k

theorem grants_of_request {frame : PortFrame} {r : Request} {take : State → Answer} (h : performRequest frame r take s = .next t)
    (k : ∀ u, Confined u (take u).1) : Grants c s t :=
  grants_of_frame h fun u => confined_takeFrame _ _ _ (k u)

/-- A request that is taken in the working run states only and leaves what the law looks at. -/
theorem grants_of_post {frame : PortFrame} {r : Request} {take : State → Answer}
    (h : performRequest frame r (whenRunning take) s = .next t)
    (k : ∀ u, (take u).1.loader = u.loader ∧ (take u).1.supply.view = u.supply.view ∧ (take u).1.share = u.share) : Grants c s t :=
  grants_of_request h fun u =>
    have ⟨loader, view, share⟩ := k u
    confined_whenRunning (.of_blocks loader view share)

/-- A row of the boundary: the whole boundary, or nothing but the time that passes. -/
theorem grants_of_boundary {dt : Nat} {happens : State → Bool} (h : perform dt (boundaryWhen happens) s = .next t)
    (row : c.asBoundary = some dt) : Grants c s t := by
  have boundary : c.asBoundary ≠ none := by rw [row]; nofun
  unfold perform at h
  split at h
  · exact grants_of_next h .refl
  · cases h
    exact .inr ⟨boundary, (ramps_boundaryWhen happens _).after (confined_advance dt s) rfl⟩

theorem grants_exec (h : exec c s = .next t) : Grants c s t := by
  cases c with
  | powerOnReset straps cs => exact grants_of_next h (.of_reset rfl)
  | resetPin straps cs => exact grants_of_next h (confined_releasePin straps cs s)
  | resetPinAsserted => exact grants_of_next h (confined_assertPin s)
  | supplyBelowOperatingLevel => exact grants_of_next h (.of_reset rfl)
  | configAttemptFailed failed => exact grants_of_perform h (confined_failAttempt _)
  | configReadRetry dt => exact grants_of_perform h confined_retryAttempt
  | configReadComplete dt bytes => exact grants_of_perform h (confined_completeRead bytes)
  | configReadDeadline deadline => exact grants_of_perform h (confined_reachReadDeadline _)
  | postDemand frame a => exact grants_of_post h fun _ => by simp
  | postSource frame a => exact grants_of_post h fun _ => by simp
  | capCeiling frame a => exact grants_of_post h fun _ => by simp
  | ackAlarm frame => exact grants_of_request h fun u => confined_whenRunning (confined_acknowledge u)
  | releaseRetrieve frame pole => exact grants_of_request h fun u => confined_whenRunning (confined_takeRelease pole u)
  | readStatus frame => exact grants_of_request h fun _ => .refl
  | readPeer frame station => exact grants_of_request h fun u => by rw [takeReadPeer_keeps]; exact .refl
  | readAlarms frame => exact grants_of_request h fun _ => .refl
  | readHistory frame index => exact grants_of_request h fun u => by rw [takeReadHistory_keeps]; exact .refl
  | clearAttention frame cause => exact grants_of_request h fun u => .of_blocks (by simp) (by simp) (by simp)
  | clearCounters frame => exact grants_of_request h fun u => confined_withLine _ u
  | moduleReset frame straps => exact grants_of_frame h (confined_takeModuleReset _ straps)
  | unknownRequest frame bytes strayBits => exact grants_of_frame h fun u => .of_blocks (by simp) (by simp) (by simp)
  | windowCompletion dt input => exact grants_of_perform h (confined_completeWindow input)
  | rewireConfirm dt input pole => exact grants_of_perform h (confined_confirmRewire input pole)
  | suspicionConfirm dt input pole => exact grants_of_perform h (confined_confirmSuspicion input pole)
  | retrieveTimeout dt input pole => exact grants_of_perform h (confined_timeOutRetrieve input pole)
  | headWindowCompletion dt pole edges => exact grants_of_perform h fun _ => .of_blocks (by simp) (by simp) (by simp)
  | calibrationIntervalEnd dt => exact grants_of_perform h fun _ => .of_blocks (by simp) (by simp) (by simp)
  | gapLimitExpiry dt => exact grants_of_perform h confined_reachGapLimit
  | restoreDelayExpiry dt => exact grants_of_perform h confined_endRestore
  | periodBoundary dt => exact grants_of_boundary (happens := fun _ => true) h rfl
  | listenPhaseEnd dt => exact grants_of_boundary h rfl
  | peerStale dt station => exact grants_of_boundary h rfl
  | peerLost dt station => exact grants_of_boundary h rfl
  | demandTimeout dt => exact grants_of_boundary h rfl
  | sourceTimeout dt => exact grants_of_boundary h rfl
  | ackPendingLapse dt origin number => exact grants_of_boundary h rfl
  | stateFrame dt idle bytes => exact grants_of_perform h (confined_receive idle bytes false)
  | alarmFrame dt idle bytes => exact grants_of_perform h (confined_receive idle bytes false)
  | ackFrame dt idle bytes => exact grants_of_perform h (confined_receive idle bytes false)
  | gapStartFrame dt idle bytes => exact grants_of_perform h (confined_receive idle bytes false)
  | gapEndFrame dt idle bytes => exact grants_of_perform h (confined_receive idle bytes false)
  | clashFrame dt idle bytes => exact grants_of_perform h (confined_receive idle bytes false)
  | receiveFault dt idle bytes framing => exact grants_of_perform h (confined_receive idle bytes framing)
  | frameTruncation dt idle bytes gap =>
    exact grants_of_perform (f := fun u => receive gap [] false (receive idle bytes false u)) h
      fun u => (confined_receive idle bytes false u).trans (confined_receive gap [] false _)
  | deferralReached dt idle => exact grants_of_perform h fun _ => .of_blocks (by simp) (by simp) (by simp)
  | collisionAbort dt bit => exact grants_of_perform h (confined_abortAttempt bit)
  | transmitSuccess dt => exact grants_of_perform h confined_succeedAttempt
  | suspensionExpiry dt => exact grants_of_perform h confined_endSuspension
  | ackButtonPress dt stood => exact grants_of_perform h (confined_pressButton stood)
  | ackButtonRelease dt stood => exact grants_of_perform h fun _ => .of_blocks (by simp) (by simp) (by simp)
  | flashClockToggle dt => exact grants_of_perform h fun _ => .of_blocks (by simp) (by simp) (by simp)
  | soundingTimerExpiry dt => exact grants_of_perform h fun _ => .of_blocks (by simp) (by simp) (by simp)
  | reminderTimerExpiry dt => exact grants_of_perform h fun _ => .of_blocks (by simp) (by simp) (by simp)
  | limitPeriodOpens dt => exact grants_of_perform h confined_openLimitPeriod
  | limitDutyReached dt => exact grants_of_perform h confined_reachLimitDuty

/-- Whichever it is, a command ramps at most. -/
theorem Grants.ramps (h : Grants c s t) : Ramps s t := by
  rcases h with confined | ⟨-, ramps⟩
  · exact confined.ramps
  · exact ramps

end

/-- Settles O57: idling changes nothing, and every command keeps the law. -/
theorem grantLawKept : Obligations.GrantLawKept := by
  intro s t law h
  unfold step at h
  split at h
  · cases h
    exact law
  · next c rest _ =>
    have taken : Confined s { s with pending := rest } := .of_blocks rfl rfl rfl
    exact ((grants_exec h).ramps (taken law).1).1

/-- Settles O59: a boundary takes the pending grant, which is one ramp step up at most, and no other command raises the grant. -/
theorem grantRisesOnlyAtBoundary : Obligations.GrantRisesOnlyAtBoundary := by
  intro c s t law h
  have grants := grants_exec h
  refine ⟨fun other => ?_, (grants.ramps law).2⟩
  rcases grants with confined | ⟨boundary, -⟩
  · exact (confined law).2
  · exact absurd other boundary

end Sys2Proof.Machine
end

section
/-!
The boundary rows that name the end of the listen phase, a timeout or the lapse of an ack pending (R114, R115, R132, R158): what the
stage that brings it about does, and that the rest of the boundary leaves it.
-/
namespace Sys2Proof.Machine

/-- A row that names part of a boundary is that boundary, where the part comes about (assumption log 3). -/
theorem perform_boundaryWhen {dt : Nat} {s : State} {happens : State → Bool} (reset : inReset s = false)
    (h : happens (advance dt s) = true) : perform dt (boundaryWhen happens) s = .next (takeBoundary (advance dt s)) := by
  rw [perform_working dt _ reset, boundaryWhen, if_pos h]

/-! ### The end of the listen phase (R70, R158) -/

/-- Once stage 3 has written the entries, the rest of the boundary changes the own entry only along with the station. -/
theorem tracks_takeBoundary {s : State} (due : boundaryDue s = true) : Tracks (ripened s) (takeBoundary s) := by
  have counts : Tracks (stageFour (formPending (ripened s))) (counted s) := tracks_alarmEvent (by simp) (by simp) (by simp) (by simp)
  rw [takeBoundary_releases due]
  exact ((tracks_formPending.trans tracks_stageFour).trans counts).trans (tracks_releaseRecords _)

/-- Stage 3 writes the own entry in RUNNING (R79). -/
theorem ripened_own {s : State} (run : (endListen s).loader.run = .running) : (ownEntry (ripened s)).isSome = true := by
  have has : hasOwn (agePeers (settledStages s)) = true := by simp [hasOwn, settledStages_loader, run]
  rw [ripened, rewriteOwn, if_pos has, ownEntry, peerOf, List.find?_isSome]
  exact ⟨_, List.mem_append_right _ List.mem_cons_self, beq_self_eq_true _⟩

/-- The boundary at which the listen phase ends leaves the station RUNNING, with its own entry and a STATE queued (R57, R158). -/
theorem takeBoundary_listenEnds {s : State} (due : boundaryDue s = true) (ends : listenEnds s = true) :
    let t := takeBoundary s
    t.loader.run = .running ∧ t.line.stateWaiting = true ∧ (ownEntry t).isSome = true := by
  have run : (endListen s).loader.run = .running := by rw [endListen_loader, if_pos ends]
  obtain ⟨loader, -⟩ := takeBoundary_stands due
  obtain ⟨e, own⟩ := Option.isSome_iff_exists.1 (ripened_own run)
  obtain ⟨f, -, found⟩ := (tracks_takeBoundary due).ownEntry
  refine ⟨by rw [loader, run], by simp [takeBoundary_line due, run], ?_⟩
  rw [found e own]
  rfl

/-! ### The timeouts (R114, R115) -/

/-- A count that one silent boundary more takes to the timeout. -/
theorem silenceCount_reaches {taken : Bool} {count timeout : Nat} (silent : taken = false) (short : timeout ≤ count + 1) :
    silenceCount taken count timeout = timeout := by
  subst silent
  exact Nat.min_eq_right short

theorem demandRunsOut_iff (s : State) :
    demandRunsOut s = true ↔ s.shed.demandTimedOut = false ∧ demandCount s = (record s).demandTimeout := by
  rw [demandRunsOut, Bool.and_eq_true, Bool.not_eq_true', beq_iff_eq, demandCount]

theorem sourceRunsOut_iff (s : State) :
    sourceRunsOut s = true ↔
      isBat s = true ∧ s.shed.sourceTimedOut = false ∧ sourceCount s = (record s).demandTimeout := by
  rw [sourceRunsOut, Bool.and_eq_true, Bool.and_eq_true, Bool.not_eq_true', beq_iff_eq, sourceCount, and_assoc]

/-- What runs out at a boundary runs out when stage 2 counts: stage 1 leaves the counts. -/
theorem firstStage_runsOut (s : State) :
    demandRunsOut (firstStage s) = demandRunsOut s ∧ sourceRunsOut (firstStage s) = sourceRunsOut s := by
  obtain ⟨-, -, -, shed⟩ := firstStage_keeps s
  obtain ⟨same, bat, -⟩ := firstStage_record s
  simp only [demandRunsOut, sourceRunsOut, shed, same, bat, and_self]

theorem countDemand_raises {s : State} (out : demandRunsOut s = true) : isPending (countDemand s).port .demandTimeout = true := by
  obtain ⟨before, reached⟩ := (demandRunsOut_iff s).1 out
  rw [demandCount] at reached
  simp [countDemand, reached, before]

theorem countSource_raises {s : State} (out : sourceRunsOut s = true) : isPending (countSource s).port .demandTimeout = true := by
  obtain ⟨bat, before, reached⟩ := (sourceRunsOut_iff s).1 out
  rw [sourceCount] at reached
  simp [countSource, bat, reached, before]

/-- The source count and its flag are not the demand's. -/
theorem sourceRunsOut_countDemand (s : State) : sourceRunsOut (countDemand s) = sourceRunsOut s := by
  have loader : (countDemand s).loader = s.loader := by simp
  rw [sourceRunsOut, isBat_of_loader loader, record_of_loader loader, countDemand_shed]
  rfl

/-- Stage 2 raises the cause where either count runs out. -/
theorem stageTwo_raises {s : State} (out : demandRunsOut s = true ∨ sourceRunsOut s = true) :
    isPending (stageTwo s).port .demandTimeout = true := by
  have port : (stageTwo s).port = (countSource (countDemand s)).port := by simp [stageTwo]
  rw [port]
  rcases out with demand | source
  · exact countSource_pending _ _ (countDemand_raises demand)
  · exact countSource_raises ((sourceRunsOut_countDemand s).trans source)

/-- What the rest of the boundary leaves of stage 2, whatever the view does: the two flags, the latched figures and the causes. -/
theorem takeBoundary_latched {s : State} (due : boundaryDue s = true) :
    let t := takeBoundary s
    let u := stageTwo (firstStage s)
    t.shed.demandTimedOut = u.shed.demandTimedOut ∧ t.shed.sourceTimedOut = u.shed.sourceTimedOut
      ∧ t.share.demand = u.share.demand ∧ t.share.discharge = u.share.discharge ∧ PendingGrows u t := by
  dsimp only
  refine ⟨?_, ?_, ?_, ?_, (agePeers_pending _).trans (takeBoundary_aged_pending due)⟩ <;>
    simp [takeBoundary_due due, releaseLeft, alarmEvent, formPending_share, ripened, settledStages, firstStage]

theorem takeBoundary_demandRunsOut {s : State} (due : boundaryDue s = true) (out : demandRunsOut s = true) :
    let t := takeBoundary s
    t.shed.demandTimedOut = true ∧ t.share.demand = (record s).cfgFloor ∧ isPending t.port .demandTimeout = true := by
  obtain ⟨flag, -, demand, -, pending⟩ := takeBoundary_latched due
  obtain ⟨same, -, -⟩ := firstStage_record s
  have out' : demandRunsOut (firstStage s) = true := (firstStage_runsOut s).1.trans out
  obtain ⟨-, count⟩ := (demandRunsOut_iff _).1 out'
  obtain ⟨-, timedOut, -⟩ := stageTwo_counts (firstStage s)
  obtain ⟨-, -, latched, -⟩ := stageTwo_share (firstStage s)
  rw [count, beq_self_eq_true] at timedOut
  rw [timedOut, if_pos rfl, same] at latched
  exact ⟨flag.trans timedOut, demand.trans latched, pending _ (stageTwo_raises (.inl out'))⟩

theorem takeBoundary_sourceRunsOut {s : State} (due : boundaryDue s = true) (out : sourceRunsOut s = true) :
    let t := takeBoundary s
    t.shed.sourceTimedOut = true ∧ t.share.discharge = 0 ∧ isPending t.port .demandTimeout = true := by
  obtain ⟨-, flag, -, discharge, pending⟩ := takeBoundary_latched due
  have out' : sourceRunsOut (firstStage s) = true := (firstStage_runsOut s).2.trans out
  obtain ⟨bat, -, count⟩ := (sourceRunsOut_iff _).1 out'
  obtain ⟨-, -, -, sources, -⟩ := stageTwo_counts (firstStage s)
  obtain ⟨-, timedOut, -⟩ := sources bat
  obtain ⟨-, -, -, latched, -⟩ := stageTwo_share (firstStage s)
  rw [count, beq_self_eq_true] at timedOut
  rw [timedOut, if_neg (by simp)] at latched
  exact ⟨flag.trans timedOut, discharge.trans latched, pending _ (stageTwo_raises (.inr out'))⟩

/-! ### The ack pendings (R129, R132) -/

/-- An alarm after a boundary that `gone` says took its origin's collector away: marked orphaned, its ack pending a step on. -/
def alarmAfterBoundary (gone : Station → Bool) (e : AlarmEntry) : AlarmEntry :=
  { e with orphaned := gone e.origin || e.orphaned, ack := countAck e.ack }

/-- A boundary changes each alarm in its place. -/
theorem takeBoundary_alarms {s : State} (due : boundaryDue s = true) :
    (takeBoundary s).alarms.table = s.alarms.table.map (alarmAfterBoundary (losesCollector (settledStages s))) := by
  have aged : (agePeers (settledStages s)).alarms.table =
      s.alarms.table.map fun e => if losesCollector (settledStages s) e.origin then { e with orphaned := true } else e := by
    obtain ⟨-, -, stages⟩ := settledStages_keeps s
    obtain ⟨-, -, -, -, ages, -⟩ := agedTable_keeps (settledStages s)
    rw [agePeers_eq, ← stages, ← ages]
    simp [alarmEvent, orphan]
  have table : (takeBoundary s).alarms.table =
      (agePeers (settledStages s)).alarms.table.map fun e => { e with ack := countAck e.ack } := by
    simp [takeBoundary_due due, alarmEvent, countAcks, ripened]
  rw [table, aged, List.map_map]
  refine List.map_congr_left fun e _ => ?_
  cases gone : losesCollector (settledStages s) e.origin <;> simp [alarmAfterBoundary, gone]

/-- An alarm is found after the boundary under the number it had. -/
theorem findAlarm_takeBoundary {s : State} (due : boundaryDue s = true) (o : Station) (n : Byte) :
    findAlarm (takeBoundary s) o n = (findAlarm s o n).map (alarmAfterBoundary (losesCollector (settledStages s))) := by
  rw [findAlarm, takeBoundary_alarms due, List.find?_map]
  rfl

/-- The fourth own boundary after the ACK was sent ends the ack pending (R132). -/
theorem countAck_sent {k : Nat} (h : 3 ≤ k) : countAck (.sent k) = .absent := if_pos (Nat.succ_le_succ h)

/-- Settles O45: each row's condition is what its stage of the boundary acts on, and the later stages leave the outcome. -/
theorem boundaryRowsComeAbout : Obligations.BoundaryRowsComeAbout := by
  intro dt s ⟨reset, _⟩ due
  refine ⟨_, perform_working dt takeBoundary reset, fun listens ends => ?_, fun before silent short => ?_,
    fun bat before silent short => ?_, fun o n a k found sent lapses => ?_⟩
  · have ends' : listenEnds (advance dt s) = true := (listenEnds_iff _).2 ⟨listens, ends⟩
    exact ⟨perform_boundaryWhen reset ends', takeBoundary_listenEnds due ends'⟩
  · have out : demandRunsOut (advance dt s) = true :=
      (demandRunsOut_iff _).2 ⟨before, silenceCount_reaches silent short⟩
    exact ⟨perform_boundaryWhen reset out, takeBoundary_demandRunsOut due out⟩
  · have out : sourceRunsOut (advance dt s) = true :=
      (sourceRunsOut_iff _).2 ⟨bat, before, silenceCount_reaches silent short⟩
    exact ⟨perform_boundaryWhen reset out, takeBoundary_sourceRunsOut due out⟩
  · have found' : findAlarm (advance dt s) o n = some a := found
    have absent : countAck a.ack = .absent := by rw [sent, countAck_sent lapses]
    have lapse : ackLapses o n (advance dt s) = true := by
      rw [ackLapses, found']
      dsimp only
      rw [absent, sent]
      rfl
    have after := findAlarm_takeBoundary due o n
    rw [found', Option.map_some] at after
    exact ⟨perform_boundaryWhen reset lapse, _, after, absent, rfl⟩

end Sys2Proof.Machine
end

section
/-!
The lamp and the buzzer at the end of an event of the Alarm Table, and their timers (R118, R133, R134).
-/
namespace Sys2Proof.Machine

/-! ### What the lamp and the buzzer look at -/

/-- Table 7-5 as cases of the table. -/
theorem lampFor_eq (table : List AlarmEntry) :
    lampFor table =
      if table = [] then .off else if ∃ e ∈ table, e.phase ≠ .activeAcked then .flashing else .steady := by
  simp [lampFor]

theorem any_isUnack {table : List AlarmEntry} : table.any isUnack = true ↔ ∃ e ∈ table, e.phase = .activeUnack := by
  simp [isUnack]

theorem any_isUnack_false {table : List AlarmEntry} : table.any isUnack = false ↔ ∀ e ∈ table, e.phase ≠ .activeUnack := by
  simp [isUnack]

/-! ### The lamp at the end of an event (R133) -/

/-- The lamp takes the state that the table asks for, and its output and clock with it where that is another than before. -/
theorem settleLamp_enabled {s : State} (enabled : (record s).lampEnabled = true) :
    let t := settleLamp s
    let lamp := lampFor s.alarms.table
    t.alarms.lamp = lamp
      ∧ (s.alarms.lamp = lamp → t.alarms.lampLit = s.alarms.lampLit ∧ t.alarms.flashStart = s.alarms.flashStart)
      ∧ (s.alarms.lamp ≠ lamp → t.alarms.lampLit = decide (lamp ≠ .off)
          ∧ t.alarms.flashStart = if lamp = .flashing then some (now s) else none) := by
  dsimp only
  by_cases same : s.alarms.lamp = lampFor s.alarms.table
  · have stands : settleLamp s = s := if_neg fun h => h.2 same
    rw [stands]
    exact ⟨same, fun _ => ⟨rfl, rfl⟩, fun other => absurd same other⟩
  · rw [settleLamp, if_pos ⟨enabled, same⟩]
    refine ⟨rfl, fun same' => absurd same' same, fun _ => ⟨?_, rfl⟩⟩
    simp [bne, Bool.beq_eq_decide_eq]

theorem settleLamp_disabled {s : State} (disabled : (record s).lampEnabled = false) : settleLamp s = s :=
  if_neg fun h => by simp [disabled] at h

/-! ### The buzzer at the end of an event (R134) -/

theorem settleBuzzer_disabled {before : List AlarmEntry} {s : State} (disabled : (record s).buzzerEnabled = false) :
    settleBuzzer before s = s := if_neg (by simp [disabled])

/-- Without an entry in ACTIVE_UNACK the buzzer is silent and its timers stand still. -/
theorem settleBuzzer_silent {before : List AlarmEntry} {s : State} (enabled : (record s).buzzerEnabled = true)
    (none : s.alarms.table.any isUnack = false) :
    settleBuzzer before s =
      s.withAlarms { s.alarms with buzzer := false, soundStart := .none, reminderStart := .none } := by
  rw [settleBuzzer, if_pos enabled, if_pos (by simp [none])]

/-- With one the buzzer goes on as it is, and the reminder timer starts where there was none before. -/
theorem settleBuzzer_held {before : List AlarmEntry} {s : State} (held : s.alarms.table.any isUnack = true) :
    let t := settleBuzzer before s
    t.alarms.buzzer = s.alarms.buzzer ∧ t.alarms.soundStart = s.alarms.soundStart
      ∧ t.alarms.reminderStart =
          if (record s).buzzerEnabled = true ∧ (record s).reminder ≠ 0 ∧ (∀ e ∈ before, e.phase ≠ .activeUnack)
          then some (now s) else s.alarms.reminderStart := by
  dsimp only
  by_cases enabled : (record s).buzzerEnabled = true
  · rw [settleBuzzer, if_pos enabled, if_neg (by simp [held])]
    by_cases starts : (record s).reminder ≠ 0 ∧ ∀ e ∈ before, e.phase ≠ .activeUnack
    · rw [if_pos (by simpa [isUnack, and_comm] using starts), if_pos ⟨enabled, starts⟩]
      exact ⟨rfl, rfl, rfl⟩
    · rw [if_neg (by simpa [isUnack, and_comm] using starts), if_neg fun h => starts h.2]
      exact ⟨rfl, rfl, rfl⟩
  · rw [settleBuzzer_disabled (by simpa using enabled), if_neg fun h => enabled h.1]
    exact ⟨rfl, rfl, rfl⟩

/-! ### Both, in the event (R118) -/

/-- What Supply Watch is told changes nothing of the Alarm Table, and ends no cause. -/
theorem endAlarmEvent_changed {before : List AlarmEntry} {s : State} (changed : s.alarms.table ≠ before) :
    (endAlarmEvent before s).alarms = (settled before s).alarms
      ∧ isPending (endAlarmEvent before s).port .alarmTableChanged = true := by
  have raised : isPending (settled before s).port .alarmTableChanged = true := by simp
  rcases endAlarmEvent_cases before s with ⟨same, -⟩ | ⟨h, -⟩ | ⟨h, -⟩ | ⟨h, -⟩
  · exact absurd same changed
  · rw [h]
    exact ⟨rfl, raised⟩
  · rw [h]
    exact ⟨by simp, PendingGrows.of_raised (enterOffLine_spec _).2.1 _ raised⟩
  · rw [h]
    exact ⟨by simp, PendingGrows.of_raised (enterRestoring_spec _).2 _ raised⟩

/-- The lamp block of the station once its lamp and buzzer follow the table is what the lamp's rule made of it. -/
theorem settled_lamp (before : List AlarmEntry) (s : State) :
    (settled before s).alarms.lamp = (settleLamp (raise .alarmTableChanged s)).alarms.lamp
      ∧ (settled before s).alarms.lampLit = (settleLamp (raise .alarmTableChanged s)).alarms.lampLit
      ∧ (settled before s).alarms.flashStart = (settleLamp (raise .alarmTableChanged s)).alarms.flashStart := by
  simp [settled]

/-- The lamp at the end of an event that changed the table. -/
theorem endAlarmEvent_lamp {before : List AlarmEntry} {s : State} (changed : s.alarms.table ≠ before) :
    let t := endAlarmEvent before s
    let lamp := lampFor s.alarms.table
    ((record s).lampEnabled = true → t.alarms.lamp = lamp
        ∧ (s.alarms.lamp = lamp → t.alarms.lampLit = s.alarms.lampLit ∧ t.alarms.flashStart = s.alarms.flashStart)
        ∧ (s.alarms.lamp ≠ lamp → t.alarms.lampLit = decide (lamp ≠ .off)
            ∧ t.alarms.flashStart = if lamp = .flashing then some (now s) else none))
      ∧ ((record s).lampEnabled = false → t.alarms.lamp = s.alarms.lamp ∧ t.alarms.lampLit = s.alarms.lampLit
          ∧ t.alarms.flashStart = s.alarms.flashStart) := by
  obtain ⟨lamp, lit, clock⟩ := settled_lamp before s
  dsimp only
  rw [(endAlarmEvent_changed changed).1, lamp, lit, clock]
  refine ⟨fun enabled => settleLamp_enabled (s := raise .alarmTableChanged s) enabled, fun disabled => ?_⟩
  rw [settleLamp_disabled (s := raise .alarmTableChanged s) disabled]
  exact ⟨rfl, rfl, rfl⟩

/-- The buzzer at the end of an event that changed the table. -/
theorem endAlarmEvent_buzzer {before : List AlarmEntry} {s : State} (changed : s.alarms.table ≠ before) :
    let t := endAlarmEvent before s
    ((record s).buzzerEnabled = true → (∀ e ∈ s.alarms.table, e.phase ≠ .activeUnack) →
        t.alarms.buzzer = false ∧ t.alarms.soundStart = none ∧ t.alarms.reminderStart = none)
      ∧ ((∃ e ∈ s.alarms.table, e.phase = .activeUnack) →
          t.alarms.buzzer = s.alarms.buzzer ∧ t.alarms.soundStart = s.alarms.soundStart
          ∧ t.alarms.reminderStart =
              if (record s).buzzerEnabled = true ∧ (record s).reminder ≠ 0 ∧ (∀ e ∈ before, e.phase ≠ .activeUnack)
              then some (now s) else s.alarms.reminderStart)
      ∧ ((record s).buzzerEnabled = false →
          t.alarms.buzzer = s.alarms.buzzer ∧ t.alarms.soundStart = s.alarms.soundStart
          ∧ t.alarms.reminderStart = s.alarms.reminderStart) := by
  obtain ⟨u, hu⟩ : ∃ u, u = settleLamp (raise .alarmTableChanged s) := ⟨_, rfl⟩
  have fields : u.alarms.table = s.alarms.table ∧ u.alarms.buzzer = s.alarms.buzzer
      ∧ u.alarms.soundStart = s.alarms.soundStart ∧ u.alarms.reminderStart = s.alarms.reminderStart := by simp [hu]
  obtain ⟨table, buzzer, sound, reminder⟩ := fields
  have same : record u = record s := record_of_loader (by simp [hu])
  have time : now u = now s := now_of_clock (by simp [hu])
  have after : settled before s = settleBuzzer before u := by rw [hu]; rfl
  dsimp only
  rw [(endAlarmEvent_changed changed).1, after]
  rw [← same, ← table, ← buzzer, ← sound, ← reminder, ← time]
  refine ⟨fun enabled none => ?_, fun held => settleBuzzer_held (any_isUnack.2 held), fun disabled => ?_⟩
  · rw [settleBuzzer_silent enabled (any_isUnack_false.2 none)]
    exact ⟨rfl, rfl, rfl⟩
  · rw [settleBuzzer_disabled disabled]
    exact ⟨rfl, rfl, rfl⟩

/-! ### The timers (R133, R134) -/

theorem toggleLamp_due {t0 : StationTime} {s : State} (lamp : s.alarms.lamp = .flashing)
    (start : s.alarms.flashStart = some t0) (ran : 500 ≤ (now s - t0).toNat) :
    toggleLamp s = s.withAlarms { s.alarms with lampLit := !s.alarms.lampLit, flashStart := some (t0 + 500) } := by
  rw [toggleLamp, if_pos ⟨lamp, expired_of start ran⟩, start]
  rfl

theorem endSounding_due {t0 : StationTime} {s : State} (start : s.alarms.soundStart = some t0)
    (ran : (record s).buzzDuration ≤ (now s - t0).toNat) :
    endSounding s = s.withAlarms { s.alarms with buzzer := false, soundStart := none } :=
  if_pos (expired_of start ran)

/-- The reminder sounds the buzzer and starts both timers anew. -/
theorem remind_due {t0 : StationTime} {s : State} (start : s.alarms.reminderStart = some t0)
    (ran : (record s).reminder * 1000 ≤ (now s - t0).toNat) (enabled : (record s).buzzerEnabled = true)
    (interval : (record s).reminder ≠ 0) (held : ∃ e ∈ s.alarms.table, e.phase = .activeUnack) :
    remind s = s.withAlarms { s.alarms with buzzer := true, soundStart := some (now s), reminderStart := some (now s) } := by
  rw [remind, if_pos (expired_of start ran)]
  dsimp only
  rw [if_pos (by exact any_isUnack.2 held)]
  have sounds : (record (s.withAlarms { s.alarms with reminderStart := none })).buzzerEnabled = true := enabled
  have again : ¬(record (s.withAlarms { s.alarms with reminderStart := none })).reminder = 0 := interval
  rw [soundBuzzer, if_pos sounds, if_neg again]
  rfl

/-- Settles O51: the end of an event settles the lamp, then the buzzer; each timer that has run acts alone. -/
theorem annunciatorTimers : Obligations.AnnunciatorTimers := by
  refine ⟨fun before s changed => ?_, fun dt t0 s reset => ⟨fun lamp start ran => ?_, fun start ran => ?_,
    fun start ran enabled interval held => ?_⟩⟩
  · intro t lamp
    obtain ⟨lit, dark⟩ := endAlarmEvent_lamp changed
    rw [lampFor_eq] at lit
    exact ⟨by simp [t], (endAlarmEvent_changed changed).2, lit, dark, endAlarmEvent_buzzer changed⟩
  · refine (perform_working dt toggleLamp reset).trans ?_
    rw [toggleLamp_due (s := advance dt s) lamp start ran]
    rfl
  · refine (perform_working dt endSounding reset).trans ?_
    rw [endSounding_due (s := advance dt s) start ran]
    rfl
  · refine (perform_working dt remind reset).trans ?_
    rw [remind_due (s := advance dt s) start ran enabled interval held]
    rfl

end Sys2Proof.Machine
end

section
/-!
Acknowledgement (section 7.4): what an acknowledge makes of the oldest eligible entry, by request, by button and by ACK frame
(R122, R130, R131, R145).
-/
namespace Sys2Proof.Machine

/-! ### An own alarm (R122) -/

/-- What AckedOwn says carries over to states with the same alarms and notices, at one time. -/
theorem AckedOwn.of_same {e : AlarmEntry} {s s' t t' : State} (h : AckedOwn e s t) (loader : s'.loader = s.loader)
    (table : s'.alarms.table = s.alarms.table) (history : s'.alarms.history = s.alarms.history)
    (number : s'.alarms.nextNumber = s.alarms.nextNumber) (part : s'.line.alarmPart = s.line.alarmPart) (time : now t' = now t)
    (table' : t'.alarms.table = t.alarms.table) (history' : t'.alarms.history = t.alarms.history)
    (number' : t'.alarms.nextNumber = t.alarms.nextNumber) (part' : t'.line.alarmPart = t.line.alarmPart) :
    AckedOwn e s' t' := by
  unfold AckedOwn ChangedOwn ClosedOwn OwnAlarmsStand handedTo at h ⊢
  rw [loader, table, history, number, part, time, table', history', number', part']
  exact h

/-- The event of an ACK for an own alarm does to the alarms what Table 7-3 says. -/
theorem alarmEvent_ackOwn {n : Byte} {e : AlarmEntry} {s : State} (found : findAlarm s s.loader.station n = some e) :
    AckedOwn e s (alarmEvent (ackOwn n) s) := by
  refine (ackOwn_acknowledges n e s found).of_same rfl rfl rfl rfl rfl (now_of_clock ?_) ?_ ?_ ?_ ?_
  all_goals simp [alarmEvent]

/-- An ACK for an own alarm that is acknowledged already changes nothing. -/
theorem alarmEvent_ackOwn_acked {n : Byte} {e : AlarmEntry} {s : State} (found : findAlarm s s.loader.station n = some e)
    (phase : e.phase = .activeAcked) : alarmEvent (ackOwn n) s = s := by
  have idle : ackOwn n s = s := by
    unfold ackOwn
    rw [found]
    dsimp only
    rw [phase]
  rw [alarmEvent_idle (by rw [idle]), idle]

/-- An acknowledge in ACTIVE_UNACK, in the words of origin and number. -/
theorem AckedOwn.changed {e : AlarmEntry} {s t : State} (h : AckedOwn e s t) (phase : e.phase = .activeUnack) :
    t.alarms.table = s.alarms.table.map (fun x =>
        if isEntry e.origin e.number x then { x with phase := .activeAcked, poles := e.poles } else x)
      ∧ t.alarms.history = s.alarms.history
      ∧ t.line.alarmPart =
          (if s.loader.run = .listen ∨ s.loader.run = .running then
            joinAlarm ⟨e.number, e.kind, e.poles, .opened .activeAcked, e.raiseTime.getD 0⟩ s.line.alarmPart
          else s.line.alarmPart) := by
  obtain ⟨table, history, -, part⟩ := h.1 phase
  refine ⟨?_, history, part⟩
  rw [table]
  refine List.map_congr_left fun x _ => ?_
  simp [isEntry]

/-- An acknowledge in CLEARED_UNACK closes the alarm. -/
theorem AckedOwn.closed {e : AlarmEntry} {s t : State} (h : AckedOwn e s t) (phase : e.phase = .clearedUnack) :
    t.alarms.table = s.alarms.table.filter (fun x => !isEntry e.origin e.number x)
      ∧ t.alarms.history =
          (⟨e.origin, e.number, e.kind, e.poles, e.raiseTime, now t, true, .normal⟩ :: s.alarms.history).take 16
      ∧ t.line.alarmPart =
          (if s.loader.run = .listen ∨ s.loader.run = .running then
            joinAlarm ⟨e.number, e.kind, e.poles, .closed false, e.raiseTime.getD 0⟩ s.line.alarmPart
          else s.line.alarmPart) := by
  obtain ⟨table, history, -, part⟩ := h.2.2 phase
  exact ⟨table, history, part⟩

/-! ### Another origin's alarm (R131) -/

/-- The station once an ACK notice for this alarm has joined and its ack pending is QUEUED. -/
def ackQueued (e : AlarmEntry) (s : State) : State :=
  alarmEvent (mapAlarm e.origin e.number fun x => { x with ack := .queued }) (joinAck ⟨e.origin, e.number⟩ s)

theorem ackQueued_spec (e : AlarmEntry) (s : State) :
    (ackQueued e s).line = { s.line with ackPart := s.line.ackPart ++ [⟨⟨e.origin, e.number⟩, 0, false, false⟩] }
      ∧ (ackQueued e s).alarms.table =
          s.alarms.table.map (fun x => if isEntry e.origin e.number x then { x with ack := .queued } else x)
      ∧ (ackQueued e s).alarms.history = s.alarms.history ∧ (ackQueued e s).alarms.buttonArmed = s.alarms.buttonArmed
      ∧ (ackQueued e s).alarms.debounceStart = s.alarms.debounceStart ∧ (ackQueued e s).loader = s.loader
      ∧ (ackQueued e s).port.held = s.port.held := by
  have table : (ackQueued e s).alarms.table =
      s.alarms.table.map (fun x => if isEntry e.origin e.number x then { x with ack := .queued } else x) := by
    rw [ackQueued, alarmEvent, (endAlarmEvent_fields _ _).1]
    rfl
  refine ⟨?_, table, ?_, ?_, ?_, ?_, ?_⟩ <;> simp [ackQueued, alarmEvent]

/-- An ack pending that is QUEUED makes and ends no supply alarm, so under the law of OFF_LINE the view and the grant stand. -/
theorem ackQueued_stands (e : AlarmEntry) {s : State} (law : OffLineUnderAlarm s) :
    (ackQueued e s).supply = s.supply ∧ (ackQueued e s).poles = s.poles ∧ (ackQueued e s).peers = s.peers
      ∧ (ackQueued e s).share = s.share ∧ (ackQueued e s).shed = s.shed := by
  obtain ⟨u, hu⟩ : ∃ u, u = mapAlarm e.origin e.number (fun x => { x with ack := .queued }) (joinAck ⟨e.origin, e.number⟩ s) :=
    ⟨_, rfl⟩
  have same : u.supply = s.supply ∧ u.poles = s.poles ∧ u.peers = s.peers ∧ u.share = s.share ∧ u.shed = s.shed := by
    simp [hu]
  have held : holdsSupplyAlarm u.alarms.table = holdsSupplyAlarm s.alarms.table := by
    rw [hu, mapAlarm, State.withAlarms_alarms, holdsSupplyAlarm, List.any_map]
    refine congrArg (s.alarms.table.any ·) (funext fun x => ?_)
    by_cases mine : isEntry e.origin e.number x <;> simp [mine, isSupplyAlarm]
  have event : ackQueued e s = endAlarmEvent s.alarms.table u := by rw [hu]; rfl
  obtain ⟨supply, poles, peers, share, shed⟩ := same
  rw [event, ← supply, ← poles, ← peers, ← share, ← shed]
  exact endAlarmEvent_stands (by rw [supply]; exact law) held

/-- The ack pending of an entry that had none is a change of the table, which is noted. -/
theorem ackQueued_noted {e : AlarmEntry} {s : State} (found : findAlarm s e.origin e.number = some e)
    (eligible : isEligible e = true) : isPending (ackQueued e s).port .alarmTableChanged = true := by
  refine (endAlarmEvent_changed fun same => ?_).2
  have absent : e.ack = .absent := by
    simp only [isEligible, Bool.and_eq_true, beq_iff_eq] at eligible
    exact eligible.2
  have unmoved := List.map_inj_left.1 (same.trans (List.map_id _).symm) e (List.mem_of_find?_eq_some found)
  rw [if_pos (List.find?_some found), id] at unmoved
  rw [← unmoved] at absent
  cases absent

/-! ### The outcomes of an acknowledge (R131) -/

theorem acknowledge_none {s : State} (none : s.alarms.table.find? isEligible = none) : acknowledge s = (s, .noTarget) := by
  simp only [acknowledge, none]

theorem acknowledge_refused {e : AlarmEntry} {s : State} (first : s.alarms.table.find? isEligible = some e)
    (other : ¬(isCol s = true ∧ e.origin = s.loader.station)) (full : ackAccepted s = false) :
    acknowledge s = (s, .queueFull) := by
  simp only [acknowledge, first, if_neg other, full, Bool.false_eq_true, if_false]

theorem acknowledge_queued {e : AlarmEntry} {s : State} (first : s.alarms.table.find? isEligible = some e)
    (other : ¬(isCol s = true ∧ e.origin = s.loader.station)) (room : ackAccepted s = true) :
    acknowledge s = (ackQueued e s, .ok) := by
  simp only [acknowledge, first, if_neg other, room, if_true, ackQueued]

theorem acknowledge_own {e : AlarmEntry} {s : State} (first : s.alarms.table.find? isEligible = some e) (col : isCol s = true)
    (own : e.origin = s.loader.station) : acknowledge s = (alarmEvent (ackOwn e.number) s, .ok) := by
  simp only [acknowledge, first, col, own, true_and, if_true]

/-- An acknowledge that changes anything is an event of the Alarm Table, which leaves the button logic. -/
theorem acknowledge_button (s : State) :
    (acknowledge s).1.alarms.buttonArmed = s.alarms.buttonArmed
      ∧ (acknowledge s).1.alarms.debounceStart = s.alarms.debounceStart := by
  unfold acknowledge
  split
  · exact ⟨rfl, rfl⟩
  · split
    · simp [alarmEvent]
    · split
      · simp [alarmEvent]
      · exact ⟨rfl, rfl⟩

/-! ### By request (R131, R145) -/

/-- An ACK_ALARM is answered with the outcome of its acknowledge. -/
theorem exec_ackAlarm {frame : PortFrame} {s u : State} {st : Status} (working : Working s) (ready : PortReady s)
    (h : acknowledge (advance frame.dt s) = (u, st)) :
    exec (.ackAlarm frame) s = .next (u.withPort (answered .ackAlarm st [] u.port)) := by
  obtain ⟨-, live⟩ := working
  refine performRequest_ready ready live ?_
  rw [takeAck, h]
  rfl

/-- Settles O14: the acknowledge of each kind of eligible entry, at the time the request ends, and its answer. -/
theorem ackAlarmOutcomes : Obligations.AckAlarmOutcomes := by
  intro frame s working ready law
  refine ⟨fun none => exec_ackAlarm working ready (acknowledge_none (s := advance frame.dt s) none), fun e first found =>
    ⟨fun other full => exec_ackAlarm working ready (acknowledge_refused (s := advance frame.dt s) first other full),
      fun other room => ?_, fun col own phase => ?_, fun col own phase => ?_⟩⟩
  · obtain ⟨line, table, history, -, -, loader, -⟩ := ackQueued_spec e (advance frame.dt s)
    obtain ⟨supply, poles, peers, share, shed⟩ := ackQueued_stands e (s := advance frame.dt s) law
    exact ⟨_, exec_ackAlarm working ready (acknowledge_queued (s := advance frame.dt s) first other room), rfl, line, table,
      history, ackQueued_noted (s := advance frame.dt s) found (List.find?_some first), supply, share, peers, poles, shed, loader⟩
  · have acked := alarmEvent_ackOwn (s := advance frame.dt s) (own ▸ found)
    obtain ⟨table, history, part⟩ := acked.changed phase
    exact ⟨_, exec_ackAlarm working ready (acknowledge_own (s := advance frame.dt s) first col own), rfl, table, history,
      by simp [alarmEvent], by simp [alarmEvent], part, by simp [alarmEvent], by simp [alarmEvent]⟩
  · have acked := alarmEvent_ackOwn (s := advance frame.dt s) (own ▸ found)
    obtain ⟨table, history, part⟩ := acked.closed phase
    exact ⟨_, exec_ackAlarm working ready (acknowledge_own (s := advance frame.dt s) first col own), rfl, table, history, part,
      by simp [alarmEvent], by simp [alarmEvent]⟩

/-! ### By button (R130) -/

/-- The station once it has accepted a press, before it acknowledges. -/
def pressed (s : State) : State := s.withAlarms { s.alarms with buttonArmed := false, debounceStart := s.clock.up }

theorem debounced_of {stood : Nat} {s : State} (level : 20 ≤ stood) (count : 20 ≤ s.clock.up - s.alarms.debounceStart) :
    debounced stood s = true := decide_eq_true (Nat.le_min.2 ⟨level, count⟩)

/-- A debounced press of an armed button is an acknowledge by the latched logic. -/
theorem exec_ackButtonPress {dt stood : Nat} {s : State} (working : Working s) (button : (record s).ackButton = true)
    (level : 20 ≤ stood) (count : 20 ≤ (advance dt s).clock.up - s.alarms.debounceStart) (armed : s.alarms.buttonArmed = true) :
    exec (.ackButtonPress dt stood) s = .next (acknowledge (pressed (advance dt s))).1 := by
  have runs : buttonRuns (advance dt s) = true := Bool.and_eq_true_iff.2 ⟨working.2, button⟩
  refine (perform_working dt (pressButton stood) working.1).trans ?_
  rw [pressButton, if_pos ⟨runs, armed, debounced_of level count⟩]
  rfl

theorem exec_ackButtonRelease {dt stood : Nat} {s : State} (working : Working s) (button : (record s).ackButton = true)
    (level : 20 ≤ stood) (count : 20 ≤ (advance dt s).clock.up - s.alarms.debounceStart) (latched : s.alarms.buttonArmed = false) :
    exec (.ackButtonRelease dt stood) s = .next { advance dt s with
      alarms := { s.alarms with buttonArmed := true, debounceStart := (advance dt s).clock.up } } := by
  have runs : buttonRuns (advance dt s) = true := Bool.and_eq_true_iff.2 ⟨working.2, button⟩
  refine (perform_working dt (releaseButton stood) working.1).trans ?_
  rw [releaseButton, if_pos ⟨runs, latched, debounced_of level count⟩]
  rfl

/-- Settles O50: an accepted press acknowledges as a request does, with the logic latched, and a release arms it. -/
theorem buttonPressAndRelease : Obligations.ButtonPressAndRelease := by
  intro dt stood s working button level count
  refine ⟨?_, exec_ackButtonRelease working button level count⟩
  intro armed latched
  obtain ⟨u, hu⟩ : ∃ u, u = pressed (advance dt s) := ⟨_, rfl⟩
  have after : u = latched := hu
  have clock : (acknowledge u).1.clock = u.clock := (acknowledge_keeps u).1
  refine ⟨_, exec_ackButtonPress working button level count armed, ?_⟩
  rw [← hu, clock, (acknowledge_button u).1, (acknowledge_button u).2]
  rw [← after]
  refine ⟨by rw [hu]; rfl, by rw [hu]; rfl, fun none => ?_, fun e first => ⟨fun other full => ?_, fun other room => ?_,
    fun col own found => ?_⟩⟩
  · rw [acknowledge_none (by rw [hu]; exact none)]
  · rw [acknowledge_refused (by rw [hu]; exact first) (by rw [hu]; exact other) (by rw [hu]; exact full)]
  · rw [acknowledge_queued (by rw [hu]; exact first) (by rw [hu]; exact other) (by rw [hu]; exact room)]
    obtain ⟨line, table, history, -⟩ := ackQueued_spec e u
    rw [line, table, history, hu]
    exact ⟨rfl, rfl, rfl⟩
  · have acked : AckedOwn e u (alarmEvent (ackOwn e.number) u) := alarmEvent_ackOwn (by rw [hu]; exact own ▸ found)
    rw [acknowledge_own (by rw [hu]; exact first) (by rw [hu]; exact col) (by rw [hu]; exact own)]
    refine ⟨acked.of_same ?_ ?_ ?_ ?_ ?_ rfl rfl rfl rfl rfl, ?_⟩
    all_goals simp [alarmEvent, hu, pressed]

/-! ### By an ACK frame, at the origin (R122) -/

/-- A good ACK frame of another station is handed to the Alarm Table (R51). -/
theorem receive_ack {dt idle : Nat} {bytes : List Byte} {src : Station} {c : AckContent} {s : State} (hears : Hearing s idle)
    (good : examine bytes = .good ⟨src, .ack c⟩) (other : src ≠ s.loader.station) :
    exec (.ackFrame dt idle bytes) s = .next (ackHeard c (heardFrame dt s)) :=
  (receive_good hears good).trans (congrArg _ (if_neg other))

/-- An ACK for an own alarm of a COL station is an event of its Alarm Table. -/
theorem ackHeard_own {c : AckContent} {s : State} (col : isCol s = true) (own : c.origin = s.loader.station) :
    ackHeard c s = alarmEvent (ackOwn c.number) s := if_pos ⟨col, own⟩

theorem ackHeard_ignored {c : AckContent} {s : State} (other : ¬(isCol s = true ∧ c.origin = s.loader.station)) :
    ackHeard c s = s := if_neg other

/-! ### The ALARM part at a hand-off (R61) -/

theorem isClosedNotice_iff {n : Notice AlarmContent} : isClosedNotice n = true ↔ ∃ forced, n.content.phase = .closed forced := by
  unfold isClosedNotice
  cases n.content.phase <;> simp

theorem dropFirst_append {α : Type} {p : α → Bool} {x : α} (before after : List α) (off : ∀ y ∈ before, p y = false)
    (on : p x = true) : dropFirst p (before ++ x :: after) = before ++ after := by
  induction before with
  | nil => exact if_pos on
  | cons y rest ih =>
    obtain ⟨here, later⟩ := List.forall_mem_cons.1 off
    rw [List.cons_append, dropFirst, if_neg (by simp [here]), ih later]
    rfl

/-- An alarm without a notice joins at the end, once there is room. -/
theorem joinAlarm_new {c : AlarmContent} {part : List (Notice AlarmContent)} (new : ∀ n ∈ part, n.content.number ≠ c.number) :
    joinAlarm c part = makeAlarmRoom part ++ [⟨c, 0, false, false⟩] := by
  rw [joinAlarm, if_neg]
  simpa using new

/-- With four notices the oldest CLOSED one gives way. -/
theorem makeAlarmRoom_full {n : Notice AlarmContent} (before after : List (Notice AlarmContent))
    (full : 4 ≤ (before ++ n :: after).length) (off : ∀ m ∈ before, isClosedNotice m = false) (on : isClosedNotice n = true) :
    makeAlarmRoom (before ++ n :: after) = before ++ after := by
  have some : (before ++ n :: after).any isClosedNotice = true := by simp [on]
  rw [makeAlarmRoom, if_neg (by omega), if_pos some, dropFirst_append before after off on]

/-- An alarm that has a notice renews it in its place. -/
theorem joinAlarm_renews {c : AlarmContent} {n : Notice AlarmContent} (before after : List (Notice AlarmContent))
    (mine : n.content.number = c.number) (others : ∀ m ∈ before ++ after, m.content.number ≠ c.number) :
    joinAlarm c (before ++ n :: after) = before ++ ⟨c, 0, n.onWire, n.onWire⟩ :: after := by
  have held : (before ++ n :: after).any (fun n => n.content.number == c.number) = true := by simp [mine]
  have stands : ∀ l : List (Notice AlarmContent), (∀ m ∈ l, m ∈ before ++ after) → l.map (fun m =>
      if m.content.number = c.number then { m with content := c, attempts := 0, renewed := m.onWire } else m) = l :=
    fun l sub => (List.map_congr_left fun m mem => if_neg (others m (sub m mem))).trans (List.map_id _)
  rw [joinAlarm, if_pos held, List.map_append, List.map_cons, if_pos mine,
    stands before fun _ => List.mem_append_left _, stands after fun _ => List.mem_append_right _]

/-- Settles O26: the ALARM part takes or renews the notice, and the frame is the ACK of Table 7-3 at its origin. -/
theorem ackFrameAtOrigin : Obligations.AckFrameAtOrigin := by
  refine ⟨?_, fun dt idle bytes src c s hears good other => ?_⟩
  · intro c part closed
    refine ⟨fun new room => ?_, fun before n after split new full off on => ?_, fun before n after split mine others => ?_⟩
    · rw [joinAlarm_new new, makeAlarmRoom, if_pos room]
    · have open' : ∀ m ∈ before, isClosedNotice m = false := fun m mem =>
        Bool.eq_false_iff.2 fun h => off m mem (isClosedNotice_iff.1 h)
      rw [joinAlarm_new new, split, makeAlarmRoom_full before after (split ▸ full) open' (isClosedNotice_iff.2 on)]
    · rw [split, joinAlarm_renews before after mine others]
  · rw [receive_ack hears good other]
    refine ⟨fun ignored => ?_, fun e col own found => ?_⟩
    · rw [ackHeard_ignored (s := heardFrame dt s) ignored]
      rfl
    · have found' : findAlarm (heardFrame dt s) (heardFrame dt s).loader.station c.number = some e := own ▸ found
      have acked := alarmEvent_ackOwn found'
      obtain ⟨origin, number⟩ : e.origin = c.origin ∧ e.number = c.number := by
        simpa [isEntry] using List.find?_some found
      rw [ackHeard_own (s := heardFrame dt s) col own]
      refine ⟨fun phase => ?_, fun phase => ⟨_, rfl, ?_⟩, fun phase => ⟨_, rfl, ?_⟩⟩
      · rw [alarmEvent_ackOwn_acked found' phase]
        rfl
      · obtain ⟨table, history, part⟩ := acked.changed phase
        rw [origin, number] at table
        exact ⟨table, history, by simp [alarmEvent, afterFrame], by simp [alarmEvent], part⟩
      · obtain ⟨table, history, part⟩ := acked.closed phase
        rw [origin, number] at table
        exact ⟨table, history, by simp [alarmEvent, afterFrame], by simp [alarmEvent], part⟩

end Sys2Proof.Machine
end

section
/-!
ALARM frames of a collector (R17, R18, R124 to R126, R133 to R136): what Table 7-4 makes of a notice, and what the end of its event
makes of the annunciator and the supply view.
-/
namespace Sys2Proof.Machine

/-! ### History records (R136) -/

theorem historyOf_forced (e : AlarmEntry) (t : StationTime) :
    historyOf e .forced t = ⟨e.origin, e.number, e.kind, e.poles, e.raiseTime, t, e.phase == .activeAcked, .forced⟩ := by
  have acknowledged : wasAcknowledged e.phase .forced = (e.phase == .activeAcked) := by cases e.phase <;> rfl
  rw [historyOf, acknowledged]

theorem historyOf_normal (e : AlarmEntry) (t : StationTime) :
    historyOf e .normal t = ⟨e.origin, e.number, e.kind, e.poles, e.raiseTime, t, e.phase != .activeUnack, .normal⟩ := by
  have acknowledged : wasAcknowledged e.phase .normal = (e.phase != .activeUnack) := by cases e.phase <;> rfl
  rw [historyOf, acknowledged]

/-- The record of an alarm that a CLOSED notice ends. -/
theorem historyOf_noticed (e : AlarmEntry) (forced : Bool) (t : StationTime) :
    historyOf e (forcedReason forced) t =
      ⟨e.origin, e.number, e.kind, e.poles, e.raiseTime, t,
        e.phase == .activeAcked || (e.phase == .clearedUnack && !forced), if forced then .forced else .normal⟩ := by
  have acknowledged : wasAcknowledged e.phase (forcedReason forced) =
      (e.phase == .activeAcked || (e.phase == .clearedUnack && !forced)) := by cases e.phase <;> cases forced <;> rfl
  rw [historyOf, acknowledged]
  rfl

/-! ### A new entry at a listener (R126, R134) -/

theorem addHeard_room {e : AlarmEntry} {s : State} (room : (ofOrigin e.origin s.alarms.table).length < 4) :
    addHeard e s = addEntry e s := if_pos room

theorem addHeard_gives {e old : AlarmEntry} {s : State} (full : 4 ≤ (ofOrigin e.origin s.alarms.table).length)
    (gives : givesWay e.origin s.alarms.table = some old) : addHeard e s = addEntry e (closeEntry old .forced s) := by
  rw [addHeard, if_neg (Nat.not_lt.2 full), gives]

/-- The oldest entry in CLEARED_UNACK gives way, or else the oldest. -/
theorem givesWay_eq {o : Station} {table : List AlarmEntry} {old : AlarmEntry}
    (h : (ofOrigin o table).find? (fun e => e.phase == .clearedUnack) = some old
      ∨ ((∀ e ∈ ofOrigin o table, e.phase ≠ .clearedUnack) ∧ (ofOrigin o table).head? = some old)) :
    givesWay o table = some old := by
  unfold givesWay
  rcases h with cleared | ⟨none, oldest⟩
  · rw [show (ofOrigin o table).find? isCleared = some old from cleared]
  · have none' : (ofOrigin o table).find? isCleared = .none :=
      List.find?_eq_none.2 fun e mem => by simpa [isCleared] using none e mem
    rw [none']
    exact oldest

/-- A new entry in ACTIVE_UNACK sounds the buzzer and starts its timers. -/
theorem addEntry_sounds {e : AlarmEntry} {s : State} (unack : e.phase = .activeUnack) (enabled : (record s).buzzerEnabled = true) :
    (addEntry e s).alarms.buzzer = true ∧ (addEntry e s).alarms.soundStart = some (now s)
      ∧ ((record s).reminder ≠ 0 → (addEntry e s).alarms.reminderStart = some (now s)) := by
  have sounds : isUnack e = true := by simp [isUnack, unack]
  obtain ⟨u, hu⟩ : ∃ u, u = s.withAlarms { s.alarms with table := s.alarms.table ++ [e] } := ⟨_, rfl⟩
  have same : record u = record s := record_of_loader (by rw [hu]; rfl)
  have time : now u = now s := now_of_clock (by rw [hu]; rfl)
  have added : addEntry e s = soundBuzzer u := by rw [hu]; exact if_pos sounds
  rw [added, soundBuzzer, if_pos (same ▸ enabled), same, time]
  exact ⟨rfl, rfl, fun interval => if_neg interval⟩

/-! ### A notice taken (Table 7-4) -/

theorem newNotice_opened {src : Station} {c : AlarmContent} {p : Phase} {s : State} (phase : c.phase = .opened p) :
    newNotice src c s =
      addHeard (heardEntry s src c.number c.kind c.poles p (some c.raiseTime) (peerOf s src).isNone) s := by
  simp only [newNotice, phase]

theorem newNotice_closed {src : Station} {c : AlarmContent} {forced : Bool} {s : State} (phase : c.phase = .closed forced) :
    newNotice src c s = s := by
  simp only [newNotice, phase]

theorem takeNotice_new {src : Station} {c : AlarmContent} {s : State} (unknown : findAlarm s src c.number = none) :
    takeNotice src c s = newNotice src c s := by
  simp only [takeNotice, unknown]

theorem sameAlarm_iff {c : AlarmContent} {e : AlarmEntry} :
    sameAlarm c e = true ↔ e.kind = c.kind ∧ (e.raiseTime = none ∨ e.raiseTime = some c.raiseTime) := by
  simp [sameAlarm]

/-- A found entry has the origin and the number looked for. -/
theorem findAlarm_names {o : Station} {n : Byte} {e : AlarmEntry} {s : State} (found : findAlarm s o n = some e) :
    e.origin = o ∧ e.number = n := by
  simpa [isEntry] using List.find?_some found

/-- After a close the origin, which had four alarms at most, has room. -/
theorem room_after_close {o : Station} {n : Byte} {e : AlarmEntry} {s : State} (found : findAlarm s o n = some e) (r : CloseReason)
    (few : (ofOrigin o s.alarms.table).length ≤ 4) : (ofOrigin o (closeEntry e r s).alarms.table).length < 4 := by
  have fewer := close_length (r := r) (List.mem_of_find?_eq_some found)
  rw [(findAlarm_names found).1] at fewer
  omega

/-! ### What a notice makes of the table and the history (R124 to R126, R135) -/

/-- The entry that an open notice makes. -/
def noticeEntry (src : Station) (c : AlarmContent) (p : Phase) (s : State) : AlarmEntry :=
  ⟨src, c.number, c.kind, c.poles, p, some c.raiseTime, now s, .absent, (peerOf s src).isNone⟩

theorem closeEntry_table {o : Station} {n : Byte} {e : AlarmEntry} (names : e.origin = o ∧ e.number = n) (r : CloseReason)
    (s : State) :
    (closeEntry e r s).alarms.table = s.alarms.table.filter fun x => !(x.origin == o && x.number == n) := by
  obtain ⟨rfl, rfl⟩ := names
  rfl

theorem closeEntry_history (e : AlarmEntry) (r : CloseReason) (s : State) :
    (closeEntry e r s).alarms.history = (historyOf e r (now s) :: s.alarms.history).take 16 := rfl

/-- With room the new alarm joins at the end. -/
theorem takeNotice_adds {src : Station} {c : AlarmContent} {p : Phase} {s : State} (phase : c.phase = .opened p)
    (unknown : findAlarm s src c.number = none) (room : (ofOrigin src s.alarms.table).length < 4) :
    takeNotice src c s = addEntry (noticeEntry src c p s) s := by
  rw [takeNotice_new unknown, newNotice_opened phase]
  exact addHeard_room room

/-- Without room one of the origin's four alarms is closed first. -/
theorem takeNotice_forces {src : Station} {c : AlarmContent} {p : Phase} {old : AlarmEntry} {s : State}
    (phase : c.phase = .opened p) (unknown : findAlarm s src c.number = none)
    (full : 4 ≤ (ofOrigin src s.alarms.table).length) (gives : givesWay src s.alarms.table = some old) :
    let w := takeNotice src c s
    w.alarms.table =
        s.alarms.table.filter (fun x => !(x.origin == src && x.number == old.number)) ++ [noticeEntry src c p s]
      ∧ w.alarms.history =
          (⟨old.origin, old.number, old.kind, old.poles, old.raiseTime, now s, old.phase == .activeAcked, .forced⟩
            :: s.alarms.history).take 16 := by
  obtain ⟨-, origin⟩ := givesWay_mem gives
  have forces : takeNotice src c s = addEntry (noticeEntry src c p s) (closeEntry old .forced s) := by
    rw [takeNotice_new unknown, newNotice_opened phase]
    exact addHeard_gives full gives
  dsimp only
  rw [forces, addEntry_table, (addEntry_fields _ _).1, closeEntry_table ⟨origin, rfl⟩, closeEntry_history, historyOf_forced]
  exact ⟨rfl, rfl⟩

/-- An open notice of a held alarm updates it in its place. -/
theorem takeNotice_updates {src : Station} {c : AlarmContent} {p : Phase} {e : AlarmEntry} {s : State}
    (found : findAlarm s src c.number = some e) (same : sameAlarm c e = true) (phase : c.phase = .opened p) :
    let w := takeNotice src c s
    w.alarms.table = s.alarms.table.map (fun x =>
        if x.origin = src ∧ x.number = c.number then
          { x with
            phase := p, poles := c.poles, raiseTime := some (x.raiseTime.getD c.raiseTime)
            ack := if p = .activeAcked then .absent else x.ack }
        else x)
      ∧ w.alarms.history = s.alarms.history := by
  have updates : takeNotice src c s = mapAlarm src c.number
      (fun x => { takePhase p c.poles x with raiseTime := some (x.raiseTime.getD c.raiseTime) }) s := by
    simp only [takeNotice, found, same, if_true, phase]
  dsimp only
  rw [updates, (mapAlarm_fields _ _ _ _).1, mapAlarm, State.withAlarms_alarms]
  refine ⟨List.map_congr_left fun x _ => ?_, rfl⟩
  simp [isEntry, takePhase]

/-- A CLOSED notice of a held alarm ends it. -/
theorem takeNotice_closes {src : Station} {c : AlarmContent} {forced : Bool} {e : AlarmEntry} {s : State}
    (found : findAlarm s src c.number = some e) (same : sameAlarm c e = true) (phase : c.phase = .closed forced) :
    let w := takeNotice src c s
    w.alarms.table = s.alarms.table.filter (fun x => !(x.origin == src && x.number == c.number))
      ∧ w.alarms.history =
          (⟨e.origin, e.number, e.kind, e.poles, e.raiseTime, now s,
            e.phase == .activeAcked || (e.phase == .clearedUnack && !forced), if forced then .forced else .normal⟩
            :: s.alarms.history).take 16 := by
  have closes : takeNotice src c s = closeEntry e (forcedReason forced) s := by
    simp only [takeNotice, found, same, if_true, phase]
  dsimp only
  rw [closes, closeEntry_table (findAlarm_names found), closeEntry_history, historyOf_noticed]
  exact ⟨rfl, rfl⟩

/-- A differing alarm under a held number closes the held one and counts as new. -/
theorem takeNotice_replaces {src : Station} {c : AlarmContent} {e : AlarmEntry} {s : State}
    (found : findAlarm s src c.number = some e) (differs : ¬sameAlarm c e = true)
    (few : (ofOrigin src s.alarms.table).length ≤ 4) :
    let w := takeNotice src c s
    let others := s.alarms.table.filter fun x => !(x.origin == src && x.number == c.number)
    (∀ p, c.phase = .opened p → w.alarms.table = others ++ [noticeEntry src c p s])
      ∧ (∀ forced, c.phase = .closed forced → w.alarms.table = others)
      ∧ w.alarms.history =
          (⟨e.origin, e.number, e.kind, e.poles, e.raiseTime, now s, e.phase != .activeUnack, .normal⟩
            :: s.alarms.history).take 16 := by
  have replaces : takeNotice src c s = newNotice src c (closeEntry e .normal s) := by
    simp only [takeNotice, found, if_neg differs]
  have opens : ∀ p, c.phase = .opened p →
      takeNotice src c s = addEntry (noticeEntry src c p s) (closeEntry e .normal s) := by
    intro p phase
    rw [replaces, newNotice_opened phase]
    exact addHeard_room (room_after_close found .normal few)
  have closes : ∀ forced, c.phase = .closed forced → takeNotice src c s = closeEntry e .normal s :=
    fun forced phase => replaces.trans (newNotice_closed phase)
  have left := closeEntry_table (findAlarm_names found) .normal s
  dsimp only
  rw [← historyOf_normal, ← closeEntry_history]
  refine ⟨fun p phase => ?_, fun forced phase => ?_, ?_⟩
  · rw [opens p phase, addEntry_table, left]
  · rw [closes forced phase, left]
  · cases phase : c.phase with
    | opened p => rw [opens p phase, (addEntry_fields _ _).1]
    | closed forced => rw [closes forced phase]

/-! ### The event of a notice (R118, R124) -/

/-- The station after an ALARM notice from this collector. -/
def noticeTaken (src : Station) (c : AlarmContent) (s : State) : State := alarmEvent (takeNotice src c) s

/-- A good ALARM frame of a collector is an event of the Alarm Table (R51). -/
theorem exec_alarmFrame {dt idle : Nat} {bytes : List Byte} {src : Station} {c : AlarmContent} {s : State}
    (hears : Hearing s idle) (good : examine bytes = .good ⟨src, .alarm c⟩) (other : src ≠ s.loader.station)
    (source : noticeSource s src = true) :
    exec (.alarmFrame dt idle bytes) s = .next (noticeTaken src c (heardFrame dt s)) := by
  have heard : handOn ⟨src, .alarm c⟩ (heardFrame dt s) = alarmHeard src c (heardFrame dt s) := if_neg other
  exact (receive_good hears good).trans (congrArg _ (heard.trans (if_pos source)))

/-- What the end of the event leaves of the notice's own work, and of the station. -/
theorem noticeTaken_spec (src : Station) (c : AlarmContent) (dt : Nat) (s : State) :
    let t := noticeTaken src c (heardFrame dt s)
    t.alarms.table = (takeNotice src c (heardFrame dt s)).alarms.table
      ∧ t.alarms.history = (takeNotice src c (heardFrame dt s)).alarms.history
      ∧ now t = now (heardFrame dt s) ∧ t.line = afterFrame s.line ∧ t.loader = s.loader := by
  refine ⟨?_, ?_, now_of_clock ?_, ?_, ?_⟩ <;> simp [noticeTaken, alarmEvent]

/-- A supply alarm held at the end of an event finds or takes the view to OFF_LINE (R17). -/
theorem endAlarmEvent_offLine {before : List AlarmEntry} {s : State} (held : holdsSupplyAlarm s.alarms.table = true)
    (h : s.alarms.table ≠ before ∨ s.supply.view = .offLine) : (endAlarmEvent before s).supply.view = .offLine := by
  rcases endAlarmEvent_cases before s with ⟨same, e⟩ | ⟨e, offLine, -⟩ | ⟨e, -⟩ | ⟨-, none, -⟩
  · rw [e]
    exact h.resolve_left fun changed => changed same
  · rw [e, (settled_keeps before s).2.2.1]
    exact offLine held
  · rw [e, (enterOffLine_spec _).1]
  · rw [held] at none
    cases none

/-- The end of the last supply alarm, with voltage ok and no record, is the way out of OFF_LINE (R18). -/
theorem endAlarmEvent_exits {before : List AlarmEntry} {s : State} (held : holdsSupplyAlarm before = true)
    (none : holdsSupplyAlarm s.alarms.table = false) (view : s.supply.view = .offLine) (ok : s.supply.voltageOk = true)
    (records : s.supply.records = []) : endAlarmEvent before s = enterRestoring (settled before s) := by
  rcases endAlarmEvent_cases before s with ⟨same, -⟩ | ⟨-, -, stays⟩ | ⟨-, held', -⟩ | ⟨e, -⟩
  · rw [same, held] at none
    cases none
  · rcases stays none held view with bad | some
    · rw [ok] at bad
      cases bad
    · exact absurd records some
  · rw [held'] at none
    cases none
  · exact e

/-- A new alarm in ACTIVE_UNACK at the end of its event: the lamp flashes, and the buzzer sounds with its timers started. -/
theorem endAlarmEvent_alerts {e : AlarmEntry} {s : State} (unack : e.phase = .activeUnack) :
    let t := endAlarmEvent s.alarms.table (addEntry e s)
    ((record s).lampEnabled = true → t.alarms.lamp = .flashing)
      ∧ ((record s).buzzerEnabled = true → t.alarms.buzzer = true ∧ t.alarms.soundStart = some (now s)
          ∧ ((record s).reminder ≠ 0 → t.alarms.reminderStart = some (now s))) := by
  obtain ⟨v, hv⟩ : ∃ v, v = addEntry e s := ⟨_, rfl⟩
  have table : v.alarms.table = s.alarms.table ++ [e] := hv ▸ addEntry_table e s
  have mem : e ∈ v.alarms.table := by simp [table]
  have changed : v.alarms.table ≠ s.alarms.table := by simp [table]
  have same : record v = record s := record_of_loader (by simp [hv])
  have time : now v = now s := now_of_clock (by simp [hv])
  intro t
  rw [← same, ← time]
  have ht : t = endAlarmEvent s.alarms.table v := by rw [hv]
  rw [ht]
  refine ⟨fun enabled => ?_, fun enabled => ?_⟩
  · have flashes : lampFor v.alarms.table = .flashing := by
      rw [lampFor_eq, if_neg (List.ne_nil_of_mem mem), if_pos ⟨e, mem, by simp [unack]⟩]
    obtain ⟨lamp, -⟩ := (endAlarmEvent_lamp changed).1 enabled
    exact lamp.trans flashes
  · obtain ⟨buzzer, sound, reminder⟩ := (endAlarmEvent_buzzer changed).2.1 ⟨e, mem, unack⟩
    obtain ⟨on, starts, again⟩ := addEntry_sounds unack (same ▸ enabled)
    rw [← hv, ← time] at starts again
    refine ⟨buzzer.trans (hv ▸ on), sound.trans starts, fun interval => ?_⟩
    rw [reminder, again (same ▸ interval), ite_self]

/-- A new alarm that joins is noted; one of DEWIRE or LINE_DEAD in an active phase takes the view to OFF_LINE (R17). -/
theorem noticeTaken_adds {src : Station} {c : AlarmContent} {p : Phase} {s : State} (phase : c.phase = .opened p)
    (unknown : findAlarm s src c.number = none) (room : (ofOrigin src s.alarms.table).length < 4) :
    let t := noticeTaken src c s
    isPending t.port .alarmTableChanged = true
      ∧ (c.kind ≠ .retrieveFail → p ≠ .clearedUnack → t.supply.view = .offLine)
      ∧ (p = .activeUnack → (record s).lampEnabled = true → t.alarms.lamp = .flashing)
      ∧ (p = .activeUnack → (record s).buzzerEnabled = true → t.alarms.buzzer = true ∧ t.alarms.soundStart = some (now s)
          ∧ ((record s).reminder ≠ 0 → t.alarms.reminderStart = some (now s))) := by
  have event : noticeTaken src c s = endAlarmEvent s.alarms.table (addEntry (noticeEntry src c p s) s) := by
    rw [noticeTaken, alarmEvent, takeNotice_adds phase unknown room]
  have changed : (addEntry (noticeEntry src c p s) s).alarms.table ≠ s.alarms.table := by simp [addEntry_table]
  dsimp only
  rw [event]
  refine ⟨(endAlarmEvent_changed changed).2, fun kind active => endAlarmEvent_offLine ?_ (.inl changed),
    fun unack => (endAlarmEvent_alerts unack).1, fun unack => (endAlarmEvent_alerts unack).2⟩
  simp [addEntry_table, holdsSupplyAlarm, isSupplyAlarm, noticeEntry, kind, active]

/-- What a CLOSED notice makes of the view at a station in OFF_LINE: out of it with the last supply alarm, and else none (R18). -/
theorem noticeTaken_closes {src : Station} {c : AlarmContent} {forced : Bool} {e : AlarmEntry} {s : State}
    (found : findAlarm s src c.number = some e) (same : sameAlarm c e = true) (phase : c.phase = .closed forced)
    (view : s.supply.view = .offLine) :
    let t := noticeTaken src c s
    let others := s.alarms.table.filter fun x => !(x.origin == src && x.number == c.number)
    (isSupplyAlarm e = true → s.supply.voltageOk = true → s.supply.records = [] → (∀ x ∈ others, isSupplyAlarm x = false) →
        LeftTheWait s t)
      ∧ ((∃ x ∈ others, isSupplyAlarm x = true) → t.supply.view = .offLine) := by
  obtain ⟨left, -⟩ := takeNotice_closes found same phase
  dsimp only at left ⊢
  rw [← left, noticeTaken, alarmEvent]
  refine ⟨fun supplied ok records none => ?_, fun held => ?_⟩
  · have before : holdsSupplyAlarm s.alarms.table = true :=
      List.any_eq_true.2 ⟨e, List.mem_of_find?_eq_some found, supplied⟩
    have after : holdsSupplyAlarm (takeNotice src c s).alarms.table = false :=
      List.any_eq_false.2 fun x mem => by simp [none x mem]
    rw [endAlarmEvent_exits before after (by simp [view]) (by simp [ok]) (by simp [records])]
    refine leftTheWait_enterRestoring ?_ (restoreRank_of_peers ?_ ?_) <;> simp
  · exact endAlarmEvent_offLine (List.any_eq_true.2 held) (.inr (by simp [view]))

/-- Settles O25: the case of Table 7-4 gives the table and the history, and the end of the event the view and the annunciator. -/
theorem alarmNoticeTaken : Obligations.AlarmNoticeTaken := by
  intro dt idle bytes src c s hears good other source others fresh closed same
  have run := exec_alarmFrame (dt := dt) hears good other source
  obtain ⟨table, history, time, line, loader⟩ := noticeTaken_spec src c dt s
  have entry : ∀ p, noticeEntry src c p (heardFrame dt s) = fresh p (noticeTaken src c (heardFrame dt s)) := by
    intro p
    rw [noticeEntry, ← time]
    rfl
  refine ⟨fun p phase unknown room => ?_, fun p phase unknown full old gives => ?_, fun p e phase found alike => ?_,
    fun e found differs few => ?_, fun forced e phase found alike => ?_⟩
  · obtain ⟨noted, view, lamp, buzzer⟩ := noticeTaken_adds (s := heardFrame dt s) phase unknown room
    rw [takeNotice_adds (s := heardFrame dt s) phase unknown room, addEntry_table, entry] at table
    rw [takeNotice_adds (s := heardFrame dt s) phase unknown room, (addEntry_fields _ _).1] at history
    rw [← time] at buzzer
    exact ⟨_, run, table, history, noted, view, lamp, buzzer, line, loader⟩
  · obtain ⟨left, forced⟩ := takeNotice_forces (s := heardFrame dt s) phase unknown full (givesWay_eq gives)
    rw [entry] at left
    rw [← time] at forced
    exact ⟨_, run, table.trans left, history.trans forced, line, loader⟩
  · obtain ⟨updated, stands⟩ := takeNotice_updates (s := heardFrame dt s) found (sameAlarm_iff.2 alike) phase
    exact ⟨_, run, table.trans updated, history.trans stands, line, loader⟩
  · obtain ⟨opens, closes, normal⟩ := takeNotice_replaces (s := heardFrame dt s) found (mt sameAlarm_iff.1 differs) few
    rw [← time] at normal
    exact ⟨_, run, fun p phase => by rw [table, opens p phase, entry]; rfl, fun forced phase => table.trans (closes forced phase),
      history.trans normal, line, loader⟩
  · obtain ⟨left, ended⟩ := takeNotice_closes (s := heardFrame dt s) found (sameAlarm_iff.2 alike) phase
    have wait := noticeTaken_closes (s := heardFrame dt s) found (sameAlarm_iff.2 alike) phase
    rw [← time] at ended
    refine ⟨_, run, table.trans left, history.trans ended, fun view supplied ok records none => ?_,
      fun view => (wait view).2, line, loader⟩
    obtain ⟨-, zero, delay⟩ := (wait view).1 supplied ok records none
    exact ⟨zero, delay⟩

end Sys2Proof.Machine
end

section
/-!
STATE frames of a collector (R72, R74, R127 to R129, R135): the reconciliation of its summary with the table.
-/
namespace Sys2Proof.Machine

/-! ### The steps of a reconciliation (R127) -/

/-- Step 2 of R127: the entries of the origin take the phase and the poles of the items they match. -/
def takeItems (o : Station) (items : List SummaryItem) (s : State) : State :=
  s.withAlarms { s.alarms with table := s.alarms.table.map fun e => if e.origin = o then takeItem items e else e }

/-- The last step: no entry of the origin is orphaned (R129). -/
def unorphan (o : Station) (s : State) : State :=
  s.withAlarms { s.alarms with
    table := s.alarms.table.map fun e => if e.origin = o then { e with orphaned := false } else e }

/-- The reason for which a summary ends the alarms it does not list (R128). -/
def missingReason (rejoin : Bool) : CloseReason := if rejoin then .originRestarted else .normal

theorem reconcile_eq (o : Station) (summary : List SummaryItem) (rejoin : Bool) (s : State) :
    reconcile o summary rejoin s =
      unorphan o ((firstItems [] summary).foldl (addItem o)
        (takeItems o (firstItems [] summary) (closeMissing o (firstItems [] summary) (missingReason rejoin) s))) := rfl

/-- The items kept of a summary are items of it. -/
theorem mem_of_mem_firstItems {seen : List Byte} {i : SummaryItem} {summary : List SummaryItem}
    (mem : i ∈ firstItems seen summary) : i ∈ summary := by
  induction summary generalizing seen with
  | nil => exact mem
  | cons j rest ih =>
    unfold firstItems at mem
    split at mem
    · exact List.mem_cons_of_mem _ (ih mem)
    · exact (List.mem_cons.1 mem).elim (fun h => h ▸ List.mem_cons_self) fun h => List.mem_cons_of_mem _ (ih h)

/-- Of a summary with distinct numbers every item is kept. -/
theorem firstItems_nodup {seen : List Byte} {summary : List SummaryItem} (nodup : (summary.map (·.number)).Nodup)
    (unseen : ∀ i ∈ summary, i.number ∉ seen) : firstItems seen summary = summary := by
  induction summary generalizing seen with
  | nil => rfl
  | cons i rest ih =>
    obtain ⟨new, nodup⟩ := List.nodup_cons.1 nodup
    obtain ⟨here, later⟩ := List.forall_mem_cons.1 unseen
    have unseen' : ∀ j ∈ rest, j.number ∉ i.number :: seen := fun j mem again =>
      (List.mem_cons.1 again).elim (fun same => new (List.mem_map.2 ⟨j, mem, same⟩)) (later j mem)
    rw [firstItems, if_neg (by simpa using here), ih nodup unseen']

/-! ### The entries of the origin follow the summary -/

/-- The entry is as the item says. -/
def Fits (e : AlarmEntry) (i : SummaryItem) : Prop :=
  e.number = i.number ∧ e.kind = i.kind ∧ e.poles = i.poles ∧ e.phase = i.phase

/-- Every entry of the origin is as an item of the list says. -/
def Conforms (o : Station) (items : List SummaryItem) (s : State) : Prop :=
  ∀ e ∈ s.alarms.table, e.origin = o → ∃ i ∈ items, Fits e i

theorem matchesItem_iff {e : AlarmEntry} {i : SummaryItem} :
    matchesItem e i = true ↔ e.number = i.number ∧ e.kind = i.kind := by simp [matchesItem]

theorem takeItem_fits {items : List SummaryItem} {e : AlarmEntry} (listed : ∃ i ∈ items, matchesItem e i = true) :
    ∃ i ∈ items, Fits (takeItem items e) i := by
  obtain ⟨i, found⟩ := Option.isSome_iff_exists.1 (List.find?_isSome.2 listed)
  obtain ⟨number, kind⟩ := matchesItem_iff.1 (List.find?_some found)
  refine ⟨i, List.mem_of_find?_eq_some found, ?_⟩
  rw [takeItem, found]
  exact ⟨number, kind, rfl, rfl⟩

theorem conforms_takeItems {o : Station} {items : List SummaryItem} {s : State} (listed : Listed o items s) :
    Conforms o items (takeItems o items s) := by
  intro e mem origin
  obtain ⟨x, held, rfl⟩ := List.mem_map.1 mem
  by_cases mine : x.origin = o
  · rw [if_pos mine]
    exact takeItem_fits (listed x held mine)
  · rw [if_neg mine] at origin
    exact absurd origin mine

theorem conforms_addItem {o : Station} {items : List SummaryItem} {i : SummaryItem} {s : State} (mem : i ∈ items)
    (conforms : Conforms o items s) : Conforms o items (addItem o s i) := by
  unfold addItem
  split
  · exact conforms
  · intro e held origin
    rcases mem_addHeard held with rfl | held
    · exact ⟨i, mem, rfl, rfl, rfl, rfl⟩
    · exact conforms e held origin

theorem conforms_addItems {o : Station} {items : List SummaryItem} (some : List SummaryItem) (sub : ∀ i ∈ some, i ∈ items)
    {s : State} (conforms : Conforms o items s) : Conforms o items (some.foldl (addItem o) s) := by
  induction some generalizing s with
  | nil => exact conforms
  | cons i rest ih =>
    obtain ⟨here, later⟩ := List.forall_mem_cons.1 sub
    exact ih later (conforms_addItem here conforms)

/-- After a reconciliation the entries of the origin follow its summary, and none is orphaned. -/
theorem reconcile_conforms (o : Station) (summary : List SummaryItem) (rejoin : Bool) (s : State) :
    ∀ e ∈ (reconcile o summary rejoin s).alarms.table, e.origin = o → e.orphaned = false ∧ ∃ i ∈ summary, Fits e i := by
  intro e mem origin
  obtain ⟨-, listed⟩ := closeMissing_spec o (firstItems [] summary) (missingReason rejoin) s
  have conforms := conforms_addItems (firstItems [] summary) (fun _ h => h) (conforms_takeItems listed)
  rw [reconcile_eq] at mem
  obtain ⟨x, held, rfl⟩ := List.mem_map.1 mem
  by_cases mine : x.origin = o
  · rw [if_pos mine]
    obtain ⟨i, kept, fits⟩ := conforms x held mine
    exact ⟨rfl, i, mem_of_mem_firstItems kept, fits⟩
  · rw [if_neg mine] at origin
    exact absurd origin mine

/-! ### Alarms of other origins -/

/-- The entries of the other origins are the same, in the same order. -/
def OtherOriginsStand (o : Station) (s t : State) : Prop :=
  t.alarms.table.filter (fun e => e.origin != o) = s.alarms.table.filter fun e => e.origin != o

theorem otherOriginsStand_closeEntry {o : Station} {e : AlarmEntry} (mine : e.origin = o) (r : CloseReason) (s : State) :
    OtherOriginsStand o s (closeEntry e r s) := by
  unfold OtherOriginsStand closeEntry
  rw [State.withAlarms_alarms, List.filter_filter]
  refine List.filter_congr fun x _ => ?_
  by_cases other : x.origin = o <;> simp [isEntry, mine, other]

theorem otherOriginsStand_closes {o : Station} (r : CloseReason) (gone : List AlarmEntry) (mine : ∀ e ∈ gone, e.origin = o)
    (s : State) : OtherOriginsStand o s (gone.foldl (fun s e => closeEntry e r s) s) := by
  induction gone generalizing s with
  | nil => rfl
  | cons e rest ih =>
    obtain ⟨here, later⟩ := List.forall_mem_cons.1 mine
    exact (ih later _).trans (otherOriginsStand_closeEntry here r s)

theorem otherOriginsStand_map {o : Station} {s t : State} {f : AlarmEntry → AlarmEntry} (names : ∀ e, (f e).origin = e.origin)
    (h : t.alarms.table = s.alarms.table.map fun e => if e.origin = o then f e else e) : OtherOriginsStand o s t := by
  unfold OtherOriginsStand
  rw [h]
  induction s.alarms.table with
  | nil => rfl
  | cons e rest ih =>
    by_cases mine : e.origin = o
    · simp [mine, names, ih]
    · simp [mine, ih]

theorem otherOriginsStand_addEntry {o : Station} {e : AlarmEntry} (mine : e.origin = o) (s : State) :
    OtherOriginsStand o s (addEntry e s) := by
  unfold OtherOriginsStand
  rw [addEntry_table, List.filter_append]
  simp [mine]

theorem otherOriginsStand_addItem (o : Station) (s : State) (i : SummaryItem) : OtherOriginsStand o s (addItem o s i) := by
  unfold addItem
  split
  · rfl
  · rcases addHeard_cases (heardEntry s o i.number i.kind i.poles i.phase none false) s with ⟨-, h⟩ | ⟨old, -, mine, h⟩ <;> rw [h]
    · exact otherOriginsStand_addEntry (by rfl) s
    · exact (otherOriginsStand_addEntry (by rfl) _).trans (otherOriginsStand_closeEntry mine _ _)

theorem otherOriginsStand_addItems (o : Station) (items : List SummaryItem) (s : State) :
    OtherOriginsStand o s (items.foldl (addItem o) s) := by
  induction items generalizing s with
  | nil => rfl
  | cons i rest ih => exact (ih _).trans (otherOriginsStand_addItem o s i)

theorem otherOriginsStand_reconcile (o : Station) (summary : List SummaryItem) (rejoin : Bool) (s : State) :
    OtherOriginsStand o s (reconcile o summary rejoin s) := by
  obtain ⟨a, ha⟩ : ∃ a, a = closeMissing o (firstItems [] summary) (missingReason rejoin) s := ⟨_, rfl⟩
  obtain ⟨b, hb⟩ : ∃ b, b = takeItems o (firstItems [] summary) a := ⟨_, rfl⟩
  have closed : OtherOriginsStand o s a := by
    rw [ha]
    refine otherOriginsStand_closes _ _ (fun e mem => ?_) s
    exact beq_iff_eq.1 (List.mem_filter.1 (List.mem_of_mem_filter mem)).2
  have taken : OtherOriginsStand o a b := otherOriginsStand_map (fun e => (takeItem_names _ e).1) (by rw [hb]; rfl)
  have added := otherOriginsStand_addItems o (firstItems [] summary) b
  have cleared : OtherOriginsStand o ((firstItems [] summary).foldl (addItem o) b) (reconcile o summary rejoin s) :=
    otherOriginsStand_map (f := fun e => { e with orphaned := false }) (fun _ => rfl) (by rw [reconcile_eq, hb, ha]; rfl)
  exact cleared.trans (added.trans (taken.trans closed))

/-! ### A summary with distinct numbers: nothing gives way -/

/-- The numbers of the open alarms of one origin. -/
def numbersOf (o : Station) (s : State) : List Byte := (ofOrigin o s.alarms.table).map (·.number)

/-- No entry of the origin has this item's number and kind, so its number is none of the origin's. -/
theorem number_free {o : Station} {items : List SummaryItem} {i : SummaryItem} {s : State}
    (nodup : (items.map (·.number)).Nodup) (mem : i ∈ items) (conforms : Conforms o items s)
    (missing : ¬(ofOrigin o s.alarms.table).any (fun e => matchesItem e i) = true) : i.number ∉ numbersOf o s := by
  intro again
  obtain ⟨e, held, same⟩ := List.mem_map.1 again
  obtain ⟨inTable, origin⟩ := List.mem_filter.1 held
  obtain ⟨j, listed, number, kind, -⟩ := conforms e inTable (beq_iff_eq.1 origin)
  obtain rfl : j = i := item_of_number nodup listed mem (number.symm.trans same)
  exact missing (List.any_eq_true.2 ⟨e, held, matchesItem_iff.2 ⟨number, kind⟩⟩)

/-- While the number of an item is still to come, an origin that conforms to four items at most has room for its entry. -/
theorem room_for_item {o : Station} {items : List SummaryItem} {i : SummaryItem} {s : State} (few : items.length ≤ 4)
    (mem : i ∈ items) (conforms : Conforms o items s) (once : (numbersOf o s).Nodup) (free : i.number ∉ numbersOf o s) :
    (ofOrigin o s.alarms.table).length < 4 := by
  have sub : i.number :: numbersOf o s ⊆ items.map (·.number) := by
    refine List.cons_subset.2 ⟨List.mem_map_of_mem mem, fun n held => ?_⟩
    obtain ⟨e, inOrigin, rfl⟩ := List.mem_map.1 held
    obtain ⟨inTable, origin⟩ := List.mem_filter.1 inOrigin
    obtain ⟨j, listed, number, -⟩ := conforms e inTable (beq_iff_eq.1 origin)
    exact List.mem_map.2 ⟨j, listed, number.symm⟩
  have count := ((List.nodup_cons.2 ⟨free, once⟩).subperm sub).length_le
  rw [List.length_cons, List.length_map, numbersOf, List.length_map] at count
  omega

/-- What the table and the history are like once one item has been looked at: the entry of the item is there, and the entries and
records before it still are. -/
structure ItemJoined (o : Station) (i : SummaryItem) (s t : State) : Prop where
  there : ∃ e ∈ t.alarms.table, e.origin = o ∧ Fits e i
  stay : ∀ e ∈ s.alarms.table, e ∈ t.alarms.table
  history : t.alarms.history = s.alarms.history
  once : (numbersOf o t).Nodup

theorem addItem_joins {o : Station} {items : List SummaryItem} {i : SummaryItem} {s : State}
    (nodup : (items.map (·.number)).Nodup) (few : items.length ≤ 4) (mem : i ∈ items) (conforms : Conforms o items s)
    (once : (numbersOf o s).Nodup) : ItemJoined o i s (addItem o s i) := by
  unfold addItem
  by_cases held : (ofOrigin o s.alarms.table).any (fun e => matchesItem e i) = true
  · rw [if_pos held]
    obtain ⟨e, inOrigin, same⟩ := List.any_eq_true.1 held
    obtain ⟨inTable, origin⟩ := List.mem_filter.1 inOrigin
    obtain ⟨j, listed, fits⟩ := conforms e inTable (beq_iff_eq.1 origin)
    obtain rfl : j = i := item_of_number nodup listed mem (fits.1.symm.trans (matchesItem_iff.1 same).1)
    exact ⟨⟨e, inTable, beq_iff_eq.1 origin, fits⟩, fun _ h => h, rfl, once⟩
  · have free := number_free nodup mem conforms held
    obtain ⟨e, he⟩ : ∃ e, e = heardEntry s o i.number i.kind i.poles i.phase none false := ⟨_, rfl⟩
    have origin : e.origin = o := by rw [he]; rfl
    have fits : Fits e i := by rw [he]; exact ⟨rfl, rfl, rfl, rfl⟩
    have adds : addHeard e s = addEntry e s :=
      addHeard_room (by rw [origin]; exact room_for_item few mem conforms once free)
    have table := addEntry_table e s
    have numbers : numbersOf o (addEntry e s) = numbersOf o s ++ [i.number] := by
      rw [numbersOf, table, ofOrigin, List.filter_append, List.map_append]
      simp [origin, fits.1, numbersOf, ofOrigin]
    rw [if_neg held, ← he, adds]
    refine ⟨⟨e, by simp [table], origin, fits⟩, fun x h => by simp [table, h], (addEntry_fields e s).1, ?_⟩
    rw [numbers, ← List.concat_eq_append]
    exact List.Nodup.concat free once

/-- Step 3 of R127 over some of the items: each has its entry, and nothing gives way. -/
theorem addItems_join {o : Station} {items : List SummaryItem} (nodup : (items.map (·.number)).Nodup) (few : items.length ≤ 4)
    (some : List SummaryItem) (sub : ∀ i ∈ some, i ∈ items) {s : State} (conforms : Conforms o items s)
    (once : (numbersOf o s).Nodup) :
    let t := some.foldl (addItem o) s
    (∀ i ∈ some, ∃ e ∈ t.alarms.table, e.origin = o ∧ Fits e i) ∧ (∀ e ∈ s.alarms.table, e ∈ t.alarms.table)
      ∧ t.alarms.history = s.alarms.history := by
  induction some generalizing s with
  | nil => exact ⟨fun i none => absurd none List.not_mem_nil, fun _ h => h, rfl⟩
  | cons i rest ih =>
    obtain ⟨here, later⟩ := List.forall_mem_cons.1 sub
    obtain ⟨⟨e, mem, fits⟩, stay, history, once'⟩ := addItem_joins nodup few here conforms once
    obtain ⟨there, stay', history'⟩ := ih later (conforms_addItem here conforms) once'
    exact ⟨List.forall_mem_cons.2 ⟨⟨e, stay' e mem, fits⟩, there⟩, fun x h => stay' x (stay x h), history'.trans history⟩

/-! ### What the reconciliation finds -/

/-- The entries of an origin that its summary does not list. -/
def missingFrom (o : Station) (summary : List SummaryItem) (s : State) : List AlarmEntry :=
  (ofOrigin o s.alarms.table).filter fun a => !summary.any fun i => a.number == i.number && a.kind == i.kind

/-- Step 2 leaves the numbers. -/
theorem numbersOf_takeItems (o : Station) (items : List SummaryItem) (s : State) :
    numbersOf o (takeItems o items s) = numbersOf o s := by
  have names : ∀ e : AlarmEntry, (if e.origin = o then takeItem items e else e).origin = e.origin
      ∧ (if e.origin = o then takeItem items e else e).number = e.number := by
    intro e
    obtain ⟨origin, number, -⟩ := takeItem_names items e
    split
    · exact ⟨origin, number⟩
    · exact ⟨rfl, rfl⟩
  unfold numbersOf ofOrigin takeItems
  rw [State.withAlarms_alarms, List.filter_map, List.map_map]
  simp only [Function.comp_def, names]

theorem closes_sublist (r : CloseReason) (gone : List AlarmEntry) (s : State) :
    (gone.foldl (fun s e => closeEntry e r s) s).alarms.table.Sublist s.alarms.table := by
  induction gone generalizing s with
  | nil => exact .refl _
  | cons e rest ih => exact (ih _).trans List.filter_sublist

/-- A summary with distinct numbers: each item has its entry, and the history takes the alarms it does not list (R127, R135). -/
theorem reconcile_distinct {o : Station} {summary : List SummaryItem} (rejoin : Bool) {s : State}
    (nodup : (summary.map (·.number)).Nodup) (few : summary.length ≤ 4) (once : (numbersOf o s).Nodup) :
    let t := reconcile o summary rejoin s
    (∀ i ∈ summary, ∃ e ∈ t.alarms.table, e.origin = o ∧ Fits e i)
      ∧ (HistoryBounded s → t.alarms.history =
          ((missingFrom o summary s).reverse.map (historyOf · (missingReason rejoin) (now s)) ++ s.alarms.history).take 16) := by
  obtain ⟨a, ha⟩ : ∃ a, a = closeMissing o summary (missingReason rejoin) s := ⟨_, rfl⟩
  obtain ⟨b, hb⟩ : ∃ b, b = takeItems o summary a := ⟨_, rfl⟩
  have result : reconcile o summary rejoin s = unorphan o (summary.foldl (addItem o) b) := by
    rw [reconcile_eq, firstItems_nodup nodup fun _ _ => List.not_mem_nil, hb, ha]
  have folds : a = (missingFrom o summary s).foldl (fun s e => closeEntry e (missingReason rejoin) s) s := ha
  have onceA : (numbersOf o a).Nodup := by
    rw [folds]
    exact once.sublist (((closes_sublist _ _ s).filter _).map _)
  have followsB : Conforms o summary b := by
    rw [hb, ha]
    exact conforms_takeItems (closeMissing_spec o summary (missingReason rejoin) s).2
  obtain ⟨there, -, history⟩ := addItems_join nodup few summary (fun _ h => h) followsB
    (by rw [hb, numbersOf_takeItems]; exact onceA)
  dsimp only
  rw [result]
  refine ⟨fun i mem => ?_, fun bounded => ?_⟩
  · obtain ⟨e, held, origin, fits⟩ := there i mem
    exact ⟨_, List.mem_map_of_mem held, by rw [if_pos origin]; exact ⟨origin, fits⟩⟩
  · obtain ⟨-, closed⟩ := closes_eq (missingReason rejoin) (missingFrom o summary s) bounded
    rw [← closed, ← folds]
    exact history.trans (by rw [hb]; rfl)

/-- An alarm that a summary ends is recorded as acknowledged by its phase and the reason (R136). -/
theorem historyOf_missing (a : AlarmEntry) (rejoin : Prop) [Decidable rejoin] (t : StationTime) :
    historyOf a (missingReason (decide rejoin)) t =
      ⟨a.origin, a.number, a.kind, a.poles, a.raiseTime, t,
        a.phase == .activeAcked || (a.phase == .clearedUnack && !decide rejoin),
        if rejoin then .originRestarted else .normal⟩ := by
  by_cases h : rejoin <;> cases phase : a.phase <;> simp [historyOf, wasAcknowledged, missingReason, h, phase]

/-! ### The frame (R72, R73, R75) -/

/-- The end of the event leaves the alarms of a reconciliation, the time, and the entries of the other stations. -/
theorem summaryHeard_spec (o : Station) (summary : List SummaryItem) (rejoin : Bool) (s : State) :
    let t := summaryHeard o summary rejoin s
    t.alarms.table = (reconcile o summary rejoin s).alarms.table
      ∧ t.alarms.history = (reconcile o summary rejoin s).alarms.history ∧ now t = now s
      ∧ ∀ n, n ≠ s.loader.station → peerOf t n = peerOf s n := by
  have entries : ∀ n, n ≠ s.loader.station → peerOf (summaryHeard o summary rejoin s) n = peerOf s n := by
    intro n other
    rw [summaryHeard, alarmEvent, peerOf_endAlarmEvent _ (by simpa using other)]
    simp [peerOf]
  refine ⟨?_, ?_, now_of_clock ?_, entries⟩ <;> simp [summaryHeard, alarmEvent]

/-- The frame says that its source has restarted since its entry was made (R74). -/
abbrev Rejoins (src : Station) (f : StateFields) (s : State) : Prop := f.boot = true ∧ (peerOf s src).isSome = true

/-- With the boot flag the frame is accepted as that of a station that rejoins (R74). -/
theorem stateHeard_rejoins {src : Station} {f : StateFields} {e : Peer} {s : State} (found : peerOf s src = some e)
    (boot : f.boot = true) : stateHeard src f s = applyState src f true (e.fields.role == .col) s := by
  simp only [stateHeard, found, boot, if_true]

theorem stateHeard_next {src : Station} {f : StateFields} {e : Peer} {s : State} (found : peerOf s src = some e)
    (boot : f.boot = false) (ahead : 1 ≤ (f.seq - e.fields.seq).toNat ∧ (f.seq - e.fields.seq).toNat ≤ 127) :
    stateHeard src f s = applyState src f false (e.fields.role == .col) s := by
  simp only [stateHeard, found, boot, Bool.false_eq_true, if_false, inWindow_iff.2 ahead, if_true]

/-- An accepted STATE of a collector is its summary, heard once its entry is placed; the first one raises PEER_JOINED before it. -/
theorem stateHeard_col {src : Station} {f : StateFields} {s : State} (role : f.role = .col)
    (accepted : ∀ e, peerOf s src = some e → Accepted f e.fields.seq) :
    ∃ u, (u = s ∨ u = raise .peerJoined s)
      ∧ stateHeard src f s = summaryHeard src f.summary (decide (Rejoins src f s)) (heardFrom src f u) := by
  have applied : ∀ rejoin wasCol u,
      applyState src f rejoin wasCol u = summaryHeard src f.summary rejoin (heardFrom src f u) := fun _ _ _ => if_pos role
  rcases Option.eq_none_or_eq_some (peerOf s src) with found | ⟨e, found⟩
  · refine ⟨_, .inr rfl, ?_⟩
    rw [stateHeard_first found, applied]
    simp [Rejoins, found]
  · refine ⟨s, .inl rfl, ?_⟩
    by_cases boot : f.boot = true
    · rw [stateHeard_rejoins found boot, applied]
      simp [Rejoins, boot, found]
    · rw [stateHeard_next found (Bool.eq_false_iff.2 boot) ((accepted e found).resolve_left boot), applied]
      simp [Rejoins, boot]

/-- Settles O24: the entry is placed, the summary reconciled, and the event ended. -/
theorem summaryReconciled : Obligations.SummaryReconciled := by
  intro dt idle bytes src f s hears good other role accepted
  obtain ⟨-, -, -, -, -, -, -, -, -, few, -⟩ : StateFields.legal src f := receivedFramesAreLegal bytes _ good
  obtain ⟨u, placed, heard⟩ := stateHeard_col (s := heardFrame dt s) role accepted
  have run := receive_state (dt := dt) hears good other
  rw [heard] at run
  obtain ⟨v, hv⟩ : ∃ v, v = heardFrom src f u := ⟨_, rfl⟩
  have kept : v.loader = s.loader ∧ v.line = afterFrame s.line ∧ v.alarms = s.alarms := by
    rcases placed with hu | hu <;> rw [hv, hu] <;> exact ⟨rfl, rfl, rfl⟩
  obtain ⟨loader, line, alarms⟩ := kept
  have entry : peerOf v src = some ⟨src, f, now v, 0, .fresh⟩ := by rw [hv]; exact peerOf_heardFrom src f u
  rw [← hv] at run
  obtain ⟨table, history, time, peers⟩ := summaryHeard_spec src f.summary (decide (Rejoins src f (heardFrame dt s))) v
  refine ⟨_, run, ?_, fun nodup once => ?_, ?_, ?_, by simp [loader], by simp [line]⟩
  · rw [table]
    exact reconcile_conforms src f.summary _ v
  · obtain ⟨there, records⟩ := reconcile_distinct (decide (Rejoins src f (heardFrame dt s))) (s := v) nodup few
      (by rw [numbersOf, alarms]; exact once)
    refine ⟨by rw [table]; exact there, fun bounded => ?_⟩
    rw [history, records (by rw [HistoryBounded, alarms]; exact bounded), time, missingFrom, alarms]
    simp only [historyOf_missing]
    rfl
  · rw [table, otherOriginsStand_reconcile, alarms]
  · rw [time, ← entry, peers src (by rw [loader]; exact other)]

end Sys2Proof.Machine
end

section
/-!
The local port: what the end of a frame makes of the station, taken or abandoned (R138 to R140), and the posts (R142 to R144).
-/
namespace Sys2Proof.Machine

/-! ### The end of a frame (R138, R139) -/

/-- A frame that the port can take leaves what the request makes of the station, and the exchange. -/
theorem performFrame_taken {frame : PortFrame} {n stray : Nat} {bytes : List Byte} {take : State → Answer} {s : State}
    (ready : PortReady s) {u : State} {st : Status} {payload : List Byte} (h : take (advance frame.dt s) = (u, st, payload)) :
    performFrame frame n (takeFrame frame.cut bytes stray take) s = .next (u.withPort (exchange bytes stray st payload u.port)) := by
  obtain ⟨reset, whole⟩ := ready
  have opened : ¬(advance frame.dt s).port.abandoned = true := by simpa using whole
  rw [performFrame, if_neg (by simp [reset]), perform_working _ _ reset, takeFrame, if_neg opened, h]

/-- The station at the end of a frame of `n` bits that a reset abandoned: the frame is not taken. -/
def frameDropped (frame : PortFrame) (n : Nat) (s : State) : State :=
  { advance frame.dt s with port := { s.port with abandoned := false, request := [], shifted := cutBits frame n s.port } }

/-- An abandoned frame is dropped, whatever it asks for. -/
theorem takeFrame_abandoned {frame : PortFrame} {bytes : List Byte} {stray : Nat} {take : State → Answer} {s : State}
    (gone : s.port.abandoned = true) :
    takeFrame frame.cut bytes stray take (advance frame.dt s) = frameDropped frame (frameLength bytes stray) s :=
  if_pos gone

theorem performFrame_abandoned {frame : PortFrame} {n : Nat} {effect : State → State} {s : State} (reset : inReset s = false)
    (h : effect (advance frame.dt s) = frameDropped frame n s) :
    performFrame frame n effect s = .next (frameDropped frame n s) := by
  rw [performFrame, if_neg (by simp [reset]), perform_working _ _ reset, h]

/-! ### The requests and their checks (R140) -/

/-- The requests that are taken in a live run state only. -/
def needsRunning : Request → Bool
  | .postDemand _ | .postSource _ | .capCeiling _ | .ackAlarm | .releaseRetrieve _ => true
  | _ => false

/-- Every request command but MODULE_RESET is performed as its request, behind the running check where it has one. -/
theorem exec_of_asRequest {c : Instr} {frame : PortFrame} {r : Request} (h : c.asRequest = some (frame, r)) (s : State) :
    (∃ straps, c = .moduleReset frame straps ∧ r = .moduleReset)
      ∨ ∃ take, exec c s = performRequest frame r take s ∧ (needsRunning r = true → ∃ t, take = whenRunning t) := by
  unfold Instr.asRequest at h
  split at h <;> cases h
  case h_1 | h_2 | h_3 | h_4 | h_5 => exact .inr ⟨_, rfl, fun _ => ⟨_, rfl⟩⟩
  case h_12 straps => exact .inl ⟨straps, rfl, rfl⟩
  all_goals exact .inr ⟨_, rfl, nofun⟩

/-- Behind the running check a request is refused outside the live run states, and nothing else happens. -/
theorem performRequest_notRunning {frame : PortFrame} {r : Request} {take : State → Answer} {s : State} (ready : PortReady s)
    (dead : isLive s = false) :
    performRequest frame r (whenRunning take) s = .next { advance frame.dt s with port := answered r .notRunning [] s.port } := by
  have stopped : isLive (advance frame.dt s) = false := dead
  exact performRequest_snapshot ready (if_neg (Bool.eq_false_iff.1 stopped))

/-- An abandoned frame of any request is dropped, MODULE_RESET among them. -/
theorem exec_request_abandoned {c : Instr} {frame : PortFrame} {r : Request} {s : State} (h : c.asRequest = some (frame, r))
    (reset : inReset s = false) (gone : s.port.abandoned = true) :
    exec c s = .next (frameDropped frame (frameLength (requestBytes r) 0) s) := by
  rcases exec_of_asRequest h s with ⟨straps, rfl, rfl⟩ | ⟨take, run, -⟩
  · exact performFrame_abandoned reset ((if_pos gone).trans (takeFrame_abandoned gone))
  · exact run.trans (performFrame_abandoned reset (takeFrame_abandoned gone))

/-- A frame that fails the length or the request-known check goes through the port as one that answers so. -/
theorem takeUnknown_error {cut stray : Nat} {bytes : List Byte} {st : Status} (fails : decodeRequest bytes stray = .error st) :
    takeUnknown cut bytes stray = takeFrame cut bytes stray (answer st []) := by
  funext s
  rw [takeUnknown, fails]

/-- Settles O18: the running check refuses, and every abandoned frame is dropped. -/
theorem refusedAndAbandonedFrames : Obligations.RefusedAndAbandonedFrames := by
  intro frame s reset
  refine ⟨fun c r request whole dead kind => ?_, fun c n framed gone known => ?_⟩
  · have checked : needsRunning r = true := by
      rcases kind with ⟨a, rfl | rfl | rfl⟩ | rfl | ⟨x, rfl⟩ <;> rfl
    rcases exec_of_asRequest request s with ⟨-, -, rfl⟩ | ⟨take, run, running⟩
    · cases checked
    · obtain ⟨t, rfl⟩ := running checked
      exact run.trans (performRequest_notRunning ⟨reset, whole⟩ dead)
  · unfold Instr.asFrame at framed
    split at framed
    next bytes stray =>
      cases framed
      cases decoded : decodeRequest bytes stray with
      | ok r => exact absurd decoded (known bytes stray r rfl)
      | error st =>
        refine performFrame_abandoned reset ?_
        rw [takeUnknown_error decoded]
        exact takeFrame_abandoned gone
    next =>
      obtain ⟨⟨f, r⟩, request, same⟩ := Option.map_eq_some_iff.1 framed
      cases same
      exact exec_request_abandoned request reset gone

/-! ### Posting (R142 to R144) -/

theorem clampAmperes_eq (a : BitVec 16) : clampAmperes a = if a.toNat ≤ 1023 then a.toNat else 1023 := Nat.min_def

theorem isBat_iff (s : State) : isBat s = true ↔ (record s).role = some .bat := by rw [isBat, beq_iff_eq]

/-- Settles O12: each post goes past its checks to its own store, clamped. -/
theorem postsAreTaken : Obligations.PostsAreTaken := by
  rintro frame a s ⟨-, live⟩ ready
  rw [← clampAmperes_eq]
  refine ⟨performRequest_ready (take := takeDemand a) ready live rfl, fun bat => ?_, fun other => ?_⟩
  · exact performRequest_ready (take := takeSource a) ready live (if_pos ((isBat_iff s).2 bat))
  · exact performRequest_ready (take := takeSource a) ready live (if_neg (mt (isBat_iff s).1 other))

/-- Settles O13: the new cap is compared with the posted one. -/
theorem capCeilingOnlyLowers : Obligations.CapCeilingOnlyLowers := by
  rintro frame a s ⟨-, live⟩ ready
  refine ⟨fun lower => ?_, fun higher => ?_⟩
  · exact performRequest_ready (take := takeCap a) ready live (if_pos lower)
  · exact performRequest_ready (take := takeCap a) ready live (if_neg (Nat.not_le.2 higher))

end Sys2Proof.Machine
end

section
/-!
The attention line, the selected cause and SDO (R138, R139, R150, R162), and what clears the marks and the receive counter
(R148, R151).
-/
namespace Sys2Proof.Machine

/-! ### Causes and their levels (R149, R150) -/

theorem mem_allCauses (c : Cause) : c ∈ allCauses := by cases c <;> decide

theorem causeOf_causeNumber (c : Cause) : causeOf (causeNumber c) = some c := by cases c <;> rfl

/-- No cause has a number above 11. -/
theorem causeOf_eq_none {n : Nat} (h : 11 < n) : causeOf n = none := List.getElem?_eq_none h

theorem levelOf_some (r : Record) (c : Cause) :
    levelOf (some r) c =
      if c = .configFault then 0 else if c = .restarted then r.levels.getD 0 0 else r.levels.getD (causeNumber c - 1) 0 := by
  cases c <;> rfl

/-- The attention line is asserted while a pending cause has a level below 3. -/
theorem attentionLine_iff (s : State) :
    attentionLine s = true ↔ ∃ c, isPending s.port c = true ∧ levelOf s.loader.locked c < 3 := by
  simp only [attentionLine, List.any_eq_true, mem_allCauses, true_and, Bool.and_eq_true, decide_eq_true_eq]

/-! ### The selected cause (R150) -/

/-- A cause is served no later than another: its level is lower, or it is the same and its number is no higher. -/
def ServedBy (locked : Option Record) (c d : Cause) : Prop :=
  levelOf locked c < levelOf locked d ∨ (levelOf locked c = levelOf locked d ∧ causeNumber c ≤ causeNumber d)

/-- The cause of a list that is served no later than any of it. -/
def FirstOf (locked : Option Record) (l : List Cause) (c : Cause) : Prop := c ∈ l ∧ ∀ d ∈ l, ServedBy locked c d

theorem FirstOf.unique {locked : Option Record} {l : List Cause} {c d : Cause} (hc : FirstOf locked l c)
    (hd : FirstOf locked l d) : c = d := by
  have cd := hc.2 d hd.1
  have dc := hd.2 c hc.1
  unfold ServedBy at cd dc
  exact causeNumber_inj (by omega)

/-- The selection so far, and causes of higher numbers after it: the fold ends at the first of them all. -/
theorem foldl_preferCause {locked : Option Record} {b : Cause} {l : List Cause}
    (sorted : (b :: l).Pairwise fun c d => causeNumber c < causeNumber d) :
    ∃ c, l.foldl (preferCause locked) (some b) = some c ∧ FirstOf locked (b :: l) c := by
  induction l generalizing b with
  | nil => exact ⟨b, rfl, List.mem_singleton_self b, fun d hd => .inr (by rw [List.mem_singleton.1 hd]; exact ⟨rfl, le_rfl⟩)⟩
  | cons x rest ih =>
    obtain ⟨before, tail⟩ := List.pairwise_cons.1 sorted
    have above := before x List.mem_cons_self
    by_cases lower : levelOf locked x < levelOf locked b
    · obtain ⟨c, selects, mem, first⟩ := ih tail
      have step : preferCause locked (some b) x = some x := if_pos lower
      refine ⟨c, by rw [List.foldl_cons, step, selects], List.mem_cons_of_mem b mem, List.forall_mem_cons.2 ⟨?_, first⟩⟩
      have beats := first x List.mem_cons_self
      unfold ServedBy at beats ⊢
      omega
    · have kept : (b :: rest).Pairwise fun c d => causeNumber c < causeNumber d :=
        List.pairwise_cons.2 ⟨fun d hd => before d (List.mem_cons_of_mem x hd), (List.pairwise_cons.1 tail).2⟩
      obtain ⟨c, selects, mem, first⟩ := ih kept
      obtain ⟨beats, others⟩ := List.forall_mem_cons.1 first
      have step : preferCause locked (some b) x = some b := if_neg lower
      have beatsNext : ServedBy locked c x := by
        unfold ServedBy at beats ⊢
        omega
      refine ⟨c, by rw [List.foldl_cons, step, selects], ?_,
        List.forall_mem_cons.2 ⟨beats, List.forall_mem_cons.2 ⟨beatsNext, others⟩⟩⟩
      exact List.mem_cons.2 ((List.mem_cons.1 mem).imp_right (List.mem_cons_of_mem x))

/-- The pending causes, in the order of their numbers. -/
theorem pendingCauses_sorted (s : State) :
    (allCauses.filter (isPending s.port)).Pairwise fun c d => causeNumber c < causeNumber d :=
  List.Pairwise.filter _ (by decide)

theorem mem_pendingCauses {s : State} {c : Cause} : c ∈ allCauses.filter (isPending s.port) ↔ isPending s.port c = true := by
  rw [List.mem_filter, and_iff_right (mem_allCauses c)]

/-- Without a pending cause none is selected, and otherwise the first of them. -/
theorem selectedCause_cases (s : State) :
    (selectedCause s = none ∧ ∀ c, isPending s.port c = false)
      ∨ ∃ c, selectedCause s = some c ∧ FirstOf s.loader.locked (allCauses.filter (isPending s.port)) c := by
  have sorted := pendingCauses_sorted s
  unfold selectedCause
  cases pending : allCauses.filter (isPending s.port) with
  | nil =>
    refine .inl ⟨rfl, fun c => Bool.eq_false_iff.2 fun h => ?_⟩
    exact absurd (mem_pendingCauses.2 h) (by simp [pending])
  | cons b rest =>
    rw [pending] at sorted
    exact .inr (foldl_preferCause sorted)

theorem selectedCause_eq_some (s : State) (c : Cause) :
    selectedCause s = some c ↔ isPending s.port c = true ∧ ∀ d, isPending s.port d = true → ServedBy s.loader.locked c d := by
  simp only [← mem_pendingCauses]
  change _ ↔ FirstOf s.loader.locked _ c
  rcases selectedCause_cases s with ⟨none, idle⟩ | ⟨b, some, first⟩
  · refine ⟨fun h => absurd (none.symm.trans h) nofun, fun h => absurd (mem_pendingCauses.1 h.1) ?_⟩
    rw [idle c]
    decide
  · rw [some, Option.some.injEq]
    exact ⟨fun h => h ▸ first, fun h => first.unique h⟩

theorem selectedCause_eq_none (s : State) : selectedCause s = none ↔ ∀ c, isPending s.port c = false := by
  rcases selectedCause_cases s with ⟨none, idle⟩ | ⟨b, some, first⟩
  · exact ⟨fun _ => idle, fun _ => none⟩
  · refine ⟨fun h => absurd (some.symm.trans h) nofun, fun idle => absurd (mem_pendingCauses.1 first.1) ?_⟩
    rw [idle b]
    decide

/-! ### SDO (R138, R139) -/

theorem byteBits_get (b : Byte) {k : Nat} (h : k < 8) : (byteBits b)[k]? = some (b.getLsbD (7 - k)) := by
  interval_cases k <;> rfl

/-- Bit `k` of bytes sent most significant bit first stands in byte `k / 8`. -/
theorem flatMap_byteBits_get {bytes : List Byte} {k : Nat} {b : Byte} (h : bytes[k / 8]? = some b) :
    (bytes.flatMap byteBits)[k]? = some (b.getLsbD (7 - k % 8)) := by
  have low : k % 8 < 8 := Nat.mod_lt k (by decide)
  calc (bytes.flatMap byteBits)[k]?
      = (((bytes.flatMap byteBits).drop (8 * (k / 8))).take 8)[k % 8]? := by
        rw [List.getElem?_take_of_lt low, List.getElem?_drop, Nat.div_add_mod]
    _ = (byteBits b)[k % 8]? := by rw [flatMap_part (f := byteBits) (fun _ => rfl) h]
    _ = some (b.getLsbD (7 - k % 8)) := byteBits_get b low

theorem flatMap_byteBits_length (bytes : List Byte) : (bytes.flatMap byteBits).length = 8 * bytes.length := by
  induction bytes with
  | nil => rfl
  | cons b rest ih => rw [List.flatMap_cons, List.length_append, ih, List.length_cons, Nat.mul_succ, Nat.add_comm]; rfl

/-- What is shifted out at bit `k`: the bit of the response, and zero beyond it. -/
theorem shiftOut_get (r : Response) {k n : Nat} (h : k < n) :
    (shiftOut r n)[k]? = some (((responseBytes r).getD (k / 8) 0).getLsbD (7 - k % 8)) := by
  have length := flatMap_byteBits_length (responseBytes r)
  rw [shiftOut, List.getElem?_take_of_lt h, List.getD_eq_getElem?_getD]
  cases byte : (responseBytes r)[k / 8]? with
  | some b =>
    obtain ⟨inside, -⟩ := List.getElem?_eq_some_iff.1 byte
    rw [List.getElem?_append_left (by omega), flatMap_byteBits_get byte, Option.getD_some]
  | none =>
    have beyond := List.getElem?_eq_none_iff.1 byte
    rw [List.getElem?_append_right (by omega), List.getElem?_replicate_of_lt (by omega), Option.getD_none]
    exact congrArg some (BitVec.getLsbD_zero).symm

theorem sdoBit_silent {s : State} (k : Nat) (h : inReset s = true ∨ s.port.abandoned = true) : sdoBit s k = false := by
  rcases h with h | h <;> simp [sdoBit, h]

theorem sdoBit_ready {s : State} (k : Nat) (ready : PortReady s) :
    sdoBit s k = ((responseBytes s.port.held).getD (k / 8) 0).getLsbD (7 - k % 8) := by
  obtain ⟨reset, whole⟩ := ready
  rw [sdoBit, reset, whole, List.getD_eq_getElem?_getD, shiftOut_get _ (Nat.lt_succ_self k)]
  rfl

/-! ### Clearing (R148, R151) -/

theorem takeClearAttention_cause {x : Byte} {c : Cause} (named : causeNumber c = x.toNat) (s : State) :
    takeClearAttention x s = answer .ok [] (s.withPort (clearIn s.port c)) := by
  rw [takeClearAttention, ← named, causeOf_causeNumber]

theorem takeClearAttention_none {x : Byte} (high : 11 < x.toNat) (s : State) :
    takeClearAttention x s = answer .noTarget [] s := by
  rw [takeClearAttention, causeOf_eq_none high]

/-- Settles O17: the fold over the causes selects the first of them, the bits of the response stand in its bytes, and each frame
leaves its clear and the exchange. -/
theorem clearsAndUnknownRequests : Obligations.ClearsAndUnknownRequests := by
  refine ⟨fun s => ?_, fun frame x s ready => ⟨fun c named => ?_, fun high => ?_, ?_, fun bytes stray st fails => ?_⟩⟩
  · intro level
    have levels : level = levelOf s.loader.locked := by
      funext c
      cases locked : s.loader.locked with
      | none => simp only [level, locked]; rfl
      | some r => simp only [level, locked, levelOf_some]
    rw [levels]
    refine ⟨attentionLine_iff s, selectedCause_eq_some s, selectedCause_eq_none s, fun frame => ?_, rfl, rfl, fun k =>
      ⟨rfl, fun silent => congrArg some (sdoBit_silent k silent), fun ready => ?_⟩⟩
    · exact beq_false (attentionLine s)
    · have bit : (pins (some k) s).sdo = _ := congrArg some (sdoBit_ready k ready)
      exact ⟨bit, fun n inside => (shiftOut_get _ inside).trans bit.symm⟩
  · exact ⟨_, performFrame_taken ready (takeClearAttention_cause named _), rfl, rfl, isPending_clearIn s.port c, rfl, rfl, rfl, rfl⟩
  · exact performFrame_taken ready (takeClearAttention_none high _)
  · exact performFrame_taken (take := takeClearCounters) ready rfl
  · refine Eq.trans ?_ (performFrame_taken (n := frameLength bytes stray) (take := answer st []) ready rfl)
    rw [← takeUnknown_error fails]
    rfl

end Sys2Proof.Machine
end

section
/-!
The resets (R153): how every other command is performed, what a held reset leaves of it, and the station that a reset leaves.
-/
namespace Sys2Proof.Machine

/-! ### How a command is performed -/

/-- A command that brings time and carries no request frame lets that time pass and takes its effect. -/
theorem exec_of_unframed {c : Instr} {dt : Nat} (timed : c.elapsed = some dt) (unframed : c.asFrame = none) (s : State) :
    ∃ effect, exec c s = perform dt effect s := by
  cases c
  case powerOnReset | resetPin | resetPinAsserted | supplyBelowOperatingLevel => cases timed
  case postDemand | postSource | capCeiling | ackAlarm | releaseRetrieve | readStatus | readPeer | readAlarms | readHistory
      | clearAttention | clearCounters | moduleReset | unknownRequest => cases unframed
  case frameTruncation dt idle bytes gap =>
    cases timed
    exact ⟨fun t => receive gap [] false (receive idle bytes false t), rfl⟩
  all_goals
    cases timed
    exact ⟨_, rfl⟩

/-- A command that carries a request frame is performed as that frame. -/
theorem exec_of_asFrame {c : Instr} {frame : PortFrame} {n : Nat} (framed : c.asFrame = some (frame, n)) (s : State) :
    ∃ effect, exec c s = performFrame frame n effect s := by
  unfold Instr.asFrame at framed
  split at framed
  · cases framed
    exact ⟨_, rfl⟩
  · obtain ⟨⟨f, r⟩, request, same⟩ := Option.map_eq_some_iff.1 framed
    cases same
    rcases exec_of_asRequest request s with ⟨straps, rfl, rfl⟩ | ⟨take, run, -⟩
    · exact ⟨_, rfl⟩
    · exact ⟨_, run⟩

/-! ### A reset that is held (R138, R153) -/

theorem perform_held (dt : Nat) (effect : State → State) {s : State} (held : inReset s = true) : perform dt effect s = .next s := by
  rw [perform, if_pos held]

theorem performFrame_held (frame : PortFrame) (n : Nat) (effect : State → State) {s : State} (held : inReset s = true) :
    performFrame frame n effect s = .next { s with port := { s.port with shifted := cutBits frame n s.port } } :=
  if_pos held

/-- Settles O4: both ways to perform a command look at the held reset first. -/
theorem heldResetStopsCommands : Obligations.HeldResetStopsCommands := by
  intro c dt s held timed
  refine ⟨fun unframed => ?_, fun frame n framed => ?_⟩
  · obtain ⟨effect, run⟩ := exec_of_unframed timed unframed s
    rw [run, perform_held dt effect held]
  · obtain ⟨effect, run⟩ := exec_of_asFrame framed s
    rw [run, performFrame_held frame n effect held]

/-! ### The station that a reset leaves (R153) -/

theorem lostResponse_eq (s : State) :
    lostResponse s = if inReset s = true ∨ s.port.abandoned = true then s.port.lost else s.port.held := by
  simp only [lostResponse, Bool.or_eq_true]

/-- Where the port can take a frame, a reset takes the response away that stands held. -/
theorem lostResponse_ready {s : State} (ready : PortReady s) : lostResponse s = s.port.held := by
  obtain ⟨reset, whole⟩ := ready
  simp [lostResponse, reset, whole]

/-- Settles O7: every block stands at its reset values, and the response that a reset takes away is the lost one. -/
theorem powerOnResetEffect : Obligations.PowerOnResetEffect := by
  intro straps cs s
  dsimp only
  rw [← lostResponse_eq]
  exact ⟨rfl, rfl⟩

/-- A pin that belongs to no power-on reset ends its own module reset when it is released. -/
theorem releasePin_ends {straps : BitVec 3} {cs : Bool} {s : State} (supply : s.loader.supplyLow = false)
    (own : s.loader.pin ≠ .absorbed) :
    releasePin straps cs s = endReset straps .resetPin .released (moduleBlocks cs s) :=
  if_neg (by simp [supply, own])

/-- With the supply up the pin's assertion holds a module reset. -/
theorem assertPin_holds {s : State} (supply : s.loader.supplyLow = false) :
    assertPin s = holdLoader false .holding (moduleBlocks false s) :=
  if_neg (by simp [supply])

/-- MODULE_RESET in a frame that the port can take resets the station, and the frame has read the first byte of the response that
stood held. -/
theorem takeModuleReset_ready {cut : Nat} {straps : BitVec 3} {s : State} (ready : PortReady s) :
    takeModuleReset cut straps s = (requestReset straps s).withPort
      { Port.afterReset false s.port.held with shifted := shiftOut s.port.held 8 } := by
  have lost : (requestReset straps s).port = Port.afterReset false s.port.held := by
    rw [← lostResponse_ready ready]
    rfl
  rw [takeModuleReset, if_neg (by simp [ready.2]), ← lost]
  rfl

/-- Settles O8: each of the three ends in the module-reset values of the blocks, with its own Loader and clock. -/
theorem moduleResetEffect : Obligations.ModuleResetEffect := by
  intro frame straps cs s
  dsimp only
  rw [← lostResponse_eq]
  refine ⟨fun ready => ?_, fun supply own => ?_, fun supply => ?_⟩
  · have ready' : PortReady (advance frame.dt s) := ready
    obtain ⟨reset, -⟩ := ready
    change performFrame frame _ (takeModuleReset frame.cut straps) s = _
    rw [performFrame, if_neg (by simp [reset]), perform_working _ _ reset, takeModuleReset_ready ready']
    rfl
  · exact congrArg Host.Outcome.next (releasePin_ends supply own)
  · exact congrArg Host.Outcome.next (assertPin_holds supply)

end Sys2Proof.Machine
end

section
/-!
Reading the record (R154 to R156): the attempts and their failures, the deadline, and the verdict on a record that fails its check.
-/
namespace Sys2Proof.Machine

/-! ### The steps of an attempt (R154) -/

/-- Every step but the stop condition that ends the transaction can be cut off. -/
theorem cutTransaction_eq {done : Nat} (h : done < 60) : cutTransaction done = readTransaction.take done ++ [.stop] := by
  have whole : readTransaction.length = 60 := rfl
  rw [cutTransaction, List.dropLast_eq_take, List.take_take, whole, min_eq_left (by omega)]

/-- An attempt fails at its fifth step at the latest. -/
theorem failurePoint_le {levels : BusLevels} {done : Nat} (fails : failurePoint levels = some done) : done ≤ 5 := by
  unfold failurePoint at fails
  split_ifs at fails <;> cases fails <;> decide

/-- An attempt in progress that fails after `done` steps is cut there and its bytes are dropped. -/
theorem failAttempt_fails {levels : BusLevels} {done : Nat} {s : State} (fails : failurePoint levels = some done)
    (run : s.loader.run = .configuring) (progress : s.loader.attempt = .inProgress) :
    failAttempt levels s =
      s.withLoader { s.loader with attempt := .failed (now s), bus := cutTransaction done, received := [] } := by
  rw [failAttempt, fails]
  exact if_pos ⟨run, progress⟩

theorem exec_configAttemptFailed {dt done : Nat} {levels : BusLevels} {s : State} (fails : failurePoint levels = some done)
    (reset : inReset s = false) (run : s.loader.run = .configuring) (progress : s.loader.attempt = .inProgress) :
    exec (.configAttemptFailed ⟨dt, levels⟩) s = .next { advance dt s with
      loader := { s.loader with
        attempt := .failed (now (advance dt s)), bus := readTransaction.take done ++ [.stop], received := [] } } := by
  have short : done < 60 := (failurePoint_le fails).trans_lt (by decide)
  change perform dt (failAttempt levels) s = _
  rw [perform_working _ _ reset, failAttempt_fails (s := advance dt s) fails run progress, cutTransaction_eq short]
  rfl

theorem retryAttempt_due {t : StationTime} {s : State} (failed : s.loader.attempt = .failed t)
    (run : s.loader.run = .configuring) (due : 1 ≤ (now s - t).toNat) :
    retryAttempt s = s.withLoader { s.loader with attempt := .inProgress } := by
  rw [retryAttempt, failed]
  exact if_pos ⟨run, reached_of due⟩

/-! ### CONFIG_FAULT (R37, R156) -/

/-- All that entry to CONFIG_FAULT does. -/
theorem enterConfigFault_eq (f : ConfigFault) (s : State) :
    enterConfigFault f s = { s with
      loader := { s.loader with run := .configFault, fault := f, attempt := .idle }
      poles := { s.poles with p := unwatched s.poles.p, n := unwatched s.poles.n }
      port := { s.port with attention := s.port.attention ||| 2#12 } } := rfl

theorem reachReadDeadline_due {done : Nat} {s : State} (run : s.loader.run = .configuring)
    (due : 20 ≤ (now s - s.loader.readStart).toNat) :
    reachReadDeadline done s = enterConfigFault .noAnswer
      (s.withLoader { s.loader with bus := if s.loader.attempt = .inProgress then cutTransaction done else s.loader.bus }) :=
  if_pos ⟨run, reached_of due⟩

/-- Settles O9: the five tests are the five failure points, each cut of the transaction is its first steps and a stop condition, and
the deadline leaves for CONFIG_FAULT. -/
theorem readAttemptsAndDeadline : Obligations.ReadAttemptsAndDeadline := by
  intro dt s reset run
  refine ⟨fun progress l => ?_, fun t failed due => ?_, fun due done short => ?_⟩
  · have failsAt {steps : Nat} (point : failurePoint l = some steps) :=
      exec_configAttemptFailed (dt := dt) point reset run progress
    refine ⟨fun start => failsAt ?_, fun start write => failsAt ?_, fun start write word => failsAt ?_,
      fun start write word restart => failsAt ?_, fun start write word restart read => failsAt ?_⟩
    · simp [failurePoint, start]
    · simp [failurePoint, start, write]
    · simp [failurePoint, start, write, word]
    · simp [failurePoint, start, write, word, restart]
    · simp [failurePoint, start, write, word, restart, read]
  · change perform dt retryAttempt s = _
    rw [perform_working _ _ reset, retryAttempt_due (s := advance dt s) failed run due]
    rfl
  · change perform dt (reachReadDeadline done) s = _
    rw [perform_working _ _ reset, reachReadDeadline_due (s := advance dt s) run due, cutTransaction_eq short]
    rfl

/-! ### The check of the record (R155) -/

/-- The checks stand in the order of the field numbers. -/
theorem fieldChecks_sorted (r : Record) (station : Station) : (fieldChecks r station).Pairwise fun c d => c.1 < d.1 := by
  have numbers : ((fieldChecks r station).map (·.1)).Pairwise (· < ·) := by
    change [1, 2, 3, 4, 5, 9, 10, 11, 12, 13, 14, 15, 16, 17, 18, 19, 20, 21, 22, 23, 24, 25, 26, 27, 28, 29, 30, 31, 32, 33, 34,
      35, 36, 37, 38].Pairwise (· < ·)
    decide
  exact List.pairwise_map.1 numbers

/-- The first bad field found is a bad field, and no bad field has a lower number. -/
theorem firstBadField_some {r : Record} {station : Station} {n : Nat} (found : firstBadField r station = some n) :
    (n, false) ∈ fieldChecks r station ∧ ∀ m, (m, false) ∈ fieldChecks r station → n ≤ m := by
  obtain ⟨⟨k, good⟩, first, rfl⟩ := Option.map_eq_some_iff.1 found
  obtain ⟨bad, before, after, parts, passed⟩ := List.find?_eq_some_iff_append.1 first
  obtain rfl : good = false := by simpa using bad
  have sorted := fieldChecks_sorted r station
  rw [parts] at sorted ⊢
  obtain ⟨later, -⟩ := List.pairwise_cons.1 (List.pairwise_append.1 sorted).2.1
  refine ⟨by simp, fun m mem => ?_⟩
  rcases List.mem_append.1 mem with inBefore | here
  · exact absurd (passed _ inBefore) (by simp)
  · rcases List.mem_cons.1 here with same | inAfter
    · cases same
      exact le_rfl
    · exact (later _ inAfter).le

/-- Three verdicts: a CRC that differs, the first bad field, and none. -/
theorem checkRecord_cases (bytes : List Byte) (station : Station) :
    (bytes.drop 52 ≠ crcBytes (bytes.take 52) ∧ checkRecord bytes station = .error .crcFault)
      ∨ bytes.drop 52 = crcBytes (bytes.take 52)
        ∧ ((∃ n, firstBadField (decodeRecord bytes) station = some n ∧ checkRecord bytes station = .error (.field n))
          ∨ checkRecord bytes station = .ok (decodeRecord bytes)) := by
  by_cases crc : bytes.drop 52 = crcBytes (bytes.take 52)
  · refine .inr ⟨crc, ?_⟩
    rw [checkRecord, if_neg (not_not.2 crc)]
    cases firstBadField (decodeRecord bytes) station with
    | none => exact .inr rfl
    | some n => exact .inl ⟨n, rfl, rfl⟩
  · exact .inl ⟨crc, if_pos crc⟩

/-- A verdict on a record that fails: CRC_FAULT on a CRC that differs, and else the first bad field. -/
theorem checkRecord_error {bytes : List Byte} {station : Station} {f : ConfigFault} (bad : checkRecord bytes station = .error f) :
    (bytes.drop 52 ≠ crcBytes (bytes.take 52) ∧ f = .crcFault)
      ∨ bytes.drop 52 = crcBytes (bytes.take 52)
        ∧ ∃ n, firstBadField (decodeRecord bytes) station = some n ∧ f = .field n := by
  rcases checkRecord_cases bytes station with ⟨crc, verdict⟩ | ⟨crc, ⟨n, first, verdict⟩ | verdict⟩
  · cases verdict.symm.trans bad
    exact .inl ⟨crc, rfl⟩
  · cases verdict.symm.trans bad
    exact .inr ⟨crc, n, first, rfl⟩
  · exact nomatch verdict.symm.trans bad

/-- A record that passes has the right CRC and is the one decoded. -/
theorem checkRecord_passes {bytes : List Byte} {station : Station} {r : Record} (good : checkRecord bytes station = .ok r) :
    r = decodeRecord bytes ∧ bytes.drop 52 = crcBytes (bytes.take 52) := by
  rcases checkRecord_cases bytes station with ⟨-, verdict⟩ | ⟨crc, ⟨n, -, verdict⟩ | verdict⟩
  · exact nomatch verdict.symm.trans good
  · exact nomatch verdict.symm.trans good
  · cases verdict.symm.trans good
    exact ⟨rfl, crc⟩

/-! ### The end of the read (R155) -/

/-- The Loader once the whole transaction has run and these bytes are read. -/
def bytesRead (bytes : List Byte) (s : State) : State :=
  s.withLoader { s.loader with bus := readTransaction, received := bytes }

theorem exec_configReadComplete {dt : Nat} {s : State} (bytes : List Byte) (reset : inReset s = false) :
    exec (.configReadComplete dt bytes) s = .next (completeRead bytes (advance dt s)) :=
  perform_working dt (completeRead bytes) reset

section
variable {dt : Nat} {bytes : List Byte} {s : State}

theorem completeRead_fails {f : ConfigFault} (reading : Reading dt s) (length : bytes.length = 54)
    (bad : checkRecord bytes s.loader.station = .error f) :
    completeRead bytes (advance dt s) = enterConfigFault f (bytesRead bytes (advance dt s)) := by
  obtain ⟨-, run, progress, early⟩ := reading
  have bad' : checkRecord bytes (advance dt s).loader.station = .error f := bad
  rw [completeRead, if_pos ⟨run, progress, early, length⟩, bad']
  rfl

theorem completeRead_passes {r : Record} (reading : Reading dt s) (length : bytes.length = 54)
    (good : checkRecord bytes s.loader.station = .ok r) :
    completeRead bytes (advance dt s) = enterListen r (bytesRead bytes (advance dt s)) := by
  obtain ⟨-, run, progress, early⟩ := reading
  have good' : checkRecord bytes (advance dt s).loader.station = .ok r := good
  rw [completeRead, if_pos ⟨run, progress, early, length⟩, good']
  rfl

end

/-- Settles O10: the read ends in CONFIG_FAULT, and the checks stand in the order of the field numbers. -/
theorem failedRecordVerdict : Obligations.FailedRecordVerdict := by
  intro dt bytes s f reading length bad
  refine ⟨?_, fun differs => ?_, fun crc => ?_⟩
  · rw [exec_configReadComplete bytes reading.1, completeRead_fails reading length bad]
    rfl
  · rcases checkRecord_error bad with ⟨-, verdict⟩ | ⟨crc, -⟩
    · exact verdict
    · exact absurd crc differs
  · rcases checkRecord_error bad with ⟨differs, -⟩ | ⟨-, n, first, verdict⟩
    · exact absurd crc differs
    · exact ⟨n, verdict, firstBadField_some first⟩

end Sys2Proof.Machine
end

section
/-!
Listen entry (R157): what starts when the record is locked, and the exit of GAP at a station without a voltage input (R7, R15).
-/
namespace Sys2Proof.Machine

/-! ### What starts (R1, R11, R26, R27, R37, R85, R130) -/

section
variable (r : Record) (s : State)

/-- The share, the debounce and the blocks that listen entry leaves, before the exit of GAP is examined. -/
theorem listening_starts :
    (listening r s).share = { s.share with boundaryAt := some (now s), boundaries := 0 }
      ∧ (listening r s).alarms = { s.alarms with debounceStart := s.clock.up }
      ∧ (listening r s).peers = s.peers ∧ (listening r s).clock = s.clock ∧ (listening r s).pending = s.pending := by
  unfold listening
  dsimp only
  split <;> exact ⟨rfl, rfl, rfl, rfl, rfl⟩

variable {r}

/-- A collector starts its head windows and the calibration interval (R26, R27). -/
theorem listening_poles_col (col : r.role = some .col) :
    (listening r s).poles = { s.poles with
      p := { s.poles.p with headStart := some (now s) }, n := { s.poles.n with headStart := some (now s) }
      calStart := some (now s) } := by
  unfold listening
  dsimp only
  rw [if_pos (beq_iff_eq.2 col)]
  rfl

/-- A station of another role watches no poles (R37). -/
theorem listening_poles_other (other : r.role ≠ some .col) :
    (listening r s).poles = { s.poles with p := unwatched s.poles.p, n := unwatched s.poles.n } := by
  unfold listening
  dsimp only
  rw [if_neg (mt beq_iff_eq.1 other)]
  rfl

end

/-! ### The exit of GAP at listen entry (R7, R15, R18) -/

/-- With a voltage input, voltage ok has still to come, and the exit is not taken. -/
theorem enterListen_waits {r : Record} (s : State) (input : r.voltageInput = true) : enterListen r s = listening r s := by
  obtain ⟨-, supply, -⟩ := listening_keeps r s
  have notOk : (listening r s).supply.voltageOk = false := by rw [supply, input]; rfl
  rw [enterListen_eq, examineExit_stays (.inl notOk)]

/-- With no other station heard there is no one ahead in the restore order (R109). -/
theorem restoreRank_alone {s : State} (alone : s.peers = []) : restoreRank s = 0 := by
  rw [restoreRank, alone]
  rfl

/-- Without a voltage input voltage ok stands at once, and with no record, alarm or peer the view goes on to ON_LINE. -/
theorem enterListen_onLine {r : Record} {s : State} (noInput : r.voltageInput = false) (gap : s.supply.view = .gap)
    (records : s.supply.records = []) (table : s.alarms.table = []) (alone : s.peers = []) :
    (enterListen r s).supply.view = .onLine ∧ (enterListen r s).supply.gapStart = none
      ∧ isPending (enterListen r s).port .supplyViewChanged = true := by
  obtain ⟨-, supply, -, alarms⟩ := listening_keeps r s
  obtain ⟨-, -, peers, -⟩ := listening_starts r s
  have inGap : (listening r s).supply.view = .gap := by rw [supply]; exact gap
  have ok : (listening r s).supply.voltageOk = true := by rw [supply, noInput]; rfl
  have none : (listening r s).supply.records = [] := by rw [supply]; exact records
  have clear : holdsSupplyAlarm (listening r s).alarms.table = false := by rw [alarms, table]; rfl
  have rank : restoreRank (listening r s) = 0 := restoreRank_alone (peers.trans alone)
  rw [enterListen_eq, examineExit_leaves (.inl inGap) ok none clear]
  obtain ⟨⟨-, onLine, -⟩ | ⟨delay, -⟩, port⟩ := enterRestoring_spec (listening r s)
  · rw [onLine, port, isPending_raiseIn]
    exact ⟨rfl, rfl, by simp⟩
  · exact absurd (by rw [rank, Nat.zero_mul]) delay

/-- The exit changes the view and its timers only, so that what listen entry starts stands after it. -/
theorem enterListen_keeps_listening (r : Record) (s : State) :
    (enterListen r s).loader = (listening r s).loader ∧ (enterListen r s).share = (listening r s).share
      ∧ (enterListen r s).line = (listening r s).line ∧ (enterListen r s).alarms = (listening r s).alarms
      ∧ (enterListen r s).poles = (listening r s).poles
      ∧ (enterListen r s).supply.voltageOk = (listening r s).supply.voltageOk
      ∧ (enterListen r s).supply.windowStart = (listening r s).supply.windowStart := by
  rw [enterListen_eq]
  simp

/-- Settles O11: the record that passed is locked, what starts is read off listen entry, and the exit of GAP changes the view only. -/
theorem goodRecordStartsListening : Obligations.GoodRecordStartsListening := by
  intro dt bytes s r reading length good
  obtain ⟨u, hu⟩ : ∃ u, u = bytesRead bytes (advance dt s) := ⟨_, rfl⟩
  have run : exec (.configReadComplete dt bytes) s = .next (enterListen r u) := by
    rw [exec_configReadComplete bytes reading.1, completeRead_passes reading length good, hu]
  obtain ⟨decoded, crc⟩ := checkRecord_passes good
  obtain ⟨loader, share, line, alarms, poles, voltageOk, windowStart⟩ := enterListen_keeps_listening r u
  obtain ⟨loader', supply', shed', -⟩ := listening_keeps r u
  obtain ⟨share', alarms', peers', clock', pending'⟩ := listening_starts r u
  obtain ⟨line', -, port'⟩ := listening_stands r u
  obtain ⟨clock, pending⟩ := enterListen_keeps r u
  have time : now (enterListen r u) = now u := now_of_clock clock
  refine ⟨_, run, decoded, crc, ?_, ?_, ?_, ?_, ?_, ?_, fun col => ?_, fun other => ?_, fun input => ?_,
    fun noInput gap records table alone => ?_, ?_, ?_⟩
  · rw [loader, loader', hu]; rfl
  · rw [share, share', time, hu]; rfl
  · rw [line, line', hu]; rfl
  · rw [alarms, alarms', clock, hu]; rfl
  · rw [voltageOk, supply']
  · rw [windowStart, supply', time]
  · rw [poles, listening_poles_col u col, time, hu]; rfl
  · rw [poles, listening_poles_other u other, hu]; rfl
  · rw [time, enterListen_waits u input, supply', peers', shed', port', input, hu]
    exact ⟨rfl, rfl, rfl, rfl⟩
  · subst hu
    exact enterListen_onLine noInput gap records table alone
  · rw [clock, hu]; rfl
  · rw [pending, hu]; rfl

end Sys2Proof.Machine
end

section
/-!
The requests of the local port: what a request spells is decoded to it, and only that is (R160, Table 10-6).
-/
namespace Sys2Proof.Machine

/-! ### The word operand -/

theorem toNat_append_byte (a b : Byte) : (a ++ b).toNat = nat16 a b := by
  rw [BitVec.toNat_append, ← Nat.shiftLeft_add_eq_or_of_lt b.isLt, Nat.shiftLeft_eq]
  rfl

/-- Two bytes joined to a word are the bytes that word is sent as. -/
theorem bytes16_append (a b : Byte) : bytes16 (a ++ b).toNat = [a, b] := by
  have high : byteOf (nat16 a b / 256) = a := BitVec.eq_of_toNat_eq (by simp only [nat16, byteOf, BitVec.toNat_ofNat]; omega)
  have low : byteOf (nat16 a b) = b := BitVec.eq_of_toNat_eq (by simp only [nat16, byteOf, BitVec.toNat_ofNat]; omega)
  rw [toNat_append_byte, bytes16, high, low]

/-- The two bytes that a word is sent as join to that word. -/
theorem append_bytes16 (v : BitVec 16) : byteOf (v.toNat / 256) ++ byteOf v.toNat = v :=
  BitVec.eq_of_toNat_eq ((toNat_append_byte _ _).trans (nat16_bytes16 v.isLt))

/-! ### The first byte: code and length -/

/-- A first byte is its code and the number of bytes that follow (Table 10-6). -/
theorem byteOf_code_length (first : Byte) : byteOf (first.toNat / 4 * 4 + first.toNat % 4) = first := by
  rw [Nat.div_add_mod', byteOf, BitVec.ofNat_toNat, BitVec.setWidth_eq]

/-- The bytes of the request that a code and the bytes after the first name: they fix the first byte. -/
theorem requestBytes_of_requestOf {code : Nat} {bytes : List Byte} {r : Request} (named : requestOf code bytes = some r) :
    requestBytes r = byteOf (code * 4 + bytes.tail.length) :: bytes.tail := by
  unfold requestOf at named
  split at named <;> cases named
  case h_1 | h_2 | h_3 => rw [requestBytes, bytes16_append]; rfl
  all_goals rfl

/-! ### Both directions -/

/-- A frame of whole bytes that passes the length and the request-known check (R140). -/
theorem decodeRequest_ok {bytes : List Byte} {r : Request} (decoded : decodeRequest bytes 0 = .ok r) :
    ∃ first rest, bytes = first :: rest ∧ rest.length = first.toNat % 4 ∧ requestOf (first.toNat / 4) bytes = some r := by
  unfold decodeRequest at decoded
  split at decoded
  case h_1 => cases decoded
  case h_2 first rest =>
    split at decoded
    case isTrue => cases decoded
    case isFalse passes =>
      have length : rest.length = first.toNat % 4 := by simpa using passes
      split at decoded
      case h_1 named => cases decoded; exact ⟨first, rest, rfl, length, named⟩
      case h_2 => cases decoded

theorem decodeRequest_requestBytes (r : Request) : decodeRequest (requestBytes r) 0 = .ok r := by
  cases r with
  | postDemand a => exact congrArg (fun v => Except.ok (Request.postDemand v)) (append_bytes16 a)
  | postSource a => exact congrArg (fun v => Except.ok (Request.postSource v)) (append_bytes16 a)
  | capCeiling a => exact congrArg (fun v => Except.ok (Request.capCeiling v)) (append_bytes16 a)
  | _ => rfl

/-- Settles O19: a request is read back from its bytes, and the code and length in the first byte leave no other bytes for it. -/
theorem requestCodingRoundTrip : Obligations.RequestCodingRoundTrip := by
  refine fun bytes r => ⟨fun decoded => ?_, fun spelled => spelled ▸ decodeRequest_requestBytes r⟩
  obtain ⟨first, rest, rfl, length, named⟩ := decodeRequest_ok decoded
  rw [requestBytes_of_requestOf named, List.tail_cons, length, byteOf_code_length]

end Sys2Proof.Machine
end

section
/-!
The step, and what every command does whatever its effect: it answers a next state, the queue stands, and a command that brings time
and is no reset moves the clock on by that time (95_what_each_step_holds.md; assumption logs 1, 24 and 28).
-/
namespace Sys2Proof.Machine

/-! ### The step -/

/-- Settles O1: the queue's front is taken off before its command is carried out. -/
theorem stepRunsFrontCommand : Obligations.StepRunsFrontCommand := fun _ _ => rfl

/-- Settles O2: with nothing in the queue the step answers the state it found. -/
theorem emptyQueueIdles : Obligations.EmptyQueueIdles := by
  intro s idle
  rw [step, idle]

/-! ### Effects that leave the clock and the queue -/

/-- Whatever an effect does to the blocks, it leaves the clock and the queue as they stand. -/
def LeavesTime (effect : State → State) : Prop := ∀ u, (effect u).clock = u.clock ∧ (effect u).pending = u.pending

/-- A request that answers NOT_RUNNING leaves all, so the running check leaves what the request leaves (R140). -/
theorem LeavesTime.whenRunning {take : State → Answer} (leaves : LeavesTime fun u => (take u).1) :
    LeavesTime fun u => (whenRunning take u).1 := by
  intro u
  dsimp only
  rw [whenRunning_fst]
  split
  · exact leaves u
  · exact ⟨rfl, rfl⟩

/-- The exchange of a frame is the port's own, and an abandoned frame is not taken (R138, R139). -/
theorem LeavesTime.takeFrame {take : State → Answer} (leaves : LeavesTime fun u => (take u).1) (cut : Nat) (bytes : List Byte)
    (strayBits : Nat) : LeavesTime (takeFrame cut bytes strayBits take) := by
  intro u
  obtain ⟨clock, pending⟩ := leaves u
  unfold Machine.takeFrame
  split
  · exact ⟨rfl, rfl⟩
  · exact ⟨clock, pending⟩

/-! ### Every command -/

/-- A command's answer: a next state with the same queue, in which station time has moved on by what the command brought, unless the
command is a reset or a reset is held. -/
def Answers (c : Instr) (s : State) : Prop :=
  ∃ t, exec c s = .next t ∧ t.pending = s.pending
    ∧ ∀ dt, inReset s = false → c.elapsed = some dt → c.isReset = false → t.clock = tickClock s.clock dt

/-- A reset answers, and says nothing of the time: the clock restarts (R153) or stands. -/
theorem Answers.of_reset {c : Instr} {s t : State} (reset : c.isReset = true) (row : exec c s = .next t)
    (queue : t.pending = s.pending) : Answers c s :=
  ⟨t, row, queue, fun _ _ _ other => absurd (reset.symm.trans other) nofun⟩

/-- A command performed on the time before it moves the clock by that time. -/
theorem Answers.of_perform {c : Instr} {dt : Nat} {effect : State → State} {s : State} (timed : c.elapsed = some dt)
    (row : exec c s = perform dt effect s) (leaves : LeavesTime effect) : Answers c s := by
  obtain ⟨clock, queue⟩ := leaves (advance dt s)
  cases held : inReset s with
  | true => exact ⟨s, row.trans (perform_held dt effect held), rfl, fun _ free => absurd (held.symm.trans free) nofun⟩
  | false =>
    refine ⟨_, row.trans (perform_working dt effect held), queue, fun dt' _ timed' _ => ?_⟩
    cases timed.symm.trans timed'
    exact clock

theorem performFrame_working (frame : PortFrame) (n : Nat) (effect : State → State) {s : State} (free : inReset s = false) :
    performFrame frame n effect s = .next (effect (advance frame.dt s)) := by
  rw [performFrame, if_neg (by simp [free]), perform_working _ _ free]

/-- A request frame is such a command outside a held reset, and in one it changes the port alone. -/
theorem Answers.of_frame {c : Instr} {frame : PortFrame} {n : Nat} {effect : State → State} {s : State}
    (timed : c.elapsed = some frame.dt) (row : exec c s = performFrame frame n effect s) (leaves : LeavesTime effect) :
    Answers c s := by
  cases held : inReset s with
  | true => exact ⟨_, row.trans (performFrame_held frame n effect held), rfl, fun _ free => absurd (held.symm.trans free) nofun⟩
  | false => exact .of_perform timed (row.trans ((performFrame_working _ _ _ held).trans (perform_working _ _ held).symm)) leaves

theorem Answers.of_request {c : Instr} {frame : PortFrame} {r : Request} {take : State → Answer} {s : State}
    (timed : c.elapsed = some frame.dt) (row : exec c s = performRequest frame r take s)
    (leaves : LeavesTime fun u => (take u).1) : Answers c s :=
  .of_frame timed row (leaves.takeFrame _ _ _)

/-- MODULE_RESET comes in a request frame and is a reset: the queue stands on both ways to take the frame. -/
theorem answers_moduleReset (frame : PortFrame) (straps : BitVec 3) (s : State) : Answers (.moduleReset frame straps) s := by
  have row : exec (.moduleReset frame straps) s = performFrame frame _ (takeModuleReset frame.cut straps) s := rfl
  cases held : inReset s with
  | true => exact .of_reset rfl (row.trans (performFrame_held _ _ _ held)) rfl
  | false => exact .of_reset rfl (row.trans (performFrame_working _ _ _ held)) (by simp)

theorem exec_answers (c : Instr) (s : State) : Answers c s := by
  cases c with
  | powerOnReset | resetPin | resetPinAsserted | supplyBelowOperatingLevel => exact .of_reset rfl rfl (by simp)
  | moduleReset frame straps => exact answers_moduleReset frame straps s
  | postDemand | postSource | capCeiling | ackAlarm | releaseRetrieve =>
    exact .of_request rfl rfl (.whenRunning fun u => by simp)
  | readStatus | readPeer | readAlarms | readHistory | clearAttention | clearCounters =>
    exact .of_request rfl rfl fun u => by simp
  | unknownRequest => exact .of_frame rfl rfl fun u => by simp
  | frameTruncation dt idle bytes gap =>
    exact .of_perform (effect := fun u => receive gap [] false (receive idle bytes false u)) rfl rfl fun u => by simp
  | _ => exact .of_perform rfl rfl fun u => by simp

/-- Settles O3: a command is a reset or is performed, and no effect touches the queue. -/
theorem everyCommandAnswersNext : Obligations.EveryCommandAnswersNext := by
  intro c s
  obtain ⟨t, row, queue, -⟩ := exec_answers c s
  exact ⟨t, row, queue⟩

/-- Settles O5: outside the resets the clock is moved by the tick alone, whose millisecond count wraps. -/
theorem stationTimeAdvances : Obligations.StationTimeAdvances := by
  intro c dt s t free timed other row
  obtain ⟨t', row', -, moves⟩ := exec_answers c s
  obtain rfl : t = t' := Host.Outcome.next.inj (row.symm.trans row')
  rw [moves dt free timed other]
  refine ⟨?_, rfl, rfl⟩
  rw [tickClock, later, BitVec.toNat_add, BitVec.toNat_ofNat, Nat.add_mod_mod]

end Sys2Proof.Machine
end
